-- ==== Sys2Proof/Word.lean ====
section
/-! DEFINITION. The words of the EC642 and the two fixed-size containers: a table of n like entries, and
one item for each rig or port. -/

namespace Sys2Proof

/-- A byte of a port, a beacon or a timecode record. -/
abbrev Byte := BitVec 8

/-- A slot word of a link (00 Audio samples): 32 bits, of which the upper eight are ignored when received. -/
abbrev SlotWord := BitVec 32

/-- An audio sample: the low 24 bits of a slot word, two's complement. -/
abbrev Sample := BitVec 24

/-- A value of the sample counter S, or an anchor derived from one (R1). -/
abbrev Stamp := BitVec 32

/-- R1: a difference of stamps is formed modulo 2^32 and read as a signed number. -/
def stampDiff (x y : Stamp) : Int := (x - y).toInt

/-- A table of exactly `n` entries (00 Collections: every entry is always present). -/
structure Table (n : Nat) (α : Type) where
  list : List α
  len : list.length = n
deriving DecidableEq, Repr

/-- Entry `i` of a table. -/
def Table.get {n : Nat} {α : Type} (t : Table n α) (i : Fin n) : α :=
  t.list[i.val]'(by have := t.len; omega)

/-- The table with entry `i` replaced. -/
def Table.set {n : Nat} {α : Type} (t : Table n α) (i : Fin n) (x : α) : Table n α :=
  ⟨t.list.set i.val x, by simp [t.len]⟩

/-- The table whose entry `i` is `f i`. -/
def Table.tab {n : Nat} {α : Type} (f : Fin n → α) : Table n α :=
  ⟨(List.finRange n).map f, by simp⟩

/-- The table whose entries are all `x`. -/
def Table.fill {α : Type} (n : Nat) (x : α) : Table n α :=
  ⟨List.replicate n x, by simp⟩

/-- Every entry changed by one function. -/
def Table.map {n : Nat} {α β : Type} (f : α → β) (t : Table n α) : Table n β :=
  ⟨t.list.map f, by simp [t.len]⟩

/-- Every entry changed by a function that sees its index. -/
def Table.update {n : Nat} {α β : Type} (f : Fin n → α → β) (t : Table n α) : Table n β :=
  ⟨((List.finRange n).zip t.list).map (fun p => f p.1 p.2), by simp [t.len]⟩

/-- The rigs (00 Numbering). Rig A always arrives on Link A and Rig B on Link B, so a link is named by its rig. -/
inductive Rig where
  | a | b
deriving DecidableEq, Repr

/-- The other rig. -/
def Rig.other : Rig → Rig
  | .a => .b
  | .b => .a

/-- One item for each rig. -/
structure PerRig (α : Type) where
  a : α
  b : α
deriving DecidableEq, Repr

/-- The item of a rig. -/
def PerRig.get {α : Type} (p : PerRig α) : Rig → α
  | .a => p.a
  | .b => p.b

/-- The pair with one rig's item replaced. -/
def PerRig.set {α : Type} (p : PerRig α) (r : Rig) (x : α) : PerRig α :=
  match r with
  | .a => ⟨x, p.b⟩
  | .b => ⟨p.a, x⟩

/-- A function applied to both items. -/
def PerRig.map {α β : Type} (p : PerRig α) (f : α → β) : PerRig β := ⟨f p.a, f p.b⟩

/-- The three control ports (00 Numbering). -/
inductive Port where
  | a | b | p
deriving DecidableEq, Repr

/-- One item for each port. -/
structure PerPort (α : Type) where
  a : α
  b : α
  p : α
deriving DecidableEq, Repr

/-- The item of a port. -/
def PerPort.get {α : Type} (t : PerPort α) : Port → α
  | .a => t.a
  | .b => t.b
  | .p => t.p

/-- The triple with one port's item replaced. -/
def PerPort.set {α : Type} (t : PerPort α) (q : Port) (x : α) : PerPort α :=
  match q with
  | .a => ⟨x, t.b, t.p⟩
  | .b => ⟨t.a, x, t.p⟩
  | .p => ⟨t.a, t.b, x⟩

/-- Every port's item changed by one function. -/
def PerPort.map {α β : Type} (f : α → β) (t : PerPort α) : PerPort β :=
  ⟨f t.a, f t.b, f t.p⟩

end Sys2Proof
end

