-- ==== Sys2Proof/Config.lean ====
section
/-! DEFINITION. What is fixed for the part: the units of the internal reference and the sizes the rules name.
No value of the part is left undefined by the manual, so there is no free value here. -/

namespace Sys2Proof.Config

/-- Units of the internal reference in one nominal period at 48 kHz (R3). DESIGN CHOICE (log 5): the manual
gives the fractions of a period, not a resolution; every fraction it names is a whole number of units. -/
def unitsAt48k : Nat := 8192

/-- Units of the internal reference in one nominal period at 96 kHz (R3): half as long. -/
def unitsAt96k : Nat := 4096

/-- Consecutive good house periods that return the Clock Input to LOCKED (R7). -/
def returnPeriods : Nat := 1024

/-- Consecutive good frames that gain lock (R11). -/
def lockFrames : Nat := 64

/-- Frames kept while acquiring, and the fill after lock (R11). -/
def keptFrames : Nat := 4

/-- Capacity of an elastic store (section 1.4). -/
def storeCapacity : Nat := 8

/-- Sample instants without a marker that take a link to ABSENT (R13). -/
def absenceLimit : Nat := 4096

/-- Positions of a delay ring (R61). -/
def ringLength : Nat := 1024

/-- Most guard channels watched (R42). -/
def guardChannels : Nat := 4

/-- Capacity of the changeover history (R102). -/
def historyLength : Nat := 16

end Sys2Proof.Config
end

