-- ==== Sys2Proof/Syntax.lean ====
section
/-! DEFINITION. The commands of the EC642: one constructor for each row of spec/opcode_table.json. The table
gives no operands, so each constructor's operands are read from its rule (log 1, log 9, log 12, log 20). -/

namespace Sys2Proof

/-- What a full reset followed (R200). -/
inductive ResetCause where
  | powerOn | resetLine
deriving DecidableEq, Repr

/-- What the four lanes of a link have delivered to a frame window (R9): for each lane the sixteen
slot words of its complete lane frame, or none. -/
abbrev LaneFrames := Table 4 (Option (Table 16 SlotWord))

/-- The blocks that take a beacon accepted event, each on its own state and in no fixed order (R28, R142, R154, R202). -/
inductive BeaconReader where
  | health | guardMonitor | alignment | showClock | matchers | arbiter | bankStore | groupMixer | otherParser
deriving DecidableEq, Repr

/-- The six banked tables, ids 16 to 21 (R163). -/
inductive BankedTable where
  | route | group | song | matcher | faultPolicy | monitorPolicy
deriving DecidableEq, Repr

/-- A part of a READ on a port (R176, R177): bytes shifted after the command byte, each bringing one byte out,
or the deselect that ends it. -/
inductive ReadPart where
  | shift (bytes : List Byte)
  | deselect
deriving DecidableEq, Repr

/-- A transaction cut within a byte (R174): the bytes shifted whole before the cut, from the command byte on, or on a port whose
command byte was shifted before, after what was shifted; and the bits of the last byte. -/
structure Cut where
  bytes : List Byte
  bits : Nat
deriving DecidableEq, Repr

/-- The commands. `dt` is the time, in units of the internal reference, since the command before it that carried
or made time pass. `body` is every byte the master shifts after the command byte (and, for a WRITE, after
the table id where the constructor names the table) up to the deselect, the check byte included. -/
inductive Instr where
  /-- FULL_RESET (R200). -/
  | fullReset (cause : ResetCause)
  /-- RESTART (R187). -/
  | restart (port : Port) (body : List Byte)
  /-- HOUSE_CLOCK_EDGE (R5, R7). -/
  | houseClockEdge (dt : Nat)
  /-- SUBSTITUTED_INCREMENT (R5). -/
  | substitutedIncrement
  /-- HOLDOVER_INCREMENT (R4). -/
  | holdoverIncrement
  /-- CLOCK_LOSS (R6). -/
  | clockLoss
  /-- RETURN_COUNTER_TIMEOUT (R7). -/
  | returnCounterTimeout
  /-- CLOCK_RETURN (R7). -/
  | clockReturn
  /-- LANE_FRAME_MARKER (R9): `complete` says which lanes' frames of the open window were complete when it came. -/
  | laneFrameMarker (dt : Nat) (link : Rig) (lane : Fin 4) (complete : Table 4 Bool)
  /-- FRAME_ARRIVAL (R9): what the lanes have delivered to the open window, which closes when it is old enough. -/
  | frameArrival (dt : Nat) (link : Rig) (lanes : LaneFrames)
  /-- MISSING_FRAME (R10). -/
  | missingFrame (link : Rig)
  /-- LOCK_GAINED (R11). -/
  | lockGained (link : Rig)
  /-- LOCK_LOST (R12). -/
  | lockLost (link : Rig)
  /-- LINK_ABSENT (R13). -/
  | linkAbsent (link : Rig)
  /-- BEACON_COMPLETE (R26): `order` lists the blocks in the order they take an acceptance. -/
  | beaconComplete (rig : Rig) (order : List BeaconReader)
  /-- MISSING_PRESENT (R34). -/
  | missingPresent (rig : Rig)
  /-- HEALTH_TICK_END (R39): `first` is the rig whose new health state is handed on first. -/
  | healthTickEnd (first : Rig)
  /-- QUALIFICATION (R46). -/
  | qualification (rig : Rig)
  /-- RESTORE_COMPLETE (R54). -/
  | restoreComplete (rig : Rig)
  /-- CLEAR_HISTORY (R57). -/
  | clearHistory (port : Port) (body : List Byte)
  /-- OFFSET_ACCEPTANCE (R70). -/
  | offsetAcceptance
  /-- ALIGNMENT_HELD (R72). -/
  | alignmentHeld
  /-- HOLD_LIMIT (R73). -/
  | holdLimit
  /-- START (R84). -/
  | start (port : Port) (body : List Byte)
  /-- STOP (R85). -/
  | stop (port : Port) (body : List Byte)
  /-- TAKE (R96). -/
  | take (port : Port) (body : List Byte)
  /-- SET_MODE (R98). -/
  | setMode (port : Port) (body : List Byte)
  /-- TRANSITION_COMPLETE (R111). -/
  | transitionComplete (group : Fin 8)
  /-- SET_GROUP (R117). -/
  | setGroup (port : Port) (body : List Byte)
  /-- WRITE_GROUP_STATE (R122): a WRITE naming id 5. -/
  | writeGroupState (port : Port) (body : List Byte)
  /-- SLEW_STEP (R133). -/
  | slewStep
  /-- FREEWHEEL_LIMIT (R135). -/
  | freewheelLimit
  /-- FRAME_BOUNDARY (R136). -/
  | frameBoundary
  /-- HELD_RECORD (R136). -/
  | heldRecord
  /-- RECORD_SEND_END (R137). -/
  | recordSendEnd
  /-- WRITE_CLOCK_CONTROL (R139): a WRITE naming id 25. -/
  | writeClockControl (port : Port) (body : List Byte)
  /-- CLOCK_FINISH (R140). -/
  | clockFinish (port : Port) (body : List Byte)
  /-- WRITE_BANKED_TABLE (R164): a WRITE naming the id of a banked table. -/
  | writeBankedTable (port : Port) (table : BankedTable) (body : List Byte)
  /-- WRITE_SHOW_SETUP (R161): a WRITE naming id 24. -/
  | writeShowSetup (port : Port) (body : List Byte)
  /-- RELEASE_CLAIM (R166). -/
  | releaseClaim (port : Port) (body : List Byte)
  /-- COPY_BANK (R167). -/
  | copyBank (port : Port) (body : List Byte)
  /-- EXCHANGE (R169). -/
  | exchange (port : Port) (body : List Byte)
  /-- CANCEL_EXCHANGE (R171). -/
  | cancelExchange (port : Port) (body : List Byte)
  /-- PORT_SELECT (R175). -/
  | portSelect (port : Port)
  /-- READ (R176). -/
  | read (port : Port) (part : ReadPart)
  /-- WRITE (R179): a WRITE that no other row takes. `body` begins with the table id. -/
  | write (port : Port) (body : List Byte)
  /-- FRAMING (R174): the deselect falls within a byte. -/
  | framing (port : Port) (cut : Cut)
  /-- UNKNOWN (R178): `code` is the command byte. -/
  | unknown (port : Port) (code : Byte) (body : List Byte)
  /-- ACK (R186). -/
  | ack (port : Port) (body : List Byte)
  /-- WRITE_NOTICE_MASK (R185): a WRITE naming id 27. -/
  | writeNoticeMask (port : Port) (body : List Byte)
  /-- LAMP_STEP_BOUNDARY (R197). -/
  | lampStepBoundary
  /-- WRITE_LAMP_PATTERNS (R197): a WRITE naming id 26. -/
  | writeLampPatterns (port : Port) (body : List Byte)
  /-- SET_LAMP (R199). -/
  | setLamp (port : Port) (body : List Byte)
deriving DecidableEq, Repr

/-- The command bytes the manual defines (R192). -/
def definedCodes : List Byte :=
  [0x01, 0x02, 0x10, 0x11, 0x12, 0x13, 0x14, 0x20, 0x21, 0x22, 0x23, 0x30, 0x31, 0x32, 0x33, 0x3F]

/-- The table ids whose WRITE is a row of its own (R179). -/
def writableIds : List Byte :=
  [5, 16, 17, 18, 19, 20, 21, 24, 25, 26, 27]

end Sys2Proof
end

