-- ==== Sys2Proof/Decode.lean ====
section
/-! DEFINITION. The commands a word spells by the table's bits. No row of the table gives bits, so no word spells one
(log 23). -/

namespace Sys2Proof

/-- The command that a word of `nbits` bits spells: none, since the table gives no row any bits (log 23). -/
def decodeTableWord (_nbits _w : Nat) : Option Instr := none

end Sys2Proof
end

