-- ==== Sys2Proof/WellFormed.lean ====
section
/-! DEFINITION. Which commands are events the part can meet: the checks a term's operands must pass. A command that
fails them names no event, and its meaning changes nothing (log 22). -/

namespace Sys2Proof

/-- The operand checks of each command. -/
def Instr.wellFormed : Instr → Bool
  | .framing _ cut => decide (1 ≤ cut.bits) && decide (cut.bits ≤ 7)
  | .unknown _ code _ => !definedCodes.contains code
  | .write _ body =>
    match body with
    | [] => true
    | id :: _ => !writableIds.contains id
  | .beaconComplete _ _ => true
  | .fullReset _ => true
  | .restart _ _ => true
  | .houseClockEdge _ => true
  | .substitutedIncrement => true
  | .holdoverIncrement => true
  | .clockLoss => true
  | .returnCounterTimeout => true
  | .clockReturn => true
  | .laneFrameMarker _ _ _ _ => true
  | .frameArrival _ _ _ => true
  | .missingFrame _ => true
  | .lockGained _ => true
  | .lockLost _ => true
  | .linkAbsent _ => true
  | .missingPresent _ => true
  | .healthTickEnd _ => true
  | .qualification _ => true
  | .restoreComplete _ => true
  | .clearHistory _ _ => true
  | .offsetAcceptance => true
  | .alignmentHeld => true
  | .holdLimit => true
  | .start _ _ => true
  | .stop _ _ => true
  | .take _ _ => true
  | .setMode _ _ => true
  | .transitionComplete _ => true
  | .setGroup _ _ => true
  | .writeGroupState _ _ => true
  | .slewStep => true
  | .freewheelLimit => true
  | .frameBoundary => true
  | .heldRecord => true
  | .recordSendEnd => true
  | .writeClockControl _ _ => true
  | .clockFinish _ _ => true
  | .writeBankedTable _ _ _ => true
  | .writeShowSetup _ _ => true
  | .releaseClaim _ _ => true
  | .copyBank _ _ => true
  | .exchange _ _ => true
  | .cancelExchange _ _ => true
  | .portSelect _ => true
  | .read _ _ => true
  | .ack _ _ => true
  | .writeNoticeMask _ _ => true
  | .lampStepBoundary => true
  | .writeLampPatterns _ _ => true
  | .setLamp _ _ => true

end Sys2Proof
end

