-- ==== Sys2Proof/Machine/State.lean ====
section
/-! DEFINITION. The state of the EC642 as plain data, everything the manual gives the part, and State.reset, the
part right after a full reset that followed power-on. -/

namespace Sys2Proof.Machine

open Sys2Proof

/-- One link frame of 64 slots; of each slot word the low 24 bits (R9: the upper eight bits are ignored). -/
abbrev Frame := Table 64 Sample

/-- The all-zero frame of a link that is not LOCKED (R16). -/
def zeroFrame : Frame := Table.fill 64 0

/-! ### Clock Input (chapter 1) -/

/-- What S follows (R4). -/
inductive ClockSource where
  | locked | holdover
deriving DecidableEq, Repr

/-- The Clock Input (section 1.1). Times are in units of the internal reference (log 5). -/
structure ClockInput where
  /-- LOCKED or HOLDOVER. -/
  source : ClockSource
  /-- Consecutive good house periods seen in HOLDOVER, 0..1024 (R7). -/
  returnCounter : Nat
  /-- The sample counter S (R4). -/
  count : Stamp
  /-- Time since the previous sample instant (R4, R5). -/
  sinceInstant : Nat
  /-- Time since the last house clock edge, counted, absorbed or glitch (R5, R6, R7); none before the first (log 6). -/
  sinceEdge : Option Nat
  /-- A substituted increment awaits the edge that belongs to it (R5). -/
  absorbing : Bool
  /-- After a return, the first house-driven increment is still awaited (R7, log 7). -/
  joining : Bool
deriving DecidableEq, Repr

/-! ### Link Receivers and the output link (chapter 1) -/

/-- Link state (section 1.3). -/
inductive LinkState where
  | absent | acquiring | locked
deriving DecidableEq, Repr

/-- No lane has delivered anything. -/
def noLanes : LaneFrames := Table.fill 4 none

/-- An open frame window (R9): its age in reference units, the lanes whose marker arrived inside it, and the complete lane
frames they have delivered to it. -/
structure Window where
  age : Nat
  marked : Table 4 Bool
  frames : LaneFrames := noLanes
deriving DecidableEq, Repr

/-- A Link Receiver (sections 1.2 to 1.4). -/
structure LinkRx where
  state : LinkState
  /-- Consecutive good frames while ACQUIRING, 0..64 (R11). -/
  acquisition : Nat
  /-- The most recent good frames while ACQUIRING, oldest first, at most four (R11). -/
  kept : List Frame
  /-- Consecutive bad frames while LOCKED, 0..2 (R12). -/
  badFrames : Nat
  /-- The elastic store, oldest first, at most eight (R14, R15). -/
  store : List Frame
  /-- The frame most recently delivered (R14). -/
  lastRead : Option Frame
  /-- The last frame written, which concealment copies (R12, log 10). -/
  lastWritten : Option Frame
  /-- Slip count, wrapping (R14, R15). -/
  slips : BitVec 16
  /-- Lane error counts, wrapping (R9). -/
  laneErrors : Table 4 (BitVec 16)
  /-- The open frame window (R9). -/
  window : Option Window
  /-- Sample instants since a window opened or a missing frame (R10). -/
  sinceWindow : Nat
  /-- Sample instants since the last marker on any lane (R13). -/
  sinceMarker : Nat
deriving DecidableEq, Repr

/-! ### Beacon Parsers (chapter 2) -/

/-- Transport of a beacon (R25). -/
inductive Transport where
  | stopped | cued | playing
deriving DecidableEq, Repr

/-- The self flags of a beacon (R190). -/
structure SelfFlags where
  engineFault : Bool
  mediaFault : Bool
  handoverRequest : Bool
deriving DecidableEq, Repr

/-- The Rig Status Record (section 2.4). -/
structure RigRecord where
  sequence : Byte
  transport : Transport
  song : Byte
  sectionByte : Byte
  flags : SelfFlags
  position : Stamp
  user : BitVec 16
  stamp : Stamp
  anchor : Option Stamp
  received : BitVec 16
deriving DecidableEq, Repr

/-- Assembly state (section 2.2): WAITING, or ASSEMBLING with the buffer and the candidate stamp. -/
inductive Assembly where
  | waiting
  | assembling (buffer : List Byte) (stamp : Stamp)
deriving DecidableEq, Repr

/-- Sixteen bytes that wait to be judged, with their candidate stamp (R22). -/
structure Judging where
  bytes : List Byte
  stamp : Stamp
deriving DecidableEq, Repr

/-- A Beacon Parser (chapter 2). -/
structure Parser where
  assembly : Assembly
  /-- A complete beacon whose BEACON_COMPLETE is not taken yet (log 1). -/
  judging : Option Judging
  record : Option RigRecord
  /-- Beacon age, 0..65,535 or none (R34). -/
  age : Option Nat
  /-- An event has set the age at the present moment: a sample instant at this moment does not increase it (R34). -/
  ageSet : Bool
  /-- MISSING present (R34). -/
  missing : Bool
  /-- SELF present (R35). -/
  selfFault : Bool
  /-- DIVERGED present (R36). -/
  diverged : Bool
  /-- Valid beacon count, wrapping (R28). -/
  valid : BitVec 16
  /-- Rejected beacon count, wrapping (R37). -/
  rejected : BitVec 16
deriving DecidableEq, Repr

/-! ### Guard Monitors and Health Qualifiers (chapter 3) -/

/-- The eleven fault kinds in their fixed order (R38). -/
inductive FaultKind where
  | link | slip | missing | corrupt | sequence | position | identity | silent | frozen | self | diverged
deriving DecidableEq, Repr

/-- A kind's number (R38). -/
def FaultKind.idx : FaultKind → Fin 11
  | .link => 0
  | .slip => 1
  | .missing => 2
  | .corrupt => 3
  | .sequence => 4
  | .position => 5
  | .identity => 6
  | .silent => 7
  | .frozen => 8
  | .self => 9
  | .diverged => 10

/-- A set of fault kinds. -/
abbrev KindSet := Table 11 Bool

/-- The empty set of fault kinds. -/
def noKinds : KindSet := Table.fill 11 false

/-- What a Guard Monitor accumulates for one guard channel over a tick (R43). -/
structure GuardMarks where
  first : Sample
  silent : Bool
  steady : Bool
deriving DecidableEq, Repr

/-- The last tick-end decision for a watched channel (R60): its route entry and its two marks. -/
structure GuardDecision where
  entry : Fin 64
  silent : Bool
  steady : Bool
deriving DecidableEq, Repr

/-- A Guard Monitor (section 3.2). -/
structure Guard where
  /-- One item for each watched channel; none until the first sample instant of the tick (R43). -/
  marks : Option (List GuardMarks)
  /-- The playing mark (R43). -/
  playing : Bool
  /-- The tick in progress is void (R45). -/
  void : Bool
  /-- The tick after the one about to end is void too (R45, log 30). -/
  voidNext : Bool
  /-- SILENT present (R44). -/
  silent : Bool
  /-- FROZEN present (R44). -/
  frozen : Bool
  decisions : List GuardDecision
deriving DecidableEq, Repr

/-- Health states (section 3.4), in the order of the Health view (R195). -/
inductive HealthState where
  | offline | recovering | healthy | suspect | failed
deriving DecidableEq, Repr

/-- A Health Qualifier (chapter 3). -/
structure Health where
  state : HealthState
  /-- In-tick flags (R40). -/
  flags : KindSet
  /-- Qualify counters, 0..255 (R46). -/
  counters : Table 11 Nat
  /-- Restore counter, 0..4095 (R54). -/
  restore : Nat
  /-- Kinds that stepped up to their delay and await QUALIFICATION (R46, log 1). -/
  qualifying : KindSet
  /-- Fault history (R56). -/
  history : KindSet
  /-- Failure count, 0..255 (R56). -/
  failures : Nat
  /-- Event kinds that happened in the current tick, for the Health view (R60, log 33). -/
  events : KindSet
  /-- The rig has relapsed at the present instant, so further enabled evidence of it is of the same relapse (R54). -/
  relapsed : Bool
deriving DecidableEq, Repr

/-- A rig's health state as it is handed on (R55). -/
structure Handing where
  /-- The state before the present instant. -/
  before : HealthState
  /-- The state last handed on, which the other blocks read. -/
  handed : HealthState
deriving DecidableEq, Repr

/-- What a tick end of the present instant leaves of a rig with no guard condition decided: a restart of the Guard Monitor
at the same instant makes it stand (R45). -/
structure Unguarded where
  health : Health
  diverged : Bool
deriving DecidableEq, Repr

/-- What the blocks that have yet to take the beacon being accepted may bring about at this instant (R28, R55). -/
structure Coming where
  /-- Evidence of each rig. -/
  evidence : PerRig Bool
  /-- The taking of an exchange. -/
  exchange : Bool
deriving DecidableEq, Repr

/-- What the Health Qualifiers keep of the present instant (R45, R55, log 40). -/
structure HealthInstant where
  handing : PerRig Handing
  /-- What the acceptance under way has yet to bring. -/
  coming : Coming
  /-- None when no health tick has ended at this instant. -/
  unguarded : Option (PerRig Unguarded)
deriving DecidableEq, Repr

/-! ### Trim Delay Lines and the Alignment Monitor (chapter 4) -/

/-- The rings of one line: (position, frame) with positions strictly rising and no all-zero frame. -/
abbrev Rings := List (Nat × Frame)

/-- A Trim Delay Line (section 4.1): current delay 0..1023 and the 64 delay rings, which are written together. -/
structure TrimLine where
  delay : Nat
  rings : Rings
deriving DecidableEq, Repr

/-- Alignment states (section 4.4), in the order of the Alignment view (R195). -/
inductive AlignState where
  | none | confirming | accepted | outOfReach | held
deriving DecidableEq, Repr

/-- The candidate offset and its confirm count (R69). -/
structure Candidate where
  offset : Int
  count : Nat
deriving DecidableEq, Repr

/-- A deferred delay (R75). -/
structure Deferred where
  link : Rig
  delay : Nat
deriving DecidableEq, Repr

/-- The last measurement (R65). -/
structure Measurement where
  offset : Int
  instant : Stamp
  rig : Rig
deriving DecidableEq, Repr

/-- The Alignment Monitor (section 4.4). -/
structure Alignment where
  state : AlignState
  candidate : Option Candidate
  /-- D_a (R70). -/
  accepted : Option Int
  pairless : Nat
  holdAge : Nat
  deferred : Option Deferred
  lastMeasurement : Option Measurement
  /-- Last required delay (R67). -/
  lastRequired : Option Int
  /-- A pair was formed in the tick in progress (R72). -/
  pairInTick : Bool
  /-- The test c ≥ K of R69 has held and OFFSET_ACCEPTANCE is not taken yet (log 1). -/
  acceptDue : Bool
  /-- The test of R73 has held and HOLD_LIMIT is not taken yet (log 1). -/
  limitDue : Bool
deriving DecidableEq, Repr

/-! ### The On-Air Arbiter (chapter 5) -/

/-- Arbiter states (R80). -/
inductive ArbState where
  | stopped | steady | changing | blind
deriving DecidableEq, Repr

/-- Arbiter mode (R80). -/
inductive Mode where
  | manual | auto
deriving DecidableEq, Repr

/-- Causes of a changeover (R100). -/
inductive Cause where
  | autoFailure | handover | take | forcedTake | lateFailover | reversal
deriving DecidableEq, Repr

/-- Outcomes of a changeover (R100, R101). -/
inductive Ending where
  | inFlight | completed | reversed | aborted
deriving DecidableEq, Repr

/-- A timecode h:m:s:fr. -/
structure Timecode where
  h : Nat
  m : Nat
  s : Nat
  fr : Nat
deriving DecidableEq, Repr

/-- An entry of the changeover history (R100). -/
structure HistoryEntry where
  sequence : BitVec 16
  stamp : Stamp
  timecode : Option Timecode
  fromRig : Rig
  toRig : Rig
  cause : Cause
  ending : Ending
  failing : KindSet
deriving DecidableEq, Repr

/-- The On-Air Arbiter (R80). -/
structure Arbiter where
  state : ArbState
  mode : Mode
  inhibit : Bool
  onAir : Option Rig
  outgoing : Option Rig
  /-- Song in force (R82). -/
  song : Byte
  /-- Standby eligible flag (R81). -/
  eligible : Bool
  /-- Changeover history, oldest first, at most sixteen (R102). -/
  history : List HistoryEntry
  nextSequence : BitVec 16
deriving DecidableEq, Repr

/-! ### Group Mixer (chapter 6) -/

/-- A group's source (R105). -/
inductive Source where
  | a | b | silent
deriving DecidableEq, Repr

/-- A group's mode (R105). -/
inductive GroupMode where
  | follow | pinA | pinB | mute
deriving DecidableEq, Repr

/-- A transition in flight (R105). -/
structure Transition where
  src : Source
  dst : Source
  k : Nat
  n : Nat
deriving DecidableEq, Repr

/-- A group record with its target as last evaluated (R105, R123). -/
structure Group where
  mode : GroupMode
  base : GroupMode
  oneSong : Bool
  current : Source
  transition : Option Transition
  target : Source
deriving DecidableEq, Repr

/-- What a lane of the output link carries (section 1.2, R18): the frame marker, which cannot occur inside a slot word, or a
slot word. -/
inductive LineSymbol where
  | marker
  | word (w : SlotWord)
deriving DecidableEq, Repr

/-- The Group Mixer and the output link (R18, R105): the eight records, the frame sent at the latest sample instant, none
before the first, and what each of the four lanes carried for it. -/
structure Mixer where
  groups : Table 8 Group
  output : Option (Table 64 SlotWord)
  lanes : Table 4 (List LineSymbol)
deriving DecidableEq, Repr

/-! ### Show Clock and Timecode Output (chapter 7) -/

/-- Show Clock states (R125). -/
inductive ShowState where
  | idle | running | slewing | freewheel | held
deriving DecidableEq, Repr

/-- The last frame count (R136): absent, the mark pre-roll, or a count. -/
inductive LastFrame where
  | absent
  | preroll
  | count (n : Nat)
deriving DecidableEq, Repr

/-- Timecode flags (R196). -/
structure TcFlags where
  preroll : Bool
  jumped : Bool
  songChanged : Bool
  freewheel : Bool
  held : Bool
deriving DecidableEq, Repr

/-- Clock Control (R139). -/
structure ClockControl where
  slewWindow : Nat
  slewRate : Nat
  freewheelLimit : Nat
deriving DecidableEq, Repr

/-- The Show Clock (R125). -/
structure ShowClock where
  state : ShowState
  /-- Clock anchor C. -/
  anchor : Option Stamp
  target : Option Stamp
  song : Option Byte
  slewCounter : Option Nat
  freewheelCounter : Option Nat
  heldValue : Option Timecode
  cadence : Option Nat
  lastFrame : LastFrame
  /-- JUMPED is pending. -/
  jumped : Bool
  /-- SONG_CHANGED is pending. -/
  songChanged : Bool
  lastEmitted : Option (Timecode × TcFlags)
  lastError : Option Int
  /-- A record has been emitted since the clock left IDLE (R130). -/
  emitted : Bool
  /-- The clock's examination for this sample instant is still to be made (R136, log 1). -/
  examine : Bool
  /-- The hold cadence counter returned to 0 and its record is not handed over yet (R136, log 1). -/
  cadenceDue : Bool
  control : ClockControl
deriving DecidableEq, Repr

/-- A timecode record (section 7.7). -/
structure TcRecord where
  tc : Timecode
  rate : Nat
  song : Byte
  flags : TcFlags
deriving DecidableEq, Repr

/-- A record on the line, the sample periods it still takes, and the sample periods each of its bits lasts (R137, R196). -/
structure Sending where
  record : TcRecord
  left : Nat
  bit : Nat
deriving DecidableEq, Repr

/-- The Timecode Output (R137), with the level of its serial line (R196). -/
structure TcOutput where
  sending : Option Sending
  waiting : Option TcRecord
  line : Bool
deriving DecidableEq, Repr

/-! ### Event Matchers (chapter 8) -/

/-- Result codes (R180). -/
inductive ResultCode where
  | done | wrongState | busy | denied | claimed | forbidden | badIndex | invalid | notEligible
  | checkFailed | length | unknown | framing
deriving DecidableEq, Repr

/-- What a matcher holds besides its entry (R146). -/
structure MatcherState where
  matched : Bool
  fires : Nat
  lastResult : Option ResultCode
  lastStamp : Option Stamp
deriving DecidableEq, Repr

/-! ### Bank Store (chapter 9) -/

/-- A Route entry (R114, R159). -/
structure RouteEntry where
  enable : Bool
  guardFlag : Bool
  slotA : Fin 64
  slotB : Fin 64
  group : Fin 8
deriving DecidableEq, Repr

/-- Blind policies (R105). -/
inductive BlindPolicy where
  | stay | fadeOut
deriving DecidableEq, Repr

/-- A Group entry (R105, R159). -/
structure GroupEntry where
  fadeLength : Nat
  policy : BlindPolicy
deriving DecidableEq, Repr

/-- A Song entry (R159). -/
structure SongEntry where
  start : Timecode
  auto : Bool
deriving DecidableEq, Repr

/-- Whose beacons a matcher examines (R145). -/
inductive MatchSource where
  | onAir | rigA | rigB
deriving DecidableEq, Repr

/-- What a firing does (R145). -/
inductive MatchAction where
  | notice | exchange | inhibitOn | inhibitOff | lamp
deriving DecidableEq, Repr

/-- A Matcher entry (R145). -/
structure MatcherEntry where
  enable : Bool
  chain : Bool
  edge : Bool
  source : MatchSource
  mask : BitVec 14
  crc : BitVec 16
  lastByte : Byte
  action : MatchAction
  lamp : Fin 6
  pattern : Fin 8
deriving DecidableEq, Repr

/-- A Fault Policy entry (R41). -/
structure FaultEntry where
  enabled : Bool
  delay : Nat
deriving DecidableEq, Repr

/-- The Monitor Policy entry (R58, R74). -/
structure MonitorPolicy where
  positionTolerance : Nat
  silenceExponent : Nat
  tolerance : Nat
  confirm : Nat
  holdLimit : Nat
  restoreTime : Nat
deriving DecidableEq, Repr

/-- A bank (R159). -/
structure Bank where
  route : Table 64 RouteEntry
  group : Table 8 GroupEntry
  song : Table 256 SongEntry
  matcher : Table 8 MatcherEntry
  fault : Table 11 FaultEntry
  monitor : MonitorPolicy
deriving DecidableEq, Repr

/-- Sample rates (R161). -/
inductive SampleRate where
  | r48k | r96k
deriving DecidableEq, Repr

/-- Beacon periods (R161). -/
inductive BeaconPeriod where
  | p256 | p512 | p1024 | p2048
deriving DecidableEq, Repr

/-- Frame rates (R161). -/
inductive FrameRate where
  | f24 | f25 | f30
deriving DecidableEq, Repr

/-- Rights of a rig port (R161). -/
inductive Rights where
  | none | operate
deriving DecidableEq, Repr

/-- Show Setup (R161). -/
structure ShowSetup where
  rate : SampleRate
  period : BeaconPeriod
  frameRate : FrameRate
  pilot : PerRig (Fin 64)
  baseDelay : Nat
  rights : PerRig Rights
deriving DecidableEq, Repr

/-- Exchange timing (R169). -/
inductive Timing where
  | now | atSong
deriving DecidableEq, Repr

/-- A pending exchange (section 9.6). -/
structure PendingExchange where
  timing : Timing
  due : Bool
deriving DecidableEq, Repr

/-- The Bank Store (chapter 9). -/
structure BankStore where
  front : Bank
  back : Bank
  claim : Option Port
  exchange : Option PendingExchange
  setup : ShowSetup
deriving DecidableEq, Repr

/-! ### Control Ports (chapter 10) -/

/-- The thirteen notices in their order (R183). -/
inductive Notice where
  | onAirChanged | changeDone | healthChanged | alignmentChanged | blindEntered | clockJumped | bankExchanged
  | matcherFired | handoverRefused | claimLost | engineRestarted | clockHoldover | refused
deriving DecidableEq, Repr

/-- A notice's number (R183). -/
def Notice.idx : Notice → Fin 13
  | .onAirChanged => 0
  | .changeDone => 1
  | .healthChanged => 2
  | .alignmentChanged => 3
  | .blindEntered => 4
  | .clockJumped => 5
  | .bankExchanged => 6
  | .matcherFired => 7
  | .handoverRefused => 8
  | .claimLost => 9
  | .engineRestarted => 10
  | .clockHoldover => 11
  | .refused => 12

/-- A set of notices. -/
abbrev NoticeSet := Table 13 Bool

/-- Where a READ's answer stands (R176). -/
inductive StreamPhase where
  | answer | entries | finished
deriving DecidableEq, Repr

/-- A READ's answer being shifted out (R176, R177). -/
structure Stream where
  result : ResultCode
  id : Byte
  /-- Index of the next entry to copy. -/
  next : Nat
  /-- Entries not yet copied. -/
  left : Nat
  /-- What is still to be sent of the entry copied last. -/
  copy : List Byte
  /-- Exclusive-or of the answer bytes sent. -/
  check : Byte
  phase : StreamPhase
deriving DecidableEq, Repr

/-- Transaction states (R174). -/
inductive TxState where
  | idle
  | command
  | receiving (bytes : List Byte)
  | streaming (stream : Stream)
deriving DecidableEq, Repr

/-- A Control Port (chapter 10). -/
structure ControlPort where
  tx : TxState
  lastResult : ResultCode
  notices : NoticeSet
  mask : NoticeSet
  /-- Bytes shifted out since select was asserted (R175, R176, log 21). -/
  dataOut : List Byte
deriving DecidableEq, Repr

/-! ### Lamp Sequencer and Device Status (chapter 11) -/

/-- The Lamp Sequencer (R197, R199). -/
structure Lamps where
  timer : Nat
  step : Nat
  lit : Table 6 Bool
  override : Table 6 (Option (Fin 8))
  patterns : Table 8 (BitVec 16)
  /-- The step timer has reached L at this sample instant and LAMP_STEP_BOUNDARY is not taken yet (log 1). -/
  due : Bool
deriving DecidableEq, Repr

/-- Start causes (R200). -/
inductive StartCause where
  | power | line | restart
deriving DecidableEq, Repr

/-- Device Status (R200). -/
structure Device where
  cause : StartCause
  restarts : Nat
deriving DecidableEq, Repr

/-! ### The whole part -/

/-- The state of the part and the queue of commands that wait, first in first out. -/
structure State where
  clock : ClockInput
  links : PerRig LinkRx
  parsers : PerRig Parser
  guards : PerRig Guard
  health : PerRig Health
  /-- What the Health Qualifiers keep of the present instant (R45, R55, log 40). -/
  instantHealth : HealthInstant
  lines : PerRig TrimLine
  alignment : Alignment
  arbiter : Arbiter
  mixer : Mixer
  showClock : ShowClock
  tcOutput : TcOutput
  matchers : Table 8 MatcherState
  bank : BankStore
  ports : PerPort ControlPort
  lamps : Lamps
  device : Device
  /-- The health tick of this sample instant has ended and HEALTH_TICK_END is not taken yet (R39, log 1). -/
  tickDue : Bool
  pending : List Instr
deriving DecidableEq, Repr

/-- The part has no fault of its own (INVENTORY.md, Faults): no constructor, so no command ends in one. -/
inductive Fault where
deriving DecidableEq, Repr

/-- Reasons a command has no meaning. -/
inductive Refusal where
  /-- Raised by an arm of `exec` for a command without a meaning. Safe: it stops. No arm raises it. -/
  | notModelled (mnemonic : String)
deriving DecidableEq, Repr

/-! ### Updates, one for each block -/

/-- Replace the Clock Input. -/
def State.setClock (s : State) (x : ClockInput) : State := { s with clock := x }
/-- Replace both Link Receivers. -/
def State.setLinks (s : State) (x : PerRig LinkRx) : State := { s with links := x }
/-- Replace both Beacon Parsers. -/
def State.setParsers (s : State) (x : PerRig Parser) : State := { s with parsers := x }
/-- Replace both Guard Monitors. -/
def State.setGuards (s : State) (x : PerRig Guard) : State := { s with guards := x }
/-- Replace both Health Qualifiers. -/
def State.setHealth (s : State) (x : PerRig Health) : State := { s with health := x }
/-- Replace what the Health Qualifiers keep of the present instant. -/
def State.setInstantHealth (s : State) (x : HealthInstant) : State := { s with instantHealth := x }
/-- Replace both Trim Delay Lines. -/
def State.setLines (s : State) (x : PerRig TrimLine) : State := { s with lines := x }
/-- Replace the Alignment Monitor. -/
def State.setAlignment (s : State) (x : Alignment) : State := { s with alignment := x }
/-- Replace the On-Air Arbiter. -/
def State.setArbiter (s : State) (x : Arbiter) : State := { s with arbiter := x }
/-- Replace the Group Mixer. -/
def State.setMixer (s : State) (x : Mixer) : State := { s with mixer := x }
/-- Replace the Show Clock. -/
def State.setShowClock (s : State) (x : ShowClock) : State := { s with showClock := x }
/-- Replace the Timecode Output. -/
def State.setTcOutput (s : State) (x : TcOutput) : State := { s with tcOutput := x }
/-- Replace the Event Matchers. -/
def State.setMatchers (s : State) (x : Table 8 MatcherState) : State := { s with matchers := x }
/-- Replace the Bank Store. -/
def State.setBank (s : State) (x : BankStore) : State := { s with bank := x }
/-- Replace the Control Ports. -/
def State.setPorts (s : State) (x : PerPort ControlPort) : State := { s with ports := x }
/-- Replace the Lamp Sequencer. -/
def State.setLamps (s : State) (x : Lamps) : State := { s with lamps := x }
/-- Replace Device Status. -/
def State.setDevice (s : State) (x : Device) : State := { s with device := x }
/-- Replace the mark of a health tick end that is due. -/
def State.setTickDue (s : State) (x : Bool) : State := { s with tickDue := x }
/-- Replace the queue. -/
def State.setPending (s : State) (x : List Instr) : State := { s with pending := x }

/-! ### The values after a full reset -/

/-- R8, R19. -/
def ClockInput.reset : ClockInput :=
  { source := .holdover, returnCounter := 0, count := 0, sinceInstant := 0, sinceEdge := none,
    absorbing := false, joining := false }

/-- R19. -/
def LinkRx.reset : LinkRx :=
  { state := .absent, acquisition := 0, kept := [], badFrames := 0, store := [], lastRead := none,
    lastWritten := none, slips := 0, laneErrors := Table.fill 4 0, window := none, sinceWindow := 0, sinceMarker := 0 }

/-- R37. -/
def Parser.reset : Parser :=
  { assembly := .waiting, judging := none, record := none, age := none, ageSet := false, missing := true,
    selfFault := false, diverged := false, valid := 0, rejected := 0 }

/-- R45, R59: restarted, the tick void. -/
def Guard.reset : Guard :=
  { marks := none, playing := false, void := true, voidNext := false, silent := false, frozen := false,
    decisions := [] }

/-- R59. -/
def Health.reset : Health :=
  { state := .offline, flags := noKinds, counters := Table.fill 11 0, restore := 0, qualifying := noKinds,
    history := noKinds, failures := 0, events := noKinds, relapsed := false }

/-- Nothing is to come where no acceptance is under way. -/
def Coming.none : Coming := { evidence := ⟨false, false⟩, exchange := false }

/-- Both rigs OFFLINE before the instant and as last handed on (R59: a full reset raises no HEALTH_CHANGED). -/
def HealthInstant.reset : HealthInstant :=
  { handing := ⟨{ before := .offline, handed := .offline }, { before := .offline, handed := .offline }⟩
    coming := Coming.none, unguarded := none }

/-- R63. -/
def TrimLine.reset : TrimLine := { delay := 512, rings := [] }

/-- R79. -/
def Alignment.reset : Alignment :=
  { state := .none, candidate := none, accepted := none, pairless := 0, holdAge := 0, deferred := none,
    lastMeasurement := none, lastRequired := none, pairInTick := false, acceptDue := false, limitDue := false }

/-- R103. -/
def Arbiter.reset : Arbiter :=
  { state := .stopped, mode := .manual, inhibit := false, onAir := none, outgoing := none, song := 0,
    eligible := false, history := [], nextSequence := 0 }

/-- R123. -/
def Group.reset : Group :=
  { mode := .follow, base := .follow, oneSong := false, current := .silent, transition := none, target := .silent }

/-- R123; no frame has been sent (R18, log 27). -/
def Mixer.reset : Mixer := { groups := Table.fill 8 Group.reset, output := none, lanes := Table.fill 4 [] }

/-- R139. -/
def ClockControl.default : ClockControl := { slewWindow := 4800, slewRate := 1000, freewheelLimit := 50 }

/-- R143. -/
def ShowClock.reset : ShowClock :=
  { state := .idle, anchor := none, target := none, song := none, slewCounter := none, freewheelCounter := none,
    heldValue := none, cadence := none, lastFrame := .absent, jumped := false, songChanged := false,
    lastEmitted := none, lastError := none, emitted := false, examine := false, cadenceDue := false,
    control := ClockControl.default }

/-- R137. -/
def TcOutput.reset : TcOutput := { sending := none, waiting := none, line := true }

/-- R146. -/
def MatcherState.reset : MatcherState := { matched := false, fires := 0, lastResult := none, lastStamp := none }

/-- R159: entry i is enabled except entry 63, guard clear, both slots i, group i divided by 8. -/
def RouteEntry.default (i : Fin 64) : RouteEntry :=
  { enable := i != 63, guardFlag := false, slotA := i, slotB := i, group := ⟨i.val / 8, by omega⟩ }

/-- R159: entry n starts at (n mod 24):00:00:00 with auto permitted. -/
def SongEntry.default (n : Fin 256) : SongEntry :=
  { start := { h := n.val % 24, m := 0, s := 0, fr := 0 }, auto := true }

/-- R145. -/
def MatcherEntry.default : MatcherEntry :=
  { enable := false, chain := false, edge := false, source := .onAir, mask := 0, crc := 0, lastByte := 0,
    action := .notice, lamp := 0, pattern := 0 }

/-- The default Fault Policy, in kind order (R38). -/
def defaultFaultPolicy : Table 11 FaultEntry :=
  ⟨[⟨true, 2⟩, ⟨false, 1⟩, ⟨true, 4⟩, ⟨true, 3⟩, ⟨false, 1⟩, ⟨true, 1⟩, ⟨true, 0⟩, ⟨true, 24⟩, ⟨true, 8⟩,
    ⟨true, 0⟩, ⟨true, 32⟩], rfl⟩

/-- R58, R74. -/
def MonitorPolicy.default : MonitorPolicy :=
  { positionTolerance := 4, silenceExponent := 8, tolerance := 2, confirm := 4, holdLimit := 255,
    restoreTime := 960 }

/-- R159. -/
def Bank.default : Bank :=
  { route := Table.tab RouteEntry.default
    group := Table.fill 8 { fadeLength := 480, policy := .stay }
    song := Table.tab SongEntry.default
    matcher := Table.fill 8 MatcherEntry.default
    fault := defaultFaultPolicy
    monitor := MonitorPolicy.default }

/-- R161. -/
def ShowSetup.default : ShowSetup :=
  { rate := .r48k, period := .p512, frameRate := .f30, pilot := ⟨63, 63⟩, baseDelay := 512,
    rights := ⟨.none, .none⟩ }

/-- R173. -/
def BankStore.reset : BankStore :=
  { front := Bank.default, back := Bank.default, claim := none, exchange := none, setup := ShowSetup.default }

/-- The empty notice set. -/
def noNotices : NoticeSet := Table.fill 13 false

/-- R187: ENGINE_RESTARTED alone, mask empty, last result DONE. -/
def ControlPort.reset : ControlPort :=
  { tx := .idle, lastResult := .done, notices := noNotices.set Notice.engineRestarted.idx true, mask := noNotices,
    dataOut := [] }

/-- The default patterns (R197), step 0 in bit 15. -/
def defaultPatterns : Table 8 (BitVec 16) :=
  ⟨[0x0000, 0xFFFF, 0xFF00, 0xCCCC, 0xCC00, 0x8000, 0x0000, 0x0000], rfl⟩

/-- R197, R199. -/
def Lamps.reset : Lamps :=
  { timer := 0, step := 0, lit := Table.fill 6 false, override := Table.fill 6 none, patterns := defaultPatterns
    due := false }

/-- The part after a full reset with the given start cause (R200). -/
def State.fullReset (cause : StartCause) : State :=
  { clock := ClockInput.reset
    links := ⟨LinkRx.reset, LinkRx.reset⟩
    parsers := ⟨Parser.reset, Parser.reset⟩
    guards := ⟨Guard.reset, Guard.reset⟩
    health := ⟨Health.reset, Health.reset⟩
    instantHealth := HealthInstant.reset
    lines := ⟨TrimLine.reset, TrimLine.reset⟩
    alignment := Alignment.reset
    arbiter := Arbiter.reset
    mixer := Mixer.reset
    showClock := ShowClock.reset
    tcOutput := TcOutput.reset
    matchers := Table.fill 8 MatcherState.reset
    bank := BankStore.reset
    ports := ⟨ControlPort.reset, ControlPort.reset, ControlPort.reset⟩
    lamps := Lamps.reset
    device := { cause := cause, restarts := 0 }
    tickDue := false
    pending := [] }

/-- The part right after reset: a full reset that followed power-on (log 26). -/
def State.reset : State := State.fullReset .power

end Sys2Proof.Machine
end

