-- ==== Sys2Proof/Machine/Flags.lean ====
section
/-! DEFINITION. The flags the blocks compute and read: notice sets and attention lines, sets of fault kinds, the
conditions and the qualified set of a rig, eligibility and auto permission, the quantities of Show Setup. -/

namespace Sys2Proof.Machine

open Sys2Proof

/-! ### Quantities of Show Setup -/

/-- Sample periods of the beacon period P (R161). -/
def BeaconPeriod.samples : BeaconPeriod → Nat
  | .p256 => 256
  | .p512 => 512
  | .p1024 => 1024
  | .p2048 => 2048

/-- Sample rate in Hz. -/
def SampleRate.hz : SampleRate → Nat
  | .r48k => 48000
  | .r96k => 96000

/-- Frames per second. -/
def FrameRate.fps : FrameRate → Nat
  | .f24 => 24
  | .f25 => 25
  | .f30 => 30

/-- Samples per frame (00 Frames). -/
def ShowSetup.spf (u : ShowSetup) : Nat := u.rate.hz / u.frameRate.fps

/-- Sample instants in a lamp step: 62.5 ms (R197). -/
def ShowSetup.lampStep (u : ShowSetup) : Nat :=
  match u.rate with
  | .r48k => 3000
  | .r96k => 6000

/-- One nominal period in units of the internal reference (R3). -/
def ShowSetup.nominal (u : ShowSetup) : Nat :=
  match u.rate with
  | .r48k => Config.unitsAt48k
  | .r96k => Config.unitsAt96k

/-- Sample periods that a bit of the timecode line lasts (R196). -/
def ShowSetup.bitPeriods (u : ShowSetup) : Nat :=
  match u.rate with
  | .r48k => 2
  | .r96k => 4

/-- Bits of a record on the timecode line: nine bytes of ten bits (R196). -/
def recordLength : Nat := 90

/-- Sample periods that sending one record takes (R196). -/
def ShowSetup.recordPeriods (u : ShowSetup) : Nat := recordLength * u.bitPeriods

/-- One nominal period in reference units under the Show Setup rate (R3). -/
def State.nominal (s : State) : Nat := s.bank.setup.nominal

/-- The beacon period in force. -/
def State.period (s : State) : Nat := s.bank.setup.period.samples

/-! ### Notices and attention lines -/

/-- A notice joins one port's set (R184). -/
def State.raiseOn (s : State) (q : Port) (n : Notice) : State :=
  let c := s.ports.get q
  s.setPorts (s.ports.set q { c with notices := c.notices.set n.idx true })

/-- A notice joins all three sets at the same instant (R184). -/
def State.raiseAll (s : State) (n : Notice) : State :=
  s.setPorts (s.ports.map fun c => { c with notices := c.notices.set n.idx true })

/-- R185: the attention line is asserted exactly while a notice is set whose mask bit is unmasked. -/
def ControlPort.attention (c : ControlPort) : Bool :=
  (List.finRange 13).any fun i => c.notices.get i && !c.mask.get i

/-! ### Sets of fault kinds -/

/-- The set of one kind. -/
def oneKind (k : FaultKind) : KindSet := noKinds.set k.idx true

/-- The kinds of a set that hold a property of their index. -/
def KindSet.filter (x : KindSet) (p : Fin 11 → Bool) : KindSet := Table.tab fun i => x.get i && p i

/-- The kinds of either set. -/
def KindSet.union (x y : KindSet) : KindSet := Table.tab fun i => x.get i || y.get i

/-- The kinds of `x` that are not in `y`. -/
def KindSet.minus (x y : KindSet) : KindSet := Table.tab fun i => x.get i && !y.get i

/-- Whether a set holds a kind at all. -/
def KindSet.nonempty (x : KindSet) : Bool := (List.finRange 11).any fun i => x.get i

/-- A set of one kind when a condition holds, else empty. -/
def kindIf (c : Bool) (k : FaultKind) : KindSet := if c then oneKind k else noKinds

/-- Whether a kind number is an event kind (R38). -/
def eventKind (i : Fin 11) : Bool :=
  i = FaultKind.slip.idx || i = FaultKind.corrupt.idx || i = FaultKind.sequence.idx ||
  i = FaultKind.position.idx || i = FaultKind.identity.idx

/-- Whether a kind is enabled in a policy (R41). -/
def enabledIn (f : Table 11 FaultEntry) (i : Fin 11) : Bool := (f.get i).enabled

/-- Whether a kind is enabled with a delay of 0 (R47). -/
def instantIn (f : Table 11 FaultEntry) (i : Fin 11) : Bool := (f.get i).enabled && (f.get i).delay == 0

/-- R48: the qualified set of a rig's health under a policy. -/
def Health.qualifiedUnder (h : Health) (f : Table 11 FaultEntry) : KindSet :=
  Table.tab fun i =>
    h.state != .offline && (f.get i).enabled &&
      (if (f.get i).delay = 0 then h.flags.get i else h.counters.get i == (f.get i).delay)

/-- The qualified set of a rig (R48). -/
def State.qualified (s : State) (r : Rig) : KindSet := (s.health.get r).qualifiedUnder s.bank.front.fault

/-- The condition kinds present for a rig now (R38). -/
def State.conditions (s : State) (r : Rig) : KindSet :=
  let p := s.parsers.get r
  let g := s.guards.get r
  Table.tab fun i =>
    if i = FaultKind.link.idx then (s.links.get r).state != .locked
    else if i = FaultKind.missing.idx then p.missing
    else if i = FaultKind.self.idx then p.selfFault
    else if i = FaultKind.diverged.idx then p.diverged
    else if i = FaultKind.silent.idx then g.silent
    else if i = FaultKind.frozen.idx then g.frozen
    else false

/-- R81: FAILED and OFFLINE are down. -/
def HealthState.down (h : HealthState) : Bool := h == .failed || h == .offline

/-- Whether a rig's record is present and PLAYING. -/
def Parser.playing (p : Parser) : Bool :=
  match p.record with
  | none => false
  | some rec => rec.transport == .playing

/-- Whether a rig's record is present and not PLAYING. -/
def Parser.notPlaying (p : Parser) : Bool :=
  match p.record with
  | none => false
  | some rec => rec.transport != .playing

/-- R55: a rig's health state as last handed on, the value the other blocks read (log 40). -/
def State.handed (s : State) (r : Rig) : HealthState := (s.instantHealth.handing.get r).handed

/-- R36: the condition DIVERGED for a rig as the records stand, the other rig's health state being `other`. -/
def State.divergedBy (s : State) (r : Rig) (other : HealthState) : Bool :=
  (s.parsers.get r).notPlaying && (s.parsers.get r.other).playing && !other.down

/-- R36: the condition DIVERGED for a rig as the records stand and the other rig's health was last handed on. -/
def State.divergedNow (s : State) (r : Rig) : Bool := s.divergedBy r (s.handed r.other)

/-- R34: whether a beacon age means MISSING under the beacon period. -/
def missingAt (age : Option Nat) (period : Nat) : Bool :=
  match age with
  | none => true
  | some n => decide (2 * period < n)

/-! ### Frame windows (R9) -/

/-- R9: whether a lane frame whose marker arrived inside the window is still owed to it. -/
def Window.owes (w : Window) : Bool := (List.finRange 4).any fun i => w.marked.get i && (w.frames.get i).isNone

/-- R9: the age at which a window closes: a quarter of a nominal period, or with a lane frame still owed the limit of one
and a half. -/
def Window.closesAt (w : Window) (nominal : Nat) : Nat := if w.owes then nominal * 3 / 2 else nominal / 4

/-- Units until a link's open window closes by itself, none when no window is open. A window that is open at a change of the
sample rate is measured whole by the new nominal period: DESIGN CHOICE (log 51). -/
def State.windowWait (s : State) (r : Rig) : Option Nat :=
  (s.links.get r).window.map fun w => w.closesAt s.nominal - w.age

/-- Whether a link's open window closes by itself at the present moment. -/
def State.windowDue (s : State) (r : Rig) : Bool := s.windowWait r == some 0

/-! ### What the present instant still holds for a rig -/

/-- R13: the absence of a link stands due. -/
def LinkRx.absenceDue (l : LinkRx) : Bool := l.state != .absent && decide (Config.absenceLimit ≤ l.sinceMarker)

/-- R10, R12: a missing frame or a loss of lock stands due of a link. -/
def LinkRx.lossDue (l : LinkRx) : Bool :=
  (l.state != .absent && decide (2 ≤ l.sinceWindow)) || (l.state == .locked && decide (2 ≤ l.badFrames))

/-- R34: MISSING is to become present. -/
def State.missingDue (s : State) (r : Rig) : Bool :=
  !(s.parsers.get r).missing && missingAt (s.parsers.get r).age s.period

/-- Whether a complete beacon that says PLAYING waits for its judgement. -/
def Parser.playingNext (p : Parser) : Bool :=
  match p.judging with
  | none => false
  | some j => j.bytes.getD 4 0 == 2

/-- Whether an enabled matcher of a bank asks for exchanges (R151). -/
def Bank.asksExchange (b : Bank) : Bool :=
  (List.finRange 8).any fun k => (b.matcher.get k).enable && (b.matcher.get k).action == .exchange

/-- Whether an enabled matcher of the FRONT bank asks for exchanges. -/
def State.asksExchange (s : State) : Bool := s.bank.front.asksExchange

/-! ### Standby, eligibility and auto permission -/

/-- R80: the standby rig is the rig not on air, and Rig B while STOPPED. -/
def Arbiter.standby (x : Arbiter) : Rig :=
  match x.onAir with
  | none => .b
  | some r => r.other

/-- R66: the reference link is the on-air rig's, and Link A while STOPPED. -/
def Arbiter.reference (x : Arbiter) : Rig :=
  match x.onAir with
  | none => .a
  | some r => r

/-- R76: whether the standby rig is eligible as the three terms stand, its health as last handed on (R55). -/
def State.eligibleNow (s : State) : Bool :=
  let r := s.arbiter.standby
  s.handed r == .healthy &&
    (s.alignment.state == .accepted || s.alignment.state == .held) &&
    (s.links.get r).state == .locked

/-- An index into the Song table. -/
def songIndex (b : Byte) : Fin 256 := ⟨b.toNat, b.isLt⟩

/-- R82: whether auto is permitted as the three terms stand. -/
def State.autoPermitted (s : State) : Bool :=
  s.arbiter.mode == .auto && !s.arbiter.inhibit &&
    (s.bank.front.song.get (songIndex s.arbiter.song)).auto

/-- Whether the on-air rig is down (R81), by its health as last handed on. -/
def State.onAirDown (s : State) : Bool :=
  match s.arbiter.onAir with
  | none => false
  | some r => (s.handed r).down

end Sys2Proof.Machine
end

