-- ==== Sys2Proof/Machine/Operands.lean ====
section
/-! DEFINITION. The operand forms: CRC-16, check bytes, byte order, and the layout of every table entry, read from
a WRITE and written into a READ's answer (R2, R189 to R193). -/

namespace Sys2Proof.Machine

open Sys2Proof

/-! ### CRC-16, check bytes and byte order -/

/-- One bit of CRC-16, most significant first: generator x^16 + x^15 + x^2 + 1 (R2). -/
def crcShift (c : BitVec 16) : BitVec 16 := if c.msb then (c <<< 1) ^^^ 0x8005 else c <<< 1

/-- One byte of CRC-16 (R2). -/
def crcByte (c : BitVec 16) (b : Byte) : BitVec 16 :=
  crcShift (crcShift (crcShift (crcShift (crcShift (crcShift (crcShift (crcShift
    (c ^^^ (b.setWidth 16 <<< 8)))))))))

/-- CRC-16 of a byte string: initial value 0xFFFF, no final inversion (R2). -/
def crc16 (bytes : List Byte) : BitVec 16 := bytes.foldl crcByte 0xFFFF

/-- The exclusive-or of a byte string (00 Check byte). -/
def xorAll (bytes : List Byte) : Byte := bytes.foldl (· ^^^ ·) 0

/-- Whether the last byte is the exclusive-or of all before it (R178 step 4). -/
def checkOk (bytes : List Byte) : Bool := bytes.getLast? == some (xorAll bytes.dropLast)

/-- Two bytes, high byte first (R189). -/
def be16 (n : Nat) : List Byte := [BitVec.ofNat 8 (n / 256), BitVec.ofNat 8 n]

/-- Four bytes, high byte first (R189). -/
def be32 (n : Nat) : List Byte := be16 (n / 65536) ++ be16 n

/-- Four bytes of a signed value in two's complement (R195). -/
def be32s (x : Int) : List Byte := be32 (BitVec.ofInt 32 x).toNat

/-- Eight bytes of a signed value in two's complement (R195). -/
def be64s (x : Int) : List Byte :=
  let n := (BitVec.ofInt 64 x).toNat
  be32 (n / 4294967296) ++ be32 n

/-- The value of two bytes, high byte first. -/
def nat16 (hi lo : Byte) : Nat := hi.toNat * 256 + lo.toNat

/-- A byte of a small number. -/
def byte (n : Nat) : Byte := BitVec.ofNat 8 n

/-- A flag as 0 or 1. -/
def bit (b : Bool) : Byte := if b then 1 else 0

/-- A flag read from 0 or 1; any other value names nothing (R189). -/
def boolOf (b : Byte) : Option Bool :=
  if b = 0 then some false else if b = 1 then some true else none

/-- An identifier below `n`. -/
def finOf (n : Nat) (b : Byte) : Option (Fin n) := if h : b.toNat < n then some ⟨b.toNat, h⟩ else none

/-- A number that must not exceed `hi` (a refused field, R160). -/
def natTo (hi : Nat) (b : Byte) : Option Nat := if b.toNat ≤ hi then some b.toNat else none

/-- A clamped field (00 Settings, clamping and refusal). -/
def clamp (lo hi n : Nat) : Nat := max lo (min hi n)

/-! ### Enumerations -/

/-- A named rig: 1 for A and 2 for B (R189). -/
def rigOf (b : Byte) : Option Rig :=
  if b = 1 then some .a else if b = 2 then some .b else none

/-- A rig as a byte (R189). -/
def rigByte : Rig → Byte
  | .a => 1
  | .b => 2

/-- An optional rig as a byte, 0 where none is named (R189). -/
def rigByte? : Option Rig → Byte
  | none => 0
  | some r => rigByte r

/-- Group modes (R192). -/
def groupModeOf (b : Byte) : Option GroupMode :=
  if b = 0 then some .follow else if b = 1 then some .pinA else if b = 2 then some .pinB
  else if b = 3 then some .mute else none

/-- A group mode as a byte (R192). -/
def groupModeByte : GroupMode → Byte
  | .follow => 0
  | .pinA => 1
  | .pinB => 2
  | .mute => 3

/-- A source as a byte (R194). -/
def sourceByte : Source → Byte
  | .a => 0
  | .b => 1
  | .silent => 2

/-- Result code values (R180). -/
def resultByte : ResultCode → Byte
  | .done => 0
  | .wrongState => 1
  | .busy => 2
  | .denied => 3
  | .claimed => 4
  | .forbidden => 5
  | .badIndex => 6
  | .invalid => 7
  | .notEligible => 8
  | .checkFailed => 9
  | .length => 10
  | .unknown => 11
  | .framing => 12

/-- Blind policies (R193). -/
def policyOf (b : Byte) : Option BlindPolicy :=
  if b = 0 then some .stay else if b = 1 then some .fadeOut else none

/-- A blind policy as a byte (R193). -/
def policyByte : BlindPolicy → Byte
  | .stay => 0
  | .fadeOut => 1

/-- Matcher sources (R193). -/
def matchSourceOf (b : Byte) : Option MatchSource :=
  if b = 0 then some .onAir else if b = 1 then some .rigA else if b = 2 then some .rigB else none

/-- A matcher source as a byte (R193). -/
def matchSourceByte : MatchSource → Byte
  | .onAir => 0
  | .rigA => 1
  | .rigB => 2

/-- Matcher actions (R193). -/
def matchActionOf (b : Byte) : Option MatchAction :=
  if b = 0 then some .notice else if b = 1 then some .exchange else if b = 2 then some .inhibitOn
  else if b = 3 then some .inhibitOff else if b = 4 then some .lamp else none

/-- A matcher action as a byte (R193). -/
def matchActionByte : MatchAction → Byte
  | .notice => 0
  | .exchange => 1
  | .inhibitOn => 2
  | .inhibitOff => 3
  | .lamp => 4

/-- Sample rates (R193). -/
def rateOf (b : Byte) : Option SampleRate :=
  if b = 0 then some .r48k else if b = 1 then some .r96k else none

/-- A sample rate as a byte (R193). -/
def rateByte : SampleRate → Byte
  | .r48k => 0
  | .r96k => 1

/-- Beacon periods (R193). -/
def periodOf (b : Byte) : Option BeaconPeriod :=
  if b = 0 then some .p256 else if b = 1 then some .p512 else if b = 2 then some .p1024
  else if b = 3 then some .p2048 else none

/-- A beacon period as a byte (R193). -/
def periodByte : BeaconPeriod → Byte
  | .p256 => 0
  | .p512 => 1
  | .p1024 => 2
  | .p2048 => 3

/-- Frame rates (R193). -/
def frameRateOf (b : Byte) : Option FrameRate :=
  if b = 0 then some .f24 else if b = 1 then some .f25 else if b = 2 then some .f30 else none

/-- A frame rate as a byte (R193). -/
def frameRateByte : FrameRate → Byte
  | .f24 => 0
  | .f25 => 1
  | .f30 => 2

/-- Rights (R193). -/
def rightsOf (b : Byte) : Option Rights :=
  if b = 0 then some .none else if b = 1 then some .operate else none

/-- Rights as a byte (R193). -/
def rightsByte : Rights → Byte
  | .none => 0
  | .operate => 1

/-- Exchange timing (R192). -/
def timingOf (b : Byte) : Option Timing :=
  if b = 0 then some .now else if b = 1 then some .atSong else none

/-- Exchange timing as a byte (R195). -/
def timingByte : Timing → Byte
  | .now => 0
  | .atSong => 1

/-- Transport values of a beacon (R25). -/
def transportOf (b : Byte) : Option Transport :=
  if b = 0 then some .stopped else if b = 1 then some .cued else if b = 2 then some .playing else none

/-- A transport as a byte (R195). -/
def transportByte : Transport → Byte
  | .stopped => 0
  | .cued => 1
  | .playing => 2

/-! ### Entries read from a WRITE: `none` is a refused value (R160, R161) -/

/-- A Route entry (R193, R160). -/
def readRoute : List Byte → Option RouteEntry
  | [e, g, a, b, n] => do
    let enable ← boolOf e
    let guardFlag ← boolOf g
    let slotA ← finOf 64 a
    let slotB ← finOf 64 b
    let group ← finOf 8 n
    return { enable, guardFlag, slotA, slotB, group }
  | _ => none

/-- A Group entry: fade length clamped, policy refused (R160). -/
def readGroup : List Byte → Option GroupEntry
  | [hi, lo, p] => do
    let policy ← policyOf p
    return { fadeLength := clamp 0 4095 (nat16 hi lo), policy }
  | _ => none

/-- A Song entry, every field refused (R160). -/
def readSong : List Byte → Option SongEntry
  | [h, m, s, fr, a] => do
    let h ← natTo 23 h
    let m ← natTo 59 m
    let s ← natTo 59 s
    let fr ← natTo 29 fr
    let auto ← boolOf a
    return { start := { h, m, s, fr }, auto }
  | _ => none

/-- A Matcher entry (R145, R193). -/
def readMatcher : List Byte → Option MatcherEntry
  | [f, src, mh, ml, ch, cl, last, act, lmp, pat] => do
    let source ← matchSourceOf src
    let action ← matchActionOf act
    let lamp ← finOf 6 lmp
    let pattern ← finOf 8 pat
    return { enable := f.getLsbD 0, chain := f.getLsbD 1, edge := f.getLsbD 2, source
             mask := BitVec.ofNat 14 (nat16 mh ml), crc := BitVec.ofNat 16 (nat16 ch cl), lastByte := last
             action, lamp, pattern }
  | _ => none

/-- A Fault Policy entry (R160). -/
def readFault : List Byte → Option FaultEntry
  | [e, d] => do
    let enabled ← boolOf e
    return { enabled, delay := clamp 0 255 d.toNat }
  | _ => none

/-- The Monitor Policy entry, every field clamped (R160). -/
def readMonitor : List Byte → Option MonitorPolicy
  | [p, e, t, k, h, rh, rl] =>
    some { positionTolerance := clamp 0 255 p.toNat, silenceExponent := clamp 4 20 e.toNat
           tolerance := clamp 0 15 t.toNat, confirm := clamp 1 15 k.toNat, holdLimit := clamp 0 255 h.toNat
           restoreTime := clamp 0 4095 (nat16 rh rl) }
  | _ => none

/-- The Show Setup entry: base delay clamped, the others refused (R161). -/
def readSetup : List Byte → Option ShowSetup
  | [r, p, f, a, b, dh, dl, ra, rb] => do
    let rate ← rateOf r
    let period ← periodOf p
    let frameRate ← frameRateOf f
    let pa ← finOf 64 a
    let pb ← finOf 64 b
    let ra ← rightsOf ra
    let rb ← rightsOf rb
    return { rate, period, frameRate, pilot := ⟨pa, pb⟩, baseDelay := clamp 0 1023 (nat16 dh dl), rights := ⟨ra, rb⟩ }
  | _ => none

/-- The Clock Control entry, every field clamped (R139). -/
def readControl : List Byte → Option ClockControl
  | [wh, wl, rh, rl, l] =>
    some { slewWindow := clamp 0 48000 (nat16 wh wl), slewRate := clamp 100 10000 (nat16 rh rl)
           freewheelLimit := clamp 0 255 l.toNat }
  | _ => none

/-- A lamp pattern: every value is valid (R197). -/
def readPattern : List Byte → Option (BitVec 16)
  | [hi, lo] => some (BitVec.ofNat 16 (nat16 hi lo))
  | _ => none

/-- A notice set of two bytes; a value beyond notice 12 is refused (R185, R186). -/
def readNotices : List Byte → Option NoticeSet
  | [hi, lo] =>
    let n := nat16 hi lo
    if n < 8192 then some (Table.tab fun i => n.testBit i.val) else none
  | _ => none

/-- What a Group State entry of a WRITE asks (R122): the mode, and whether the persistence is ONE_SONG. Bytes 2 to
15 are not read (R194). -/
structure GroupWrite where
  mode : GroupMode
  oneSong : Bool
deriving DecidableEq, Repr

/-- A Group State entry of a WRITE (R122, R194). -/
def readGroupWrite : List Byte → Option GroupWrite
  | m :: p :: _ => do
    let mode ← groupModeOf m
    let oneSong ← boolOf p
    return { mode, oneSong }
  | _ => none

/-! ### Entries written into a READ's answer -/

/-- A Route entry (R193). -/
def writeRoute (e : RouteEntry) : List Byte :=
  [bit e.enable, bit e.guardFlag, byte e.slotA.val, byte e.slotB.val, byte e.group.val]

/-- A Group entry (R193). -/
def writeGroup (e : GroupEntry) : List Byte := be16 e.fadeLength ++ [policyByte e.policy]

/-- A timecode's four bytes. -/
def writeTimecode (t : Timecode) : List Byte := [byte t.h, byte t.m, byte t.s, byte t.fr]

/-- A Song entry (R193). -/
def writeSong (e : SongEntry) : List Byte := writeTimecode e.start ++ [bit e.auto]

/-- The flags byte of a Matcher entry (R193). -/
def matcherFlags (e : MatcherEntry) : Byte :=
  bit e.enable ||| (bit e.chain <<< 1) ||| (bit e.edge <<< 2)

/-- A Matcher entry (R193). -/
def writeMatcher (e : MatcherEntry) : List Byte :=
  [matcherFlags e, matchSourceByte e.source] ++ be16 e.mask.toNat ++ be16 e.crc.toNat ++
    [e.lastByte, matchActionByte e.action, byte e.lamp.val, byte e.pattern.val]

/-- A Fault Policy entry (R193). -/
def writeFault (e : FaultEntry) : List Byte := [bit e.enabled, byte e.delay]

/-- The Monitor Policy entry (R193). -/
def writeMonitor (e : MonitorPolicy) : List Byte :=
  [byte e.positionTolerance, byte e.silenceExponent, byte e.tolerance, byte e.confirm, byte e.holdLimit] ++
    be16 e.restoreTime

/-- The Show Setup entry (R193). -/
def writeSetup (e : ShowSetup) : List Byte :=
  [rateByte e.rate, periodByte e.period, frameRateByte e.frameRate, byte e.pilot.a.val, byte e.pilot.b.val] ++
    be16 e.baseDelay ++ [rightsByte e.rights.a, rightsByte e.rights.b]

/-- The Clock Control entry (R193). -/
def writeControl (e : ClockControl) : List Byte :=
  be16 e.slewWindow ++ be16 e.slewRate ++ [byte e.freewheelLimit]

/-- A set of 13 notices as a number, bit n for notice n (R189). -/
def noticesNat (x : NoticeSet) : Nat :=
  (List.finRange 13).foldl (fun n i => if x.get i then n + 2 ^ i.val else n) 0

/-- A set of 11 fault kinds as a number, bit n for kind n (R189). -/
def kindsNat (x : KindSet) : Nat :=
  (List.finRange 11).foldl (fun n i => if x.get i then n + 2 ^ i.val else n) 0

/-- An entry filled with 0 bytes up to its length (R189). -/
def padTo (n : Nat) (l : List Byte) : List Byte := l ++ List.replicate (n - l.length) 0

/-! ### The table of ids and the pieces of a WRITE -/

/-- Entries and entry length of a table id (R188). -/
def tableShape (id : Byte) : Option (Nat × Nat) :=
  match id.toNat with
  | 0 => some (1, 32)
  | 1 => some (2, 48)
  | 2 => some (2, 64)
  | 3 => some (1, 48)
  | 4 => some (1, 16)
  | 5 => some (8, 16)
  | 6 => some (1, 48)
  | 7 => some (16, 18)
  | 8 => some (8, 16)
  | 9 => some (3, 8)
  | 16 => some (64, 5)
  | 17 => some (8, 3)
  | 18 => some (256, 5)
  | 19 => some (8, 10)
  | 20 => some (11, 2)
  | 21 => some (1, 7)
  | 24 => some (1, 9)
  | 25 => some (1, 5)
  | 26 => some (8, 2)
  | 27 => some (1, 2)
  | 48 => some (64, 5)
  | 49 => some (8, 3)
  | 50 => some (256, 5)
  | 51 => some (8, 10)
  | 52 => some (11, 2)
  | 53 => some (1, 7)
  | _ => none

/-- The id of a banked table in the editable bank (R163). -/
def bankedId : BankedTable → Byte
  | .route => 16
  | .group => 17
  | .song => 18
  | .matcher => 19
  | .faultPolicy => 20
  | .monitorPolicy => 21

/-- `n` pieces of `len` bytes. -/
def pieces (len : Nat) : Nat → List Byte → List (List Byte)
  | 0, _ => []
  | n + 1, l => l.take len :: pieces len n (l.drop len)

/-- Every piece read by one entry form, or none when any piece is refused (R179). -/
def readAll {α : Type} (f : List Byte → Option α) : List (List Byte) → Option (List α)
  | [] => some []
  | x :: xs => do
    let y ← f x
    let ys ← readAll f xs
    return y :: ys

/-- Entries stored from an index upward (R164). -/
def storeFrom {n : Nat} {α : Type} (t : Table n α) (first : Nat) : List α → Table n α
  | [] => t
  | x :: xs => storeFrom (if h : first < n then t.set ⟨first, h⟩ x else t) (first + 1) xs

/-! ### The timecode line (R196) -/

/-- Timecode flags (R196). -/
def tcFlagsByte (f : TcFlags) : Byte :=
  bit f.preroll ||| (bit f.jumped <<< 1) ||| (bit f.songChanged <<< 2) ||| (bit f.freewheel <<< 3) |||
    (bit f.held <<< 4)

/-- The nine bytes of a timecode record on the serial output (R196). -/
def recordBytes (x : TcRecord) : List Byte :=
  let l := [0xE7] ++ writeTimecode x.tc ++ [byte x.rate, x.song, tcFlagsByte x.flags]
  l ++ [xorAll l]

/-- R196: a byte on the timecode line: one start bit, eight data bits, least significant bit first, one stop bit. -/
def lineBits (b : Byte) : List Bool := false :: (List.range 8).map b.getLsbD ++ [true]

/-- R196: the ninety bits of a record. -/
def recordBits (x : TcRecord) : List Bool := (recordBytes x).flatMap lineBits

/-- R196: a record handed to the line, each bit lasting as long as the sample rate in force says. -/
def ShowSetup.send (u : ShowSetup) (x : TcRecord) : Sending :=
  { record := x, left := u.recordPeriods, bit := u.bitPeriods }

/-- R196: the level of the line with a record on it: the bit whose sample periods run, and high after the last. -/
def Sending.level (y : Sending) : Bool :=
  (recordBits y.record).getD (recordLength - (y.left + y.bit - 1) / y.bit) true

/-- R196: the line carries the record being sent, and idles high. -/
def TcOutput.drive (x : TcOutput) : TcOutput :=
  { x with line := match x.sending with | none => true | some y => y.level }

end Sys2Proof.Machine
end

