-- ==== Sys2Proof/Machine/Ops.lean ====
section
/-! DEFINITION. The named operations over the part's buffers and registers that more than one command uses: the delay
rings, a group's target and transition, the timecode, the Show Clock, the trim delays, and the arbiter's own
transitions. -/

namespace Sys2Proof.Machine

open Sys2Proof

/-! ### The delay rings (R61) -/

/-- The frame a ring memory holds at a position; an unlisted position reads as the zero frame (R63: all samples 0). -/
def ringRead : Rings → Nat → Frame
  | [], _ => zeroFrame
  | (p, f) :: rest, pos => if p = pos then f else ringRead rest pos

/-- A frame written at a position, keeping the canonical form. -/
def ringWrite : Rings → Nat → Frame → Rings
  | [], pos, f => if f = zeroFrame then [] else [(pos, f)]
  | (p, g) :: rest, pos, f =>
    if pos < p then
      if f = zeroFrame then (p, g) :: rest else (pos, f) :: (p, g) :: rest
    else if pos = p then
      if f = zeroFrame then rest else (pos, f) :: rest
    else (p, g) :: ringWrite rest pos f

/-- The canonical form of a ring memory: positions strictly rising and below 1024, no all-zero frame. -/
abbrev Rings.wf (m : Rings) : Prop :=
  m.Pairwise (fun x y => x.1 < y.1) ∧ ∀ x ∈ m, x.2 ≠ zeroFrame ∧ x.1 < Config.ringLength

/-- The ring position of an instant (R61). -/
def ringPos (i : Stamp) : Nat := i.toNat % Config.ringLength

/-- R61: the sample of a slot of a link for the output of the instant S, read at S − d. -/
def State.delayed (s : State) (r : Rig) (slot : Fin 64) : Sample :=
  let l := s.lines.get r
  (ringRead l.rings (ringPos (s.clock.count - BitVec.ofNat 32 l.delay))).get slot

/-! ### Groups: targets and transitions (R106 to R109, R111) -/

/-- A rig as a group source. -/
def Source.ofRig : Rig → Source
  | .a => .a
  | .b => .b

/-- The on-air rig as a group source, SILENT when none. -/
def Source.ofOnAir : Option Rig → Source
  | none => .silent
  | some r => Source.ofRig r

/-- R106: the target of a group of a mode and blind policy under the arbiter's values. -/
def targetOf (x : Arbiter) (policy : BlindPolicy) : GroupMode → Source
  | .pinA => .a
  | .pinB => .b
  | .mute => .silent
  | .follow =>
    match x.state with
    | .stopped => .silent
    | .steady => Source.ofOnAir x.onAir
    | .changing => Source.ofOnAir x.onAir
    | .blind =>
      match policy with
      | .stay => Source.ofOnAir x.onAir
      | .fadeOut => .silent

/-- A transition whose production has reached N stands completed (R111, log 31). -/
def Group.land (g : Group) : Group :=
  match g.transition with
  | none => g
  | some t => if t.k = t.n then { g with current := t.dst, transition := none } else g

/-- R107 and R108: a group takes a target, reading its fade length when a transition starts. -/
def Group.retarget (g : Group) (fade : Nat) (target : Source) : Group :=
  let g := { g.land with target := target }
  match g.transition with
  | none =>
    if target = g.current then g
    else if fade = 0 then { g with current := target }
    else { g with transition := some { src := g.current, dst := target, k := 0, n := fade } }
  | some t =>
    if target = t.dst then g
    else if target = t.src then
      if t.k = 0 then { g with transition := none }
      else { g with transition := some { src := t.dst, dst := t.src, k := t.n - t.k, n := t.n } }
    else g

/-- R111: a transition in flight advances by one step at a production. -/
def Group.advance (g : Group) : Group :=
  match g.transition with
  | none => g
  | some t => if t.k < t.n then { g with transition := some { t with k := t.k + 1 } } else g

/-- R124: a group waits while its target differs from both sources of its transition. -/
def Group.waiting (g : Group) : Bool :=
  match g.transition with
  | none => false
  | some t => g.target != t.src && g.target != t.dst

/-- R106: one group evaluates its target afresh and takes it. -/
def State.retargetGroup (s : State) (i : Fin 8) : State :=
  let e := s.bank.front.group.get i
  let g := s.mixer.groups.get i
  s.setMixer { s.mixer with
    groups := s.mixer.groups.set i (g.retarget e.fadeLength (targetOf s.arbiter e.policy g.mode)) }

/-- R106: every group evaluates its target afresh and takes it. -/
def State.retargetAll (s : State) : State :=
  s.setMixer { s.mixer with
    groups := s.mixer.groups.update fun i g =>
      g.retarget (s.bank.front.group.get i).fadeLength
        (targetOf s.arbiter (s.bank.front.group.get i).policy g.mode) }

/-- R113: the weight of the `to` source at step k of N. -/
def weightTo (k n : Nat) : Nat := k * 32768 / n

/-- R113: the mixed sample at step k of N. -/
def mixSample (k n : Nat) (xFrom xTo : Sample) : Sample :=
  let wTo : Int := weightTo k n
  BitVec.ofInt 24 ((xFrom.toInt * (32768 - wTo) + xTo.toInt * wTo + 16384) / 32768)

/-- R114: the sample of a source for a route entry. -/
def State.sourceSample (s : State) (e : RouteEntry) : Source → Sample
  | .a => s.delayed .a e.slotA
  | .b => s.delayed .b e.slotB
  | .silent => 0

/-- R114: an output channel's sample for the instant, from its route entry and its group's record. -/
def State.channelSample (s : State) (i : Fin 64) : Sample :=
  let e := s.bank.front.route.get i
  if e.enable then
    let g := s.mixer.groups.get e.group
    match g.transition with
    | none => s.sourceSample e g.current
    | some t => mixSample t.k t.n (s.sourceSample e t.src) (s.sourceSample e t.dst)
  else 0

/-- Word `k` of lane `l` carries link slot 16 × l + k (section 1.2). -/
def laneSlot (l : Fin 4) (k : Fin 16) : Fin 64 := ⟨16 * l.val + k.val, by omega⟩

/-- R18: a link frame in the lane framing of R9: on each lane a frame marker, then its sixteen slot words in slot order. -/
def laneFraming (out : Table 64 SlotWord) : Table 4 (List LineSymbol) :=
  Table.tab fun l => .marker :: (List.finRange 16).map fun k => .word (out.get (laneSlot l k))

/-- R111 and R18: every group advances and the output frame for the instant is sent on the four lanes. -/
def State.produce (s : State) : State :=
  let s := s.setMixer { s.mixer with groups := s.mixer.groups.map Group.advance }
  let out : Table 64 SlotWord := Table.tab fun i => (s.channelSample i).setWidth 32
  s.setMixer { s.mixer with output := some out, lanes := laneFraming out }

/-! ### The timecode (R126) -/

/-- No timecode flag. -/
def noTcFlags : TcFlags :=
  { preroll := false, jumped := false, songChanged := false, freewheel := false, held := false }

/-- R126: S − C, read as a signed number. -/
def State.elapsed (s : State) : Int := stampDiff s.clock.count (s.showClock.anchor.getD 0)

/-- The start timecode of a song in the FRONT Song Table. -/
def State.startOf (s : State) (song : Byte) : Timecode := (s.bank.front.song.get (songIndex song)).start

/-- The clock's song index. -/
def State.clockSong (s : State) : Byte := s.showClock.song.getD 0

/-- R126: the frame count of the elapsed samples. -/
def State.frameCount (s : State) : Nat := s.elapsed.toNat / s.bank.setup.spf

/-- R126: the timecode F frames after a start timecode, the day wrapping. -/
def timecodeAt (fps : Nat) (start : Timecode) (frames : Nat) : Timecode :=
  let total := (((start.h * 60 + start.m) * 60 + start.s) * fps + start.fr + frames) % (86400 * fps)
  { h := total / (3600 * fps)
    m := total % (3600 * fps) / (60 * fps)
    s := total % (3600 * fps) % (60 * fps) / fps
    fr := total % (3600 * fps) % (60 * fps) % fps }

/-- R126: the timecode derived from S and C in RUNNING, SLEWING and FREEWHEEL, and whether it is pre-roll. -/
def State.derived (s : State) : Timecode × Bool :=
  if s.elapsed < 0 then (s.startOf s.clockSong, true)
  else (timecodeAt s.bank.setup.frameRate.fps (s.startOf s.clockSong) s.frameCount, false)

/-- R126: the timecode the clock shows, with its flags; none in IDLE (log 19). -/
def State.shown (s : State) : Option (Timecode × TcFlags) :=
  match s.showClock.state with
  | .idle => none
  | .held => s.showClock.heldValue.map fun t => (t, { noTcFlags with held := true })
  | .running => some (s.derived.1, { noTcFlags with preroll := s.derived.2 })
  | .slewing => some (s.derived.1, { noTcFlags with preroll := s.derived.2 })
  | .freewheel => some (s.derived.1, { noTcFlags with preroll := s.derived.2 })

/-- R137: a record is sent at once, or joins the waiting slot with the marks of the record it replaces; it becomes
the last emitted timecode (R136), with the flags it was handed over with and not the merged ones: DESIGN CHOICE
(log 46). -/
def State.handRecord (s : State) (tc : Timecode) (flags : TcFlags) : State :=
  let rec1 : TcRecord := { tc, rate := s.bank.setup.frameRate.fps, song := s.clockSong, flags }
  let out : TcOutput :=
    match s.tcOutput.sending with
    | none => { s.tcOutput with sending := some (s.bank.setup.send rec1) }.drive
    | some _ =>
      match s.tcOutput.waiting with
      | none => { s.tcOutput with waiting := some rec1 }
      | some old =>
        { s.tcOutput with waiting := some { rec1 with flags := { flags with
            jumped := flags.jumped || old.flags.jumped
            songChanged := flags.songChanged || old.flags.songChanged } } }
  (s.setTcOutput out).setShowClock { s.showClock with lastEmitted := some (tc, flags), emitted := true }

/-! ### The Show Clock's moves (R127 to R135) -/

/-- R127: entry to IDLE; the waiting record is discarded, the last emitted timecode kept. An examination of the present
instant that is still open stays open (R136). -/
def State.clockIdle (s : State) : State :=
  (s.setShowClock { ShowClock.reset with
      lastEmitted := s.showClock.lastEmitted, control := s.showClock.control
      examine := s.showClock.examine }).setTcOutput
    { s.tcOutput with waiting := none }

/-- R130: the effects of entry to HELD with a held value, and the HELD record due at the entry instant. -/
def State.enterHeld (s : State) (value : Timecode) : State :=
  (s.setShowClock { s.showClock with
      state := .held, anchor := none, slewCounter := none, freewheelCounter := none, lastFrame := .absent
      jumped := false, songChanged := false, heldValue := some value, cadence := some 0
      cadenceDue := false }).handRecord value { noTcFlags with held := true }

/-- R130, R135: the last emitted timecode, or the one shown when no record has been emitted since IDLE (log 18). -/
def State.holdValue (s : State) : Timecode :=
  match s.showClock.emitted, s.showClock.lastEmitted with
  | true, some (t, _) => t
  | _, _ => s.derived.1

/-- R135: the freewheel limit. -/
def State.takeFreewheelLimit (s : State) : State :=
  match s.showClock.state, s.showClock.freewheelCounter with
  | .freewheel, some n => if s.showClock.control.freewheelLimit ≤ n then s.enterHeld s.holdValue else s
  | _, _ => s

/-- R134, R135: FREEWHEEL, from RUNNING or SLEWING only, with the test of the limit at entry. -/
def State.enterFreewheel (s : State) : State :=
  if s.showClock.state = .running ∨ s.showClock.state = .slewing then
    (s.setShowClock { s.showClock with
      state := .freewheel, slewCounter := none, freewheelCounter := some 0 }).takeFreewheelLimit
  else s

/-- R127: the clock leaves IDLE on a target and song. -/
def State.clockLeaveIdle (s : State) (target : Stamp) (song : Byte) : State :=
  s.setShowClock { s.showClock with
    state := .running, anchor := some target, target := some target, song := some song, lastFrame := .absent
    jumped := false, songChanged := true, emitted := false }

/-- R129: song change. SONG_CHANGED joins the pending flags, so a JUMPED that stands pending stays; one that the exchange of the
same boundary has left is dropped before (R142, log 45). -/
def State.clockSongChange (s : State) (target : Stamp) (song : Byte) : State :=
  s.setShowClock { s.showClock with
    state := .running, anchor := some target, target := some target, song := some song, slewCounter := none
    freewheelCounter := none, heldValue := none, cadence := none, cadenceDue := false, lastFrame := .absent
    songChanged := true }

/-- R131: resume from HELD. -/
def State.clockResume (s : State) (target : Stamp) : State :=
  s.setShowClock { s.showClock with
    state := .running, anchor := some target, target := some target, heldValue := none, cadence := none
    cadenceDue := false, lastFrame := .absent, jumped := true, songChanged := false }

/-- R128: correction. -/
def State.clockCorrect (s : State) (target : Stamp) : State :=
  let c := s.showClock
  let e := stampDiff target (c.anchor.getD target)
  let c := { c with target := some target, lastError := some e, freewheelCounter := none }
  if e = 0 then s.setShowClock { c with state := .running, slewCounter := none }
  else if e.natAbs ≤ c.control.slewWindow then
    s.setShowClock { c with
      state := .slewing
      slewCounter := if c.state = .slewing then c.slewCounter else some 0 }
  else
    (s.setShowClock { c with
      state := .running, slewCounter := none, anchor := some target, jumped := true
      lastFrame := .absent }).raiseAll .clockJumped

/-- R125: the target a rig's PLAYING record gives, its anchor carried to the output side. -/
def State.targetFrom (s : State) (r : Rig) (anchor : Stamp) : Stamp :=
  anchor + BitVec.ofNat 32 (s.lines.get r).delay

/-- The table of section 7.4: the clock takes the on-air rig's record as its beacon is accepted (R127 to R131). A CUED of the
clock's own song in HELD leaves the held value as it stood (R130), also where an exchange has changed the song's start
timecode since (R141): DESIGN CHOICE (log 53). -/
def State.clockFollow (s : State) (r : Rig) (rec : RigRecord) : State :=
  match rec.transport with
  | .playing =>
    let target := s.targetFrom r (rec.anchor.getD 0)
    match s.showClock.state with
    | .idle => if s.arbiter.state = .stopped then s else s.clockLeaveIdle target rec.song
    | .held => if rec.song = s.clockSong then s.clockResume target else s.clockSongChange target rec.song
    | .running => if rec.song = s.clockSong then s.clockCorrect target else s.clockSongChange target rec.song
    | .slewing => if rec.song = s.clockSong then s.clockCorrect target else s.clockSongChange target rec.song
    | .freewheel => if rec.song = s.clockSong then s.clockCorrect target else s.clockSongChange target rec.song
  | .cued =>
    match s.showClock.state with
    | .idle => s
    | .held =>
      if rec.song = s.clockSong then s
      else s.setShowClock { s.showClock with song := some rec.song, heldValue := some (s.startOf rec.song) }
    | .running => (s.setShowClock { s.showClock with song := some rec.song }).enterHeld (s.startOf rec.song)
    | .slewing => (s.setShowClock { s.showClock with song := some rec.song }).enterHeld (s.startOf rec.song)
    | .freewheel => (s.setShowClock { s.showClock with song := some rec.song }).enterHeld (s.startOf rec.song)
  | .stopped =>
    match s.showClock.state with
    | .idle => s
    | .held => s
    | .running => s.enterHeld s.holdValue
    | .slewing => s.enterHeld s.holdValue
    | .freewheel => s.enterHeld s.holdValue

/-- R132, R134: the clock re-evaluates against the on-air rig's record at a change of the on-air rig, and then tests that
rig's MISSING, with the record present as with the record absent (log 47). -/
def State.clockReevaluate (s : State) : State :=
  match s.arbiter.onAir with
  | none => s
  | some r =>
    let s := match (s.parsers.get r).record with
      | some rec => s.clockFollow r rec
      | none => s
    if (s.parsers.get r).missing then s.enterFreewheel else s

/-! ### Trim delays, settling and eligibility (R63, R66 to R68, R75, R76) -/

/-- A link's current delay changed (R62). -/
def State.setDelay (s : State) (r : Rig) (d : Nat) : State :=
  s.setLines (s.lines.set r { s.lines.get r with delay := d })

/-- R67: the required standby delay for an accepted offset, formed without wrapping. -/
def State.requiredDelay (s : State) (offset : Int) : Int :=
  match s.arbiter.standby with
  | .b => (s.lines.get .a).delay - offset
  | .a => (s.lines.get .b).delay + offset

/-- R67: in reach. -/
def inReach (d : Int) : Bool := decide (0 ≤ d) && decide (d ≤ 1023)

/-- The part of R68 for a required delay in reach: deferred while CHANGING, else set at once. -/
def State.placeDelay (s : State) (d : Int) : State :=
  let r := s.arbiter.standby
  if s.arbiter.state = .changing then
    s.setAlignment { s.alignment with deferred := some { link := r, delay := d.toNat }, lastRequired := some d }
  else
    (s.setDelay r d.toNat).setAlignment { s.alignment with deferred := none, lastRequired := some d }

/-- R68: settling the standby delay. -/
def State.settleDelay (s : State) : State :=
  let x := s.alignment
  let d := s.requiredDelay (x.accepted.getD 0)
  match x.state with
  | .none => s.setAlignment { x with deferred := none }
  | .confirming => s.setAlignment { x with deferred := none }
  | .outOfReach =>
    if inReach d then
      ((s.setAlignment { x with state := .accepted, pairless := 0 }).placeDelay d).raiseAll .alignmentChanged
    else s.setAlignment { x with lastRequired := some d }
  | .accepted =>
    if inReach d then s.placeDelay d
    else (s.setAlignment { x with
      state := .outOfReach, deferred := none, lastRequired := some d }).raiseAll .alignmentChanged
  | .held =>
    if inReach d then s.placeDelay d
    else (s.setAlignment { x with
      state := .outOfReach, deferred := none, lastRequired := some d, pairless := 0, holdAge := 0
      limitDue := false }).raiseAll .alignmentChanged

/-- R76: eligibility is re-evaluated and handed to the arbiter. -/
def State.reEligible (s : State) : State := s.setArbiter { s.arbiter with eligible := s.eligibleNow }

/-! ### The arbiter's own transitions (R82, R88 to R95, R100 to R102) -/

/-- R82: the song in force follows the on-air rig's record, if present. -/
def State.updateSong (s : State) : State :=
  match s.arbiter.onAir with
  | none => s
  | some r =>
    match (s.parsers.get r).record with
    | none => s
    | some rec => s.setArbiter { s.arbiter with song := rec.song }

/-- R100, R102: a history entry is opened; a full list loses its oldest entry. The failing kinds are the qualified set as it
stands, a kind that a guard decision of this very instant has qualified included, which a restart of the monitors at this
instant would still undo (R45): DESIGN CHOICE (log 56). -/
def State.openEntry (s : State) (fromRig toRig : Rig) (cause : Cause) : State :=
  let x := s.arbiter
  let e : HistoryEntry :=
    { sequence := x.nextSequence, stamp := s.clock.count, timecode := s.shown.map (·.1), fromRig, toRig, cause
      ending := .inFlight, failing := s.qualified fromRig }
  let kept := if x.history.length < Config.historyLength then x.history else x.history.drop 1
  s.setArbiter { x with history := kept ++ [e], nextSequence := x.nextSequence + 1 }

/-- R101: the IN_FLIGHT entry is closed. -/
def State.closeEntry (s : State) (ending : Ending) : State :=
  s.setArbiter { s.arbiter with
    history := s.arbiter.history.map fun e => if e.ending = .inFlight then { e with ending := ending } else e }

/-- R94: whether a late failover is to be made. -/
def State.lateFailoverHolds (s : State) : Bool :=
  s.arbiter.state == .blind && s.autoPermitted && s.arbiter.eligible

/-- R83, R93: the groups take the arbiter's targets. Where BLIND is entered and a late failover follows at once, the targets
they act on are those of that changeover, which `arbRun` hands them. -/
def State.handTargets (s : State) : State := if s.lateFailoverHolds then s else s.retargetAll

/-- R83: a new on-air rig is handed to the Alignment Monitor, the Show Clock and the Group Mixer. -/
def State.handOnAir (s : State) : State := s.settleDelay.reEligible.clockReevaluate.handTargets

/-- R88: entry to CHANGING toward the standby rig. -/
def State.enterChanging (s : State) (cause : Cause) : State :=
  match s.arbiter.onAir with
  | none => s
  | some old =>
    let s := s.openEntry old old.other cause
    let s := s.setArbiter { s.arbiter with state := .changing, onAir := some old.other, outgoing := some old }
    (s.updateSong.raiseAll .onAirChanged).handOnAir

/-- R91: a reversal of the running changeover. -/
def State.reverse (s : State) : State :=
  match s.arbiter.onAir with
  | none => s
  | some incoming =>
    let s := (s.closeEntry .reversed).openEntry incoming incoming.other .reversal
    let s := s.setArbiter { s.arbiter with onAir := some incoming.other, outgoing := some incoming }
    (s.updateSong.raiseAll .onAirChanged).handOnAir

/-- R93: entry to BLIND; the test for a late failover follows in `arbRun`. -/
def State.enterBlind (s : State) : State :=
  ((s.setArbiter { s.arbiter with state := .blind }).raiseAll .blindEntered).handTargets

/-- R89: whether every FOLLOW group rests on the on-air rig while CHANGING. -/
def State.completionHolds (s : State) : Bool :=
  s.arbiter.state == .changing &&
    (List.finRange 8).all fun i =>
      let g := s.mixer.groups.get i
      g.mode != .follow || (g.transition.isNone && g.current == Source.ofOnAir s.arbiter.onAir)

/-- R89: completion into STEADY, or BLIND when the on-air rig is down. `bank` is what the Bank Store does at it (R170): the
completion is handed to it first, and the targets and the test of R93 follow. -/
def State.completeWith (bank : State → State) (s : State) : State :=
  let s := s.closeEntry .completed
  let s := s.setArbiter { s.arbiter with state := if s.onAirDown then .blind else .steady, outgoing := none }
  let s := if s.arbiter.state = .blind then s.raiseAll .blindEntered else s
  let s := bank (s.raiseAll .changeDone).settleDelay.reEligible
  if s.arbiter.state = .blind then s.handTargets else s

/-- The arbiter's standing tests (R89, R94), made after every event that can change one of their terms. Each round
makes one transition; a chain within one instant has at most three. -/
def arbRunWith (bank : State → State) : Nat → State → State
  | 0, s => s
  | n + 1, s =>
    if s.completionHolds then arbRunWith bank n (s.completeWith bank)
    else if s.lateFailoverHolds then arbRunWith bank n (s.enterChanging .lateFailover)
    else s

/-- R86 and R90: the arbiter takes a going down of a rig; the outgoing rig's health is the one last handed on (R81). -/
def State.goesDown (s : State) (r : Rig) : State :=
  if s.arbiter.onAir = some r then
    match s.arbiter.state with
    | .stopped => s
    | .blind => s
    | .steady => if s.autoPermitted && s.arbiter.eligible then s.enterChanging .autoFailure else s.enterBlind
    | .changing => if s.handed r.other = .healthy then s.reverse else s
  else s

/-- R95: the arbiter takes a coming up of a rig. -/
def State.comesUp (s : State) (r : Rig) : State :=
  if s.arbiter.state = .blind ∧ s.arbiter.onAir = some r then
    (s.setArbiter { s.arbiter with state := .steady }).retargetAll
  else s

end Sys2Proof.Machine
end

