-- ==== Sys2Proof/Machine/Evidence.lean ====
section
/-! DEFINITION. The named operations over fault evidence: what evidence does to a health state, how a new health
state is handed on, and what the Guard Monitor keeps (chapter 3). -/

namespace Sys2Proof.Machine

open Sys2Proof

/-! ### Health states under evidence (R47, R50, R52 to R54) -/

/-- A count that stops at 255. -/
def stop255 (n : Nat) : Nat := min 255 (n + 1)

/-- R52: entry to FAILED with the kinds that qualify at that instant. -/
def Health.fail (h : Health) (kinds : KindSet) : Health :=
  { h with state := .failed, failures := stop255 h.failures, history := h.history.union kinds }

/-- R54: kinds whose enabled evidence appears at the instant of a relapse: each one's counter is set to its delay, and it
joins the history. -/
def Health.relapseWith (h : Health) (f : Table 11 FaultEntry) (kinds : KindSet) : Health :=
  { h with
    history := h.history.union kinds
    counters := h.counters.update fun i c => if kinds.get i then (f.get i).delay else c }

/-- R54: a relapse. -/
def Health.relapse (h : Health) (f : Table 11 FaultEntry) (kinds : KindSet) : Health :=
  ({ h.fail kinds with restore := 0, relapsed := true } : Health).relapseWith f kinds

/-- R54: the restore counter of a RECOVERING rig has reached the restore time. -/
def Health.restoreDue (h : Health) (restoreTime : Nat) : Bool := h.state == .recovering && decide (restoreTime ≤ h.restore)

/-- R54: a RECOVERING rig whose counter stands at the restore time is HEALTHY before it takes new evidence. -/
def Health.restored (h : Health) (restoreTime : Nat) : Health :=
  if h.restoreDue restoreTime then { h with state := .healthy } else h

/-- Evidence of a set of kinds that appears at one instant (R40, R47, R50, R52 to R54). While OFFLINE it is not
evaluated (R49). Evidence of a disabled kind sets its flag and moves nothing (R41). A second evidence at the instant of a
relapse is of that relapse (R54). -/
def Health.evidence (h : Health) (f : Table 11 FaultEntry) (restoreTime : Nat) (kinds : KindSet) : Health :=
  if h.state = .offline then h
  else
    let h := { h with flags := h.flags.union kinds }
    let enabled := KindSet.filter kinds (enabledIn f)
    let atOnce := KindSet.filter kinds (instantIn f)
    if enabled.nonempty then
      let h := h.restored restoreTime
      match h.state with
      | .offline => h
      | .healthy => if atOnce.nonempty then h.fail atOnce else { h with state := .suspect }
      | .suspect => if atOnce.nonempty then h.fail atOnce else h
      | .failed => if h.relapsed then h.relapseWith f enabled else { h with history := h.history.union atOnce }
      | .recovering => h.relapse f enabled
    else h

/-- R52, R53: the kinds of a set qualify; in a RECOVERING rig that is a relapse (R41). -/
def Health.qualify (h : Health) (f : Table 11 FaultEntry) (kinds : KindSet) : Health :=
  match h.state with
  | .offline => h
  | .healthy => h.fail kinds
  | .suspect => h.fail kinds
  | .failed => { h with history := h.history.union kinds }
  | .recovering => h.relapse f kinds

/-- R49: entry to OFFLINE. -/
def Health.goOffline (h : Health) : Health :=
  { h with state := .offline, flags := noKinds, counters := Table.fill 11 0, restore := 0, qualifying := noKinds,
             relapsed := false }

/-- R46, R52, R53: the kinds that stepped up to their delay qualify. -/
def Health.settleQualifying (h : Health) (f : Table 11 FaultEntry) : Health :=
  if h.qualifying.nonempty then { h with qualifying := noKinds }.qualify f h.qualifying else h

/-- R46, R54: what a tick end or the entry to RECOVERING has left due of a rig's health is taken: its qualification, then the
end of its restore. -/
def Health.settleDue (h : Health) (f : Table 11 FaultEntry) (restoreTime : Nat) : Health :=
  (h.settleQualifying f).restored restoreTime

/-- R46, R54: a qualification or the end of the restore stands due. -/
def Health.dueUnder (h : Health) (restoreTime : Nat) : Bool := h.qualifying.nonempty || h.restoreDue restoreTime

/-- R49: the rig leaves OFFLINE with the conditions `now` present, and passes on into FAILED when one of them is enabled. -/
def Health.leaveOffline (h : Health) (f : Table 11 FaultEntry) (now : KindSet) : Health :=
  if h.state = .offline then
    let on := now.filter (enabledIn f)
    let h := { h with state := .recovering, restore := 0, flags := now }
    if on.nonempty then h.relapse f on else h
  else h

/-! ### Health states under a changed FRONT bank (R41, R58) -/

/-- R41: a rig's health takes a Fault Policy `f` in place of `old`. -/
def Health.policyChange (h : Health) (old f : Table 11 FaultEntry) : Health :=
  let trimmed := { h with counters := h.counters.update fun i c => min c (f.get i).delay }
  let appeared : KindSet := Table.tab fun i => !(old.get i).enabled && (f.get i).enabled && h.flags.get i
  let qualifies := (trimmed.qualifiedUnder f).minus (h.qualifiedUnder old)
  match h.state with
  | .recovering =>
    if (appeared.union qualifies).nonempty then trimmed.relapse f (appeared.union qualifies) else trimmed
  | .healthy =>
    if qualifies.nonempty then trimmed.qualify f qualifies
    else if appeared.nonempty then { trimmed with state := .suspect } else trimmed
  | .suspect => if qualifies.nonempty then trimmed.qualify f qualifies else trimmed
  | .failed =>
    if h.relapsed then trimmed.relapseWith f (appeared.union qualifies) else trimmed.qualify f qualifies
  | .offline => h

/-- R54, R58: a rig's health takes a restore time: its restore counter never exceeds it, and a RECOVERING rig whose counter
stands at it is HEALTHY. -/
def Health.restoreChange (h : Health) (restoreTime : Nat) : Health :=
  let trimmed := { h with restore := min h.restore restoreTime }
  if h.restoreDue restoreTime then { trimmed with state := .healthy } else trimmed

/-! ### A rig's health as the part holds it -/

/-- A rig's health replaced. -/
def State.setRigHealth (s : State) (r : Rig) (h : Health) : State := s.setHealth (s.health.set r h)

/-- A rig's health moves by `f`; beside it, by `g`, moves what the tick end of this instant leaves of it with no guard
condition decided (R45, log 40). -/
def State.moveHealthBy (s : State) (r : Rig) (f g : Health → Health) : State :=
  let s := s.setRigHealth r (f (s.health.get r))
  match s.instantHealth.unguarded with
  | none => s
  | some u =>
    s.setInstantHealth { s.instantHealth with
      unguarded := some (u.set r { u.get r with health := g (u.get r).health }) }

/-- A rig's health moves by `f`, whether or not a guard condition was decided at this instant. -/
def State.moveHealth (s : State) (r : Rig) (f : Health → Health) : State := s.moveHealthBy r f f

/-- What a Health Qualifier keeps beside its state of a tick end with no guard condition decided is replaced. -/
def State.setUnguarded (s : State) (x : Option (PerRig Unguarded)) : State :=
  s.setInstantHealth { s.instantHealth with unguarded := x }

/-- R45: a rig's health as it stands where a restart of the monitors at the present instant undoes what they decided. -/
def State.unguardedHealth (s : State) (r : Rig) : Health :=
  match s.instantHealth.unguarded with
  | none => s.health.get r
  | some u => (u.get r).health

/-- A rig's parser replaced. -/
def State.setParser (s : State) (r : Rig) (p : Parser) : State := s.setParsers (s.parsers.set r p)

/-- A rig's guard monitor replaced. -/
def State.setGuard (s : State) (r : Rig) (g : Guard) : State := s.setGuards (s.guards.set r g)

/-- A link's receiver replaced. -/
def State.setLink (s : State) (r : Rig) (l : LinkRx) : State := s.setLinks (s.links.set r l)

/-- The restore time in force (R54). -/
def State.restoreTime (s : State) : Nat := s.bank.front.monitor.restoreTime

/-- A rig's evidence reaches its Health Qualifier: event kinds are noted for the view (R60), then judged. -/
def State.noteEvidence (s : State) (r : Rig) (kinds : KindSet) : State :=
  s.moveHealth r fun h =>
    { h with events := h.events.union (KindSet.filter kinds eventKind) }.evidence s.bank.front.fault s.restoreTime kinds

/-- R36: DIVERGED of a rig is re-examined under the other rig's health state `other`; when it becomes present it is
evidence. -/
def State.reDivergedBy (s : State) (r : Rig) (other : HealthState) : State :=
  let p := s.parsers.get r
  let now := s.divergedBy r other
  if now = p.diverged then s
  else
    let s := s.setParser r { p with diverged := now }
    if now then s.noteEvidence r (oneKind .diverged) else s

/-- R36: DIVERGED of a rig is re-examined under the other rig's health as last handed on. -/
def State.reDiverged (s : State) (r : Rig) : State := s.reDivergedBy r (s.handed r.other)

/-- R36: DIVERGED of a rig is re-examined under the other rig's health as a judgement of this instant has left it. -/
def State.reDivergedJudged (s : State) (r : Rig) : State := s.reDivergedBy r (s.health.get r.other).state

/-! ### Handing a new health state on (R55). `run` is the arbiter's standing tests. -/

/-- A rig's state as handed on is replaced. -/
def State.setHanding (s : State) (r : Rig) (x : Handing) : State :=
  s.setInstantHealth { s.instantHealth with handing := s.instantHealth.handing.set r x }

/-- R55, R86: a new state is a going down of the rig when it is down and neither the state before this instant nor the one
last handed on was. -/
def Handing.falls (x : Handing) (after : HealthState) : Bool := after.down && !x.before.down && !x.handed.down

/-! ### What the present instant may still bring a rig (R55, log 40) -/

/-- R45, log 40: whether the state of a rig rests on a guard condition decided at this instant: a restart of the monitors
would leave the rig in another state, what stands due of it taken in both. -/
def State.guardHeld (s : State) (r : Rig) : Bool :=
  let settled := fun h : Health => (h.settleDue s.bank.front.fault s.restoreTime).state
  match s.instantHealth.unguarded with
  | none => false
  | some u => settled (u.get r).health != settled (s.health.get r)

/-- R55: whether a rig that was last handed on as down may be handed on as up within the present instant: it is up already and
not handed on yet, or a restart may still undo the guard condition that keeps it down (R45). -/
def State.mayRise (s : State) (r : Rig) : Bool :=
  (s.handed r).down && (!(s.health.get r).state.down || s.guardHeld r)

/-- R36: DIVERGED of the rig may yet become present at the present instant, by a complete beacon of the other rig that waits
for its judgement and says PLAYING, or by the health state of that rig, PLAYING already, when it is handed on. -/
def State.divergenceDue (s : State) (r : Rig) : Bool :=
  let theirs := s.parsers.get r.other
  (s.parsers.get r).notPlaying && !(s.parsers.get r).diverged &&
    (theirs.playingNext || (theirs.playing && s.mayRise r.other))

/-- Whether a tick end, a judgement or evidence of a rig stands due at the present instant (R10, R12, R13, R26, R34, R36, R39),
or the acceptance under way has yet to bring some. -/
def State.evidenceDue (s : State) (r : Rig) : Bool :=
  s.tickDue || s.windowDue r || (s.links.get r).lossDue || (s.links.get r).absenceDue ||
    (s.parsers.get r).judging.isSome || s.missingDue r || s.divergenceDue r || s.instantHealth.coming.evidence.get r

/-- R89: whether every FOLLOW group would stand resting on a source if that became its target now, a transition whose
production has reached N having landed. -/
def State.restsUnder (s : State) (target : Source) : Bool :=
  (List.finRange 8).all fun i =>
    let g := (s.mixer.groups.get i).retarget (s.bank.front.group.get i).fadeLength target
    g.mode != .follow || (g.transition.isNone && g.current == target)

/-- R89, R91: whether the running changeover may complete at the present instant with no command of a port: as it stands, by
the transitions that end at it, or by a reversal, which has the rig not on air for its target. -/
def State.completionNear (s : State) : Bool :=
  s.arbiter.state == .changing &&
    (s.restsUnder (Source.ofOnAir s.arbiter.onAir) || s.restsUnder (Source.ofRig s.arbiter.standby))

/-- Whether an exchange may yet be taken at the present instant (R152, R170): by a beacon that waits for its judgement, by
what the acceptance under way has yet to bring, or, where it is due, at a completion of the changeover. What the BACK bank
holds has no part in it (R159). -/
def State.exchangeDue (s : State) : Bool :=
  let waits := (s.parsers.get .a).judging.isSome || (s.parsers.get .b).judging.isSome
  s.instantHealth.coming.exchange || (waits && s.asksExchange) ||
    match s.bank.exchange with
    | none => false
    | some e => waits || (e.due && s.completionNear)

/-- R53: no in-tick flag of a kind that a Fault Policy enables is set, so that a tick end under it may be clean. -/
def Health.cleanUnder (h : Health) (f : Table 11 FaultEntry) : Bool := !(h.flags.filter (enabledIn f)).nonempty

/-- R55: whether a rig's state may still change within the present instant, so that the state it holds is not the one after
the instant: a qualification, the end of its restore, a tick end, evidence or an exchange stands due, or it rests on a guard
condition that a restart may still undo (R45). FAILED and OFFLINE are left only as R49 and R53 say: FAILED at a tick end that
is clean, which an exchange that may yet be taken before it can make it, OFFLINE at a beacon. -/
def State.unsettled (s : State) (r : Rig) : Bool :=
  let h := s.health.get r
  let moving := s.guardHeld r || s.evidenceDue r || h.qualifying.nonempty || s.exchangeDue
  match h.state with
  | .offline => (s.parsers.get r).judging.isSome || s.instantHealth.coming.evidence.get r
  | .failed =>
    s.guardHeld r || (s.links.get r).absenceDue ||
      (s.tickDue && (h.cleanUnder s.bank.front.fault || s.exchangeDue))
  | .recovering => moving || h.restoreDue s.restoreTime
  | .healthy => moving
  | .suspect => moving

/-! ### The handing on itself -/

/-- The Alignment Monitor and the arbiter take the state of a rig that has just been handed on, `x` being what was kept of
its handing before (R76, R81). Eligibility is read from the states handed on so far; where both rigs' states are handed on at
one instant, the operand of HEALTH_TICK_END names the first at a tick end, and Rig A is the first elsewhere: DESIGN CHOICE
(log 44). -/
def State.takeHealthWith (run : State → State) (s : State) (r : Rig) (x : Handing) : State :=
  let after := s.handed r
  let s := s.reEligible
  run (if x.falls after then s.goesDown r else if after = .healthy then s.comesUp r else s)

/-- R55: a health state that differs from the one last handed on is handed on, with HEALTH_CHANGED and the other rig's
DIVERGED. -/
def State.handOneWith (run : State → State) (s : State) (r : Rig) : State :=
  let x := s.instantHealth.handing.get r
  let after := (s.health.get r).state
  if after = x.handed then s
  else
    (((s.setHanding r { x with handed := after }).raiseAll .healthChanged).reDiverged r.other).takeHealthWith run r x

/-- R55: a health state is handed on, and then the other rig's, which its DIVERGED may have moved, once that is settled. -/
def State.handHealthWith (run : State → State) (s : State) (r : Rig) : State :=
  if (s.health.get r).state = s.handed r then s
  else
    let s := s.handOneWith run r
    if s.unsettled r.other then s else s.handOneWith run r.other

/-- R55: a rig's state is handed on once the instant has carried it to its end (log 40). -/
def State.handSettledWith (run : State → State) (s : State) (r : Rig) : State :=
  if s.unsettled r then s else s.handHealthWith run r

/-- A rig's evidence, if any, is judged. -/
def State.takeEvidence (s : State) (r : Rig) (kinds : KindSet) : State :=
  if kinds.nonempty then s.noteEvidence r kinds else s

/-- A rig's evidence with everything that follows from it at the instant. -/
def State.applyEvidenceWith (run : State → State) (s : State) (r : Rig) (kinds : KindSet) : State :=
  (s.takeEvidence r kinds).handSettledWith run r

/-! ### The Guard Monitor (R42 to R45) -/

/-- R42: the watched entries, the first four of the guard set. -/
def State.watched (s : State) : List (Fin 64) :=
  ((List.finRange 64).filter fun i => (s.bank.front.route.get i).guardFlag).take Config.guardChannels

/-- R42: the slot of a route entry on a rig's link. -/
def RouteEntry.slot (e : RouteEntry) : Rig → Fin 64
  | .a => e.slotA
  | .b => e.slotB

/-- R43: whether a sample's magnitude is below the silence threshold 2^E. -/
def quiet (exponent : Nat) (x : Sample) : Bool := decide (x.toInt.natAbs < 2 ^ exponent)

/-- R43: one more sample of a channel in a tick. -/
def GuardMarks.next (m : GuardMarks) (exponent : Nat) (x : Sample) : GuardMarks :=
  { m with silent := m.silent && quiet exponent x, steady := m.steady && x == m.first }

/-- R43: the monitor takes the frame handed on at a sample instant. -/
def State.guardSample (s : State) (r : Rig) (f : Frame) : State :=
  let g := s.guards.get r
  let e := s.bank.front.monitor.silenceExponent
  let xs := s.watched.map fun i => f.get ((s.bank.front.route.get i).slot r)
  if g.void then s
  else
    match g.marks with
    | none =>
      s.setGuard r { g with
        marks := some (xs.map fun x => { first := x, silent := quiet e x, steady := true })
        playing := (s.parsers.get r).playing }
    | some ms => s.setGuard r { g with marks := some (ms.zipWith (fun m x => m.next e x) xs) }

/-- R44: what a tick's marks decide for SILENT. -/
def Guard.silentDecided (g : Guard) : Bool :=
  match g.marks with
  | none => false
  | some ms => !g.void && !ms.isEmpty && ms.all (·.silent) && g.playing

/-- R44: what a tick's marks decide for FROZEN. -/
def Guard.frozenDecided (g : Guard) (exponent : Nat) : Bool :=
  match g.marks with
  | none => false
  | some ms => !g.void && ms.any fun m => m.steady && !quiet exponent m.first

/-- R60: the tick-end decisions of the marks, all clear for a void tick (log 25). -/
def Guard.decided (g : Guard) (watched : List (Fin 64)) : List GuardDecision :=
  match g.marks with
  | none => watched.map fun i => { entry := i, silent := false, steady := false }
  | some ms =>
    if g.void then watched.map fun i => { entry := i, silent := false, steady := false }
    else watched.zipWith (fun i m => { entry := i, silent := m.silent, steady := m.steady }) ms

/-- R44: the monitor's decisions at a tick end, and the accumulation of the next tick begun. -/
def State.guardTick (s : State) (r : Rig) : State :=
  let g := s.guards.get r
  s.setGuard r
    { marks := none, playing := false, void := g.voidNext, voidNext := false
      silent := g.silentDecided
      frozen := g.frozenDecided s.bank.front.monitor.silenceExponent
      decisions := g.decided s.watched }

/-- R45: a restart of one monitor; SILENT and FROZEN end, the tick in progress is void, and with a tick end at the same
instant still to be taken the next tick too (log 30). -/
def Guard.restart (g : Guard) (tickDue : Bool) : Guard :=
  { g with marks := none, playing := false, void := true, voidNext := tickDue, silent := false, frozen := false }

/-- R45, R60: no mark of the last tick end is decided. -/
def Guard.undecide (g : Guard) : Guard :=
  { g with decisions := g.decisions.map fun d => { d with silent := false, steady := false } }

/-- R45: a restart after a tick end of the same instant: no guard condition is decided at that tick end, so each rig stands
as the tick end leaves it without one, and nothing of it is left to be undone (log 30, log 40). -/
def State.undoGuards (s : State) : State :=
  match s.instantHealth.unguarded with
  | none => s
  | some u =>
    let s := (s.setUnguarded none).setGuards (s.guards.map Guard.undecide)
    let s := s.setHealth (u.map (·.health))
    let s := s.setParsers ⟨{ s.parsers.a with diverged := u.a.diverged }, { s.parsers.b with diverged := u.b.diverged }⟩
    (s.reDivergedJudged .a).reDivergedJudged .b

/-- R45: both monitors restart. -/
def State.guardRestartBoth (s : State) : State :=
  (s.setGuards (s.guards.map fun g => g.restart s.tickDue)).undoGuards

/-! ### The beacon age (R34) -/

/-- R34: an event other than an acceptance sets the age at the present moment. -/
def Parser.setAge (p : Parser) (age : Option Nat) : Parser := { p with age := age, ageSet := true }

/-! ### Records that become absent (R29) -/

/-- R29: a rig's record becomes absent: SELF ends (R35), the playing mark clears (R43), DIVERGED is re-examined for
both rigs (R36). -/
def State.recordAbsent (s : State) (r : Rig) : State :=
  let s := s.setParser r { s.parsers.get r with record := none, selfFault := false }
  let s := s.setGuard r { s.guards.get r with playing := false }
  (s.reDiverged r).reDiverged r.other

/-- R24: a beacon in hand is abandoned silently, one that waits for its judgement too (log 2). -/
def State.silentAbandon (s : State) (r : Rig) : State :=
  s.setParser r { s.parsers.get r with assembly := .waiting, judging := none }

end Sys2Proof.Machine
end

