-- ==== Sys2Proof/Machine/Exchange.lean ====
section
/-! DEFINITION. The named operations over the banks: validation, the effects of a changed FRONT bank on the blocks that
read it, and the taking of an exchange, on its own and at the completion of a changeover (chapter 9). -/

namespace Sys2Proof.Machine

open Sys2Proof

/-- R163: FRONT is editable while the arbiter is STOPPED, BACK otherwise. -/
def State.frontEditable (s : State) : Bool := s.arbiter.state == .stopped

/-- The editable bank (R163). -/
def State.editable (s : State) : Bank := if s.frontEditable then s.bank.front else s.bank.back

/-- R156: whether a Matcher table passes validation. -/
def matchersValid (t : Table 8 MatcherEntry) : Bool :=
  !(t.get 0).chain &&
    (List.finRange 7).all fun i => !(t.get i.succ).chain || (t.get i.succ).source == (t.get i.castSucc).source

/-- R168: whether a bank passes validation under Show Setup. -/
def Bank.valid (b : Bank) (u : ShowSetup) : Bool :=
  (List.finRange 64).all (fun i => !((b.route.get i).enable && (b.route.get i).slotA == u.pilot.a)) &&
  (List.finRange 64).all (fun i => !((b.route.get i).enable && (b.route.get i).slotB == u.pilot.b)) &&
  decide (((List.finRange 64).filter fun i => (b.route.get i).guardFlag).length ≤ Config.guardChannels) &&
  b.song.list.all (fun e => decide (e.start.fr < u.frameRate.fps)) &&
  matchersValid b.matcher

/-! ### What a changed FRONT bank does -/

/-- R41: one rig takes a changed Fault Policy; `old` is the policy before. -/
def State.policyChange (s : State) (r : Rig) (old : Table 11 FaultEntry) : State :=
  s.moveHealth r fun h => h.policyChange old s.bank.front.fault

/-- R58: one rig takes a changed restore time. -/
def State.restoreChange (s : State) (r : Rig) : State := s.moveHealth r fun h => h.restoreChange s.restoreTime

/-- R141: a changed start timecode of the clock's song re-bases the shown timecode. -/
def State.rebase (s : State) (old : Table 256 SongEntry) : State :=
  let c := s.showClock
  if (c.state = .running ∨ c.state = .slewing ∨ c.state = .freewheel) ∧
      (old.get (songIndex s.clockSong)).start ≠ s.startOf s.clockSong then
    s.setShowClock { c with jumped := true, lastFrame := .absent }
  else s

/-- R154: every previous-match memory becomes not matched. -/
def State.clearMemories (s : State) : State :=
  s.setMatchers (s.matchers.map fun m => { m with matched := false })

/-- Both rigs' health states are handed on where they are settled, Rig A first (log 16), and the arbiter makes its standing
tests. So where an exchange taken in BLIND makes the on-air rig HEALTHY and newly permits auto, the coming up is taken before the
late-failover test, which R95 lets come in either order: DESIGN CHOICE (log 61). -/
def State.handBothWith (run : State → State) (s : State) : State :=
  run ((s.handSettledWith run .a).handSettledWith run .b)

/-- R46, R54: what stands due of both rigs' health is taken, and of what a restart would leave of them (R45). -/
def State.settleDues (s : State) : State :=
  let settle := fun h : Health => h.settleDue s.bank.front.fault s.restoreTime
  (s.moveHealth .a settle).moveHealth .b settle

/-- R172: the taking of an exchange, and what follows from it in each block. In BLIND the groups wait for the standing tests,
since a late failover that follows at once hands them its own targets (R93): DESIGN CHOICE (log 16). -/
def State.exchangeTakenWith (run : State → State) (s : State) : State :=
  let old := s.bank.front
  let s := s.guardRestartBoth
  let s := s.setBank { s.bank with front := s.bank.back, back := old, claim := none, exchange := none }
  let s := s.raiseAll .bankExchanged
  let s := (s.restoreChange .a).restoreChange .b
  let s := (s.policyChange .a old.fault).policyChange .b old.fault
  let s := if s.arbiter.state = .blind then s else s.retargetAll
  let s := ((s.rebase old.song).clearMemories).handBothWith run
  if s.arbiter.state = .blind then s.retargetAll else s

/-- R170: what the Bank Store does at the completion of a changeover. What stands due of the rigs' health belongs to what came
before, so it is taken first, as before a command (log 2). -/
def State.dueExchangeWith (run : State → State) (s : State) : State :=
  match s.bank.exchange with
  | none => s
  | some e => if e.due then s.settleDues.exchangeTakenWith run else s

/-- The arbiter's standing tests where no exchange can be due, as inside the taking of one. -/
def State.settleArbiter (s : State) : State := arbRunWith (fun s => s) 4 s

/-- The arbiter's standing tests after an event; a completion lets the Bank Store take a due exchange. -/
def State.run (s : State) : State := arbRunWith (State.dueExchangeWith State.settleArbiter) 4 s

/-- R172: an exchange taken on its own. -/
def State.exchangeTaken (s : State) : State := s.exchangeTakenWith State.run

/-- R170: a pending exchange falls due: taken at once by `take`, or marked due while CHANGING. -/
def State.exchangeFallsDueWith (take : State → State) (s : State) : State :=
  match s.bank.exchange with
  | none => s
  | some e =>
    if s.arbiter.state = .changing then s.setBank { s.bank with exchange := some { e with due := true } }
    else take s

/-- R170: a pending exchange falls due by a command of a port, before which everything due is taken (log 2). -/
def State.exchangeFallsDue (s : State) : State := s.exchangeFallsDueWith State.exchangeTaken

/-- R170: a pending exchange falls due by a beacon. What the beacon has left due of the rigs' health before, such as the end of
a restore time of 0 (R54), is taken first. -/
def State.exchangeFallsDueInside (s : State) : State := s.exchangeFallsDueWith fun s => s.settleDues.exchangeTaken

/-- R55 with the arbiter's standing tests. -/
def State.handHealth (s : State) (r : Rig) : State := s.handHealthWith State.run r

/-- R55 with the arbiter's standing tests, once the instant has carried the rig to its end. -/
def State.handSettled (s : State) (r : Rig) : State := s.handSettledWith State.run r

/-- R55: the rigs' states that stand settled and are not handed on yet are handed on, Rig A first. -/
def State.handNew (s : State) : State := (s.handSettled .a).handSettled .b

/-- Evidence with everything that follows from it. -/
def State.applyEvidence (s : State) (r : Rig) (kinds : KindSet) : State := s.applyEvidenceWith State.run r kinds

/-- R34, R134: MISSING becomes present: evidence for the rig, and for the Show Clock when the rig is on air. The Show Clock
takes it before the Health Qualifier does: DESIGN CHOICE (log 43). -/
def State.missingBegins (s : State) (r : Rig) : State :=
  let s := s.setParser r { s.parsers.get r with missing := true }
  let s := if s.arbiter.onAir = some r then s.enterFreewheel else s
  s.applyEvidence r (oneKind .missing)

end Sys2Proof.Machine
end

