-- ==== Sys2Proof/Machine/Acceptance.lean ====
section
/-! DEFINITION. What a complete beacon brings about: its judgement, the comparisons with the record it replaces, and
what each block does with the beacon accepted event (sections 2.3 to 2.6, 4.2 to 4.4, 5.3, 6.7, 8.3, 8.4, 9.6). -/

namespace Sys2Proof.Machine

open Sys2Proof

/-! ### Judgement (R25 to R27) -/

/-- Byte `i` of a beacon. -/
def beaconByte (bytes : List Byte) (i : Nat) : Byte := bytes.getD i 0

/-- The unsigned 32-bit value of four bytes, high byte first. -/
def nat32 (b3 b2 b1 b0 : Byte) : Nat := nat16 b3 b2 * 65536 + nat16 b1 b0

/-- R26 step 1: integrity. -/
def integrityOk (bytes : List Byte) : Bool :=
  beaconByte bytes 0 == 0x7E && beaconByte bytes 1 == 0x81 &&
    crc16 (bytes.take 14) == BitVec.ofNat 16 (nat16 (beaconByte bytes 14) (beaconByte bytes 15)) &&
    (transportOf (beaconByte bytes 4)).isSome

/-- R26 step 2: the identity of the beacon's own link. -/
def identityOk (r : Rig) (bytes : List Byte) : Bool := beaconByte bytes 2 == rigByte r

/-- R190: the self flags of byte 7; the other bits are ignored. -/
def selfFlagsOf (b : Byte) : SelfFlags :=
  { engineFault := b.getLsbD 0, mediaFault := b.getLsbD 1, handoverRequest := b.getLsbD 2 }

/-- R35: flags that make SELF present. -/
def SelfFlags.fault (f : SelfFlags) : Bool := f.engineFault || f.mediaFault

/-- R27, R28: the record a valid beacon makes, its anchor the stamp minus the position when PLAYING. -/
def recordOf (bytes : List Byte) (stamp : Stamp) (received : BitVec 16) : RigRecord :=
  let transport := (transportOf (beaconByte bytes 4)).getD .stopped
  let position : Stamp :=
    BitVec.ofNat 32 (nat32 (beaconByte bytes 8) (beaconByte bytes 9) (beaconByte bytes 10) (beaconByte bytes 11))
  { sequence := beaconByte bytes 3
    transport
    song := beaconByte bytes 5
    sectionByte := beaconByte bytes 6
    flags := selfFlagsOf (beaconByte bytes 7)
    position
    user := BitVec.ofNat 16 (nat16 (beaconByte bytes 12) (beaconByte bytes 13))
    stamp
    anchor := if transport = .playing then some (stamp - position) else none
    received }

/-! ### Comparisons with the previous record (R30 to R33) -/

/-- R30. -/
def sequenceEvent (old : Option RigRecord) (new : RigRecord) : Bool :=
  match old with
  | none => false
  | some o => new.sequence != o.sequence + 1

/-- R31: the deviation of a position from the expected one. -/
def deviation (old new : RigRecord) : Int := stampDiff new.position (old.position + (new.stamp - old.stamp))

/-- R31. -/
def positionEvent (tolerance : Nat) (old : Option RigRecord) (new : RigRecord) : Bool :=
  match old with
  | none => false
  | some o =>
    o.transport == .playing && new.transport == .playing && o.song == new.song &&
      decide (tolerance < (deviation o new).natAbs)

/-- R32. -/
def songBoundary (old : Option RigRecord) (new : RigRecord) : Bool :=
  match old with
  | none => false
  | some o => new.song != o.song || (o.transport == .playing && new.transport != .playing)

/-- R33. -/
def handoverRequest (old : Option RigRecord) (new : RigRecord) : Bool :=
  new.flags.handoverRequest &&
    match old with
    | none => true
    | some o => !o.flags.handoverRequest

/-- The beacon accepted event of a rig, as the reading blocks take it (R28). -/
structure Acceptance where
  rig : Rig
  bytes : List Byte
  new : RigRecord
  boundary : Bool
  handover : Bool
  /-- The evidence that appears at the acceptance. -/
  kinds : KindSet
  /-- R142: an AT_SONG exchange pends at this song boundary of the on-air rig and JUMPED does not, so that a JUMPED that pends
  when the clock takes its song change is the exchange's re-basing of the song that ends. -/
  rebases : Bool
deriving DecidableEq, Repr

/-! ### The Alignment Monitor's pairs (R64, R65, R69, R71, R73) -/

/-- R64: whether an accepted beacon forms a pair, and its measurement M = anchor_B − anchor_A (R65); both health states are
those last handed on (R55). -/
def State.pairOf (s : State) (r : Rig) (new : RigRecord) : Option Int :=
  match (s.parsers.get r.other).record with
  | none => none
  | some o =>
    match new.anchor, o.anchor with
    | some mine, some theirs =>
      let age := stampDiff new.stamp o.stamp
      if new.song = o.song ∧ 0 ≤ age ∧ age ≤ 2 * s.period ∧
          (s.handed r).down = false ∧ (s.handed r.other).down = false then
        match r with
        | .a => some (stampDiff theirs mine)
        | .b => some (stampDiff mine theirs)
      else none
    | _, _ => none

/-- R69: the candidate after an update, with the test c ≥ K. -/
def Alignment.withCandidate (x : Alignment) (confirm : Nat) (c : Candidate) : Alignment :=
  { x with state := .confirming, candidate := some c, pairless := 0, acceptDue := decide (confirm ≤ c.count) }

/-- R71, R73: a pair disagrees with D_a: a new candidate, D_a discarded, any deferred delay dropped. -/
def Alignment.disagree (x : Alignment) (confirm : Nat) (m : Int) : Alignment :=
  { x with accepted := none, deferred := none, lastRequired := none, holdAge := 0, limitDue := false }.withCandidate
    confirm { offset := m, count := 1 }

/-- The rules of the alignment state for a pair (R65, R69, R71, R73). -/
def State.takePair (s : State) (r : Rig) (m : Int) : State :=
  let p := s.bank.front.monitor
  let x := { s.alignment with
    lastMeasurement := some { offset := m, instant := s.clock.count, rig := r }, pairInTick := true }
  let s :=
    match x.state with
    | .none => s.setAlignment (x.withCandidate p.confirm { offset := m, count := 1 })
    | .confirming =>
      match x.candidate with
      | none => s.setAlignment (x.withCandidate p.confirm { offset := m, count := 1 })
      | some c =>
        if (m - c.offset).natAbs ≤ p.tolerance then
          s.setAlignment (x.withCandidate p.confirm { c with count := min 15 (c.count + 1) })
        else s.setAlignment (x.withCandidate p.confirm { offset := m, count := 1 })
    | .accepted =>
      if (m - x.accepted.getD 0).natAbs ≤ p.tolerance then s.setAlignment { x with pairless := 0 }
      else (s.setAlignment (x.disagree p.confirm m)).raiseAll .alignmentChanged
    | .outOfReach =>
      if (m - x.accepted.getD 0).natAbs ≤ p.tolerance then s.setAlignment { x with pairless := 0 }
      else (s.setAlignment (x.disagree p.confirm m)).raiseAll .alignmentChanged
    | .held =>
      if (m - x.accepted.getD 0).natAbs ≤ p.tolerance then
        s.setAlignment { x with state := .accepted, pairless := 0, holdAge := 0, limitDue := false }
      else (s.setAlignment (x.disagree p.confirm m)).raiseAll .alignmentChanged
  s.reEligible.run

/-- R70: acceptance at the instant the test c ≥ K of R69 holds; settling finds the delay in or out of reach. Once the on-air
rig is down the alignment cannot advance (R201), and a test that held before lapses. -/
def State.takeAcceptance (s : State) : State :=
  let x := s.alignment
  match x.candidate with
  | none => s
  | some c =>
    if x.state = .confirming ∧ x.acceptDue = true then
      if s.onAirDown then s.setAlignment { x with acceptDue := false }
      else
        let s := s.setAlignment { x with
          state := .accepted, accepted := some c.offset, candidate := none, pairless := 0, acceptDue := false }
        (s.raiseAll .alignmentChanged).settleDelay.reEligible.run
    else s

/-- The Alignment Monitor takes an acceptance. -/
def State.alignmentReads (s : State) (x : Acceptance) : State :=
  match s.pairOf x.rig x.new with
  | none => s
  | some m => s.takePair x.rig m

/-! ### The Event Matchers (R147 to R153) -/

/-- R147: whether a matcher of a source examines a beacon of a rig. -/
def examines (src : MatchSource) (onAir : Option Rig) (r : Rig) : Bool :=
  match src with
  | .rigA => r == .a
  | .rigB => r == .b
  | .onAir => onAir == some r

/-- R148: the masked bytes in ascending position order. -/
def maskedBytes (mask : BitVec 14) (bytes : List Byte) : List Byte :=
  ((List.range 14).filter fun i => mask.getLsbD i).map (beaconByte bytes)

/-- R148: the pattern test. -/
def patternOk (e : MatcherEntry) (bytes : List Byte) : Bool :=
  let xs := maskedBytes e.mask bytes
  e.enable && crc16 xs == e.crc && xs.getLast? == some e.lastByte

/-- R149: whether matcher k matches, reading the memories as they stood before the beacon. -/
def State.matcherMatches (s : State) (k : Fin 8) (bytes : List Byte) : Bool :=
  let t := s.bank.front.matcher
  let e := t.get k
  patternOk e bytes &&
    (!e.chain ||
      (if h : k.val = 0 then false
       else
        let j : Fin 8 := ⟨k.val - 1, by omega⟩
        (t.get j).source == e.source && (s.matchers.get j).matched))

/-- R150: whether a matcher that examines fires. -/
def State.matcherFires (s : State) (k : Fin 8) (bytes : List Byte) : Bool :=
  s.matcherMatches k bytes && !((s.bank.front.matcher.get k).edge && (s.matchers.get k).matched)

/-- R152: a matcher's request for an exchange with timing NOW. -/
def State.matcherExchange (s : State) : State × ResultCode :=
  if s.arbiter.state = .stopped then (s, .wrongState)
  else if s.bank.claim.isSome then (s, .claimed)
  else
    match s.bank.exchange with
    | some e =>
      match e.timing with
      | .now => (s, .done)
      | .atSong => ((s.setBank { s.bank with exchange := some { e with timing := .now } }).exchangeFallsDueInside, .done)
    | none =>
      if s.bank.back.valid s.bank.setup then
        ((s.setBank { s.bank with exchange := some { timing := .now, due := false } }).exchangeFallsDueInside, .done)
      else (s, .invalid)

/-- R99: the inhibit flag is left as named, and auto permission re-examined. -/
def State.setInhibit (s : State) (b : Bool) : State := (s.setArbiter { s.arbiter with inhibit := b }).run

/-- R199: a lamp's override is set. -/
def State.setOverride (s : State) (lamp : Fin 6) (o : Option (Fin 8)) : State :=
  s.setLamps { s.lamps with override := s.lamps.override.set lamp o }

/-- R151, R153: an action and its result. -/
def State.perform (s : State) (e : MatcherEntry) : State × ResultCode :=
  match e.action with
  | .notice => (s, .done)
  | .exchange => s.matcherExchange
  | .inhibitOn => (s.setInhibit true, .done)
  | .inhibitOff => (s.setInhibit false, .done)
  | .lamp => (s.setOverride e.lamp (some e.pattern), .done)

/-- R151: a firing of matcher k under its entry. -/
def State.fire (s : State) (stamp : Stamp) (k : Fin 8) (e : MatcherEntry) : State :=
  let m := s.matchers.get k
  let s := s.setMatchers (s.matchers.set k { m with fires := stop255 m.fires, lastStamp := some stamp })
  let done := (s.raiseAll .matcherFired).perform e
  let s := done.1
  s.setMatchers (s.matchers.set k { s.matchers.get k with lastResult := some done.2 })

/-- R55: what the acceptance under way has yet to bring is noted. -/
def State.setComing (s : State) (x : Coming) : State := s.setInstantHealth { s.instantHealth with coming := x }

/-- R150, R151: matchers fire in the order of the list; `later` is whether a block that takes the beacon after them may bring
an exchange. Before an EXCHANGE it is noted whether another one follows (R55). -/
def State.fireAll (stamp : Stamp) (t : Table 8 MatcherEntry) (later : Bool) : List (Fin 8) → State → State
  | [], s => s
  | k :: rest, s =>
    let asks := fun j => (t.get j).action == .exchange
    let s := if asks k then s.setComing { s.instantHealth.coming with exchange := later || rest.any asks } else s
    State.fireAll stamp t later rest (s.fire stamp k (t.get k))

/-- R147, R150: the matchers examine a beacon together: tests against the old memories, then the memories, then the
firings in ascending order. -/
def State.matchersRead (s : State) (x : Acceptance) : State :=
  let t := s.bank.front.matcher
  let firing := (List.finRange 8).filter fun k =>
    examines (t.get k).source s.arbiter.onAir x.rig && s.matcherFires k x.bytes
  let updated := s.setMatchers (s.matchers.update fun k m =>
    if examines (t.get k).source s.arbiter.onAir x.rig then { m with matched := s.matcherMatches k x.bytes } else m)
  State.fireAll x.new.stamp t s.instantHealth.coming.exchange firing updated

/-! ### The other readers -/

/-- R49, R50, R52, R54: the Health Qualifier takes an acceptance: it leaves OFFLINE, or takes the evidence. -/
def State.healthReads (s : State) (x : Acceptance) : State :=
  if (s.health.get x.rig).state = .offline then
    let now := s.conditions x.rig
    let unguarded := (now.set FaultKind.silent.idx false).set FaultKind.frozen.idx false
    let f := s.bank.front.fault
    (s.moveHealthBy x.rig (·.leaveOffline f now) (·.leaveOffline f unguarded)).handSettled x.rig
  else s.applyEvidence x.rig x.kinds

/-- R43: a replacement with a transport other than PLAYING clears the playing mark. -/
def State.guardReads (s : State) (x : Acceptance) : State :=
  if x.new.transport = .playing then s
  else s.setGuard x.rig { s.guards.get x.rig with playing := false }

/-- R142: at the song change of a boundary whose exchange was taken first, the exchange's re-basing of the song that ends is
dropped, so that the first record carries SONG_CHANGED alone. -/
def State.dropRebase (s : State) (x : Acceptance) : State :=
  let c := s.showClock
  if x.rebases ∧ c.state ≠ .idle ∧ x.new.transport = .playing ∧ x.new.song ≠ s.clockSong then
    s.setShowClock { c with jumped := false }
  else s

/-- Section 7.4: the Show Clock acts on the beacons of the on-air rig. -/
def State.clockReads (s : State) (x : Acceptance) : State :=
  if s.arbiter.onAir = some x.rig then (s.dropRebase x).clockFollow x.rig x.new else s

/-- R82 and R87: the arbiter takes the song in force and a handover request. -/
def State.arbiterReads (s : State) (x : Acceptance) : State :=
  if s.arbiter.onAir = some x.rig then
    let s := (s.setArbiter { s.arbiter with song := x.new.song }).run
    if x.handover && s.arbiter.onAir == some x.rig then
      match s.arbiter.state with
      | .stopped => s
      | .steady =>
        if s.autoPermitted && s.arbiter.eligible then (s.enterChanging .handover).run
        else s.raiseAll .handoverRefused
      | .changing => s.raiseAll .handoverRefused
      | .blind => s.raiseAll .handoverRefused
    else s
  else s

/-- R170: an AT_SONG exchange falls due at a song boundary of the on-air rig. -/
def State.bankReads (s : State) (x : Acceptance) : State :=
  if x.boundary && s.arbiter.onAir == some x.rig then
    match s.bank.exchange with
    | none => s
    | some e =>
      match e.timing with
      | .now => s
      | .atSong => s.exchangeFallsDueInside
  else s

/-- R121: a one-song override of a group reverts to its base mode. -/
def State.revertGroup (s : State) (i : Fin 8) : State :=
  let g := s.mixer.groups.get i
  if g.oneSong then
    let t := s.setMixer { s.mixer with groups := s.mixer.groups.set i { g with mode := g.base, oneSong := false } }
    if g.mode = g.base then t else t.retargetGroup i
  else s

/-- R121: at a song boundary of the on-air rig every one-song override reverts. All eight groups revert before the arbiter
makes the completion test that their reports call for (R110): DESIGN CHOICE (log 52). -/
def State.groupsRead (s : State) (x : Acceptance) : State :=
  if x.boundary && s.arbiter.onAir == some x.rig then ((List.finRange 8).foldl State.revertGroup s).run else s

/-- R36: the other rig's parser re-examines DIVERGED. -/
def State.otherReads (s : State) (x : Acceptance) : State := (s.reDiverged x.rig.other).handSettled x.rig.other

/-- One block takes an acceptance. An offset the Alignment Monitor has found confirmed is accepted before the next block
does, as part of the monitor's own reaction (R69, log 12). -/
def State.readerTakes (x : Acceptance) (s : State) : BeaconReader → State
  | .health => s.takeAcceptance.healthReads x
  | .guardMonitor => s.takeAcceptance.guardReads x
  | .alignment => s.alignmentReads x
  | .showClock => s.takeAcceptance.clockReads x
  | .matchers => s.takeAcceptance.matchersRead x
  | .arbiter => s.takeAcceptance.arbiterReads x
  | .bankStore => s.takeAcceptance.bankReads x
  | .groupMixer => s.takeAcceptance.groupsRead x
  | .otherParser => s.takeAcceptance.otherReads x

/-- R55: what the blocks `rest`, which have yet to take an acceptance, may bring about: evidence of the rig, DIVERGED of the
other rig, and an exchange at a song boundary or by a matcher. -/
def State.comingOf (s : State) (x : Acceptance) (rest : List BeaconReader) : Coming :=
  let r := x.rig
  let own := rest.contains .health && (x.kinds.nonempty || (s.health.get r).state == .offline)
  let others := (rest.contains .otherParser || rest.contains .health) &&
    s.divergedBy r.other .recovering && !(s.parsers.get r.other).diverged
  { evidence := match r with | .a => ⟨own, others⟩ | .b => ⟨others, own⟩
    exchange :=
      ((rest.contains .bankStore || rest.contains .groupMixer) && x.boundary && s.bank.exchange.isSome) ||
      (rest.contains .matchers && s.asksExchange) }

/-- R28: the blocks of the list take an acceptance one after another, each told what the others may still bring (R55). -/
def State.readersTake (x : Acceptance) : List BeaconReader → State → State
  | [], s => s
  | y :: rest, s => State.readersTake x rest (State.readerTakes x (s.setComing (s.comingOf x rest)) y)

/-- The order in which the blocks take an acceptance that names none (log 12). -/
def defaultOrder : List BeaconReader :=
  [.health, .guardMonitor, .otherParser, .alignment, .arbiter, .bankStore, .groupMixer, .showClock, .matchers]

/-- Every block once: those a list names, each at its first place, then the others (log 12). -/
def readerOrder (order : List BeaconReader) : List BeaconReader :=
  let first := order.foldl (fun l x => if l.contains x then l else l ++ [x]) []
  first ++ defaultOrder.filter fun x => !first.contains x

/-! ### The judgement's outcome (R26, R28, R34, R35, R37) -/

/-- R26, R37: a beacon discarded with one event of a kind. -/
def State.rejectBeacon (s : State) (r : Rig) (k : FaultKind) : State :=
  let p := s.parsers.get r
  (s.setParser r { p with rejected := p.rejected + 1 }).applyEvidence r (oneKind k)

/-- R28: a valid beacon replaces the rig's record, as its own parser takes it (R34 to R36). -/
def State.replaceRecord (s : State) (r : Rig) (j : Judging) : State :=
  let p := s.parsers.get r
  let new := recordOf j.bytes j.stamp (p.valid + 1)
  let s := s.setParser r { p with
    record := some new, valid := p.valid + 1, missing := false, selfFault := new.flags.fault
    age := some (min 65535 (s.clock.count - j.stamp).toNat) }
  s.setParser r { s.parsers.get r with diverged := s.divergedNow r }

/-- R30, R31, R35, R36: the evidence that appears when a rig's record `new` takes the place of the one of parser `old`. -/
def State.acceptedKinds (s : State) (r : Rig) (old : Parser) (new : RigRecord) : KindSet :=
  let p := s.parsers.get r
  KindSet.union
    (KindSet.union (kindIf (sequenceEvent old.record new) .sequence)
      (kindIf (positionEvent s.bank.front.monitor.positionTolerance old.record new) .position))
    (KindSet.union (kindIf (p.selfFault && !old.selfFault) .self) (kindIf (p.diverged && !old.diverged) .diverged))

/-- R28, R30 to R33: the beacon accepted event of a beacon of a rig, `s` being the part as the beacon finds it. -/
def State.acceptance (s : State) (r : Rig) (j : Judging) : Acceptance :=
  let old := s.parsers.get r
  let new := recordOf j.bytes j.stamp (old.valid + 1)
  let boundary := songBoundary old.record new
  let pends := match s.bank.exchange with
    | none => false
    | some e => e.timing == .atSong
  { rig := r, bytes := j.bytes, new, boundary, handover := handoverRequest old.record new
    kinds := (s.replaceRecord r j).acceptedKinds r old new
    rebases := boundary && s.arbiter.onAir == some r && pends && !s.showClock.jumped }

/-- R28: a valid beacon replaces the record; the blocks take the event in the given order, and the health states that this
leaves settled are handed on (R55). -/
def State.acceptBeacon (s : State) (r : Rig) (j : Judging) (order : List BeaconReader) : State :=
  ((State.readersTake (s.acceptance r j) (readerOrder order) (s.replaceRecord r j)).setComing Coming.none).handNew

/-- R26: the judgement of a complete beacon that waits for it. -/
def State.judgeBeacon (s : State) (r : Rig) (order : List BeaconReader) : State :=
  match (s.parsers.get r).judging with
  | none => s
  | some j =>
    let s := s.setParser r { s.parsers.get r with judging := none }
    if !integrityOk j.bytes then s.rejectBeacon r .corrupt
    else if !identityOk r j.bytes then s.rejectBeacon r .identity
    else s.acceptBeacon r j order

end Sys2Proof.Machine
end

