-- ==== Sys2Proof/Machine/Windows.lean ====
section
/-! DEFINITION. The frame arrivals of the Link Receivers: a good or bad frame taken by link state (R11, R12, R15), and the
frame windows (R9), what the lanes have delivered to an open window and its judgement. -/

namespace Sys2Proof.Machine

open Sys2Proof

/-! ### Frame arrivals (R11, R12, R15) -/

/-- R15: a frame written into the elastic store, and whether that was an overrun slip. -/
def LinkRx.write (l : LinkRx) (f : Frame) : LinkRx × Bool :=
  if l.store.length < Config.storeCapacity then
    ({ l with store := l.store ++ [f], lastWritten := some f }, false)
  else
    ({ l with store := l.store.drop 1 ++ [f], lastWritten := some f, slips := l.slips + 1 }, true)

/-- R12: the concealment copy, its pilot slot word replaced by 0. -/
def LinkRx.concealment (l : LinkRx) (pilot : Fin 64) : Frame := (l.lastWritten.getD zeroFrame).set pilot 0

/-- R11, R12: a frame arrival, good with its frame or bad, taken by link state; and whether it made a slip. A count
that reaches 64 or 2 leaves LOCK_GAINED or LOCK_LOST due. -/
def LinkRx.arrival (l : LinkRx) (pilot : Fin 64) : Option Frame → LinkRx × Bool
  | some f =>
    match l.state with
    | .absent => (l, false)
    | .acquiring =>
      let kept := l.kept ++ [f]
      ({ l with acquisition := min Config.lockFrames (l.acquisition + 1)
                kept := kept.drop (kept.length - Config.keptFrames) }, false)
    | .locked => { l with badFrames := 0 }.write f
  | none =>
    match l.state with
    | .absent => (l, false)
    | .acquiring => ({ l with acquisition := 0, kept := [] }, false)
    | .locked =>
      if l.badFrames = 0 then { l with badFrames := 1 }.write (l.concealment pilot)
      else ({ l with badFrames := 2 }, false)

/-- R9: the lane error counts after a window that closed bad because of the given lanes, while ACQUIRING or LOCKED. -/
def LinkRx.countErrors (l : LinkRx) (lanes : Table 4 Bool) : LinkRx :=
  if l.state = .absent then l
  else { l with laneErrors := l.laneErrors.update fun i n => if lanes.get i then n + 1 else n }

/-- A frame arrival with the SLIP evidence of an overrun (R15, R17). -/
def State.frameArrives (s : State) (r : Rig) (f : Option Frame) : State :=
  let done := (s.links.get r).arrival (s.bank.setup.pilot.get r) f
  let s := s.setLink r done.1
  if done.2 then s.applyEvidence r (oneKind .slip) else s

/-! ### Frame windows (R9) -/

/-- The lanes that are not in a set. -/
def lanesNot (t : Table 4 Bool) : Table 4 Bool := t.map (!·)

/-- Whether every lane is in a set. -/
def allLanes (t : Table 4 Bool) : Bool := (List.finRange 4).all fun i => t.get i

/-- R9: slot `i` of the link frame: lane i / 16, word i mod 16, its low 24 bits. -/
def slotOf (lanes : LaneFrames) (i : Fin 64) : Sample :=
  match lanes.get ⟨i.val / 16, by omega⟩ with
  | none => 0
  | some words => (words.get ⟨i.val % 16, by omega⟩).setWidth 24

/-- R9: the link frame the four lanes make. -/
def gather (lanes : LaneFrames) : Frame := Table.tab (slotOf lanes)

/-- R9: lanes deliver complete lane frames; one counts whose marker arrived inside the window. -/
def Window.deliver (w : Window) (lanes : LaneFrames) : Window :=
  { w with frames := w.frames.update fun i old => if w.marked.get i then (lanes.get i).or old else old }

/-- R9: the lanes that have delivered a frame whose marker arrived inside the window. -/
def Window.delivered (w : Window) : Table 4 Bool :=
  Table.tab fun i => w.marked.get i && (w.frames.get i).isSome

/-- R9: an open window closes bad, the given lanes being the cause of it. -/
def State.closeBad (s : State) (r : Rig) (lanes : Table 4 Bool) : State :=
  let l := s.links.get r
  (s.setLink r ({ l with window := none }.countErrors lanes)).frameArrives r none

/-- R9: the open window closes and is judged: good when each of the four lanes has delivered its frame. -/
def State.closeWindow (s : State) (r : Rig) : State :=
  let l := s.links.get r
  match l.window with
  | none => s
  | some w =>
    if allLanes w.delivered then (s.setLink r { l with window := none }).frameArrives r (some (gather w.frames))
    else s.closeBad r (lanesNot w.delivered)

/-- R9: whether a window stands past its limit of one and a half nominal periods. -/
def Window.expired (w : Window) (nominal : Nat) : Bool := decide (nominal * 3 < w.age * 2)

/-- R9: the lanes deliver frames at the present moment; the window closes if it is old enough. A window past its limit, which
only a change of the sample rate leaves (log 51), takes no frame any more. -/
def State.frameArrival (s : State) (r : Rig) (lanes : LaneFrames) : State :=
  let l := s.links.get r
  match l.window with
  | none => s
  | some w =>
    let w := if w.expired s.nominal then w else w.deliver lanes
    let s := s.setLink r { l with window := some w }
    if w.closesAt s.nominal ≤ w.age then s.closeWindow r else s

end Sys2Proof.Machine
end

