-- ==== Sys2Proof/Machine/Due.lean ====
section
/-! DEFINITION. The part's own events, each taken when it is due and changing nothing when it is not (log 1), the taking
of what is due before the next command (`resolve`) and before the next sample instant (`closeInstant`, log 2), and
the sample instant itself (R4). -/

namespace Sys2Proof.Machine

open Sys2Proof

/-! ### Link Receiver (R9 to R13) -/

/-- R10: the arrival of a missing frame. -/
def State.takeMissingFrame (s : State) (r : Rig) : State :=
  let l := s.links.get r
  if l.state ≠ .absent ∧ 2 ≤ l.sinceWindow then
    let l := { l with sinceWindow := 0 }.countErrors (Table.fill 4 true)
    (s.setLink r l).frameArrives r none
  else s

/-- R11: the 64th consecutive good frame; lock gained also ends MISSING (R34) and LINK (R17). The acquisition count is set to 0
and the kept frames are emptied here, where the manual says nothing of either while LOCKED: DESIGN CHOICE (log 63). -/
def State.takeLockGained (s : State) (r : Rig) : State :=
  let l := s.links.get r
  if l.state = .acquiring ∧ Config.lockFrames ≤ l.acquisition then
    let s := s.setLink r { l with
      state := .locked, store := l.kept, lastWritten := l.kept.getLast?, badFrames := 0, acquisition := 0, kept := [] }
    let s := s.setParser r { (s.parsers.get r).setAge (some 0) with missing := false }
    s.reEligible.run
  else s

/-- R12: the second consecutive bad frame; LINK becomes present (R17), the beacon in hand is abandoned silently (R24)
and the record becomes absent (R29). A beacon that was complete before is judged first (log 2). The bad-frame count, which R12
raises to 2, is set to 0 here, where only R11 and R13 name a clearing: DESIGN CHOICE (log 62). -/
def State.takeLockLost (s : State) (r : Rig) : State :=
  let l := s.links.get r
  if l.state = .locked ∧ 2 ≤ l.badFrames then
    let s := s.judgeBeacon r []
    let s := s.setLink r { l with state := .acquiring, store := [], acquisition := 0, kept := [], badFrames := 0 }
    let s := ((s.silentAbandon r).recordAbsent r).reEligible.run
    s.applyEvidence r (oneKind .link)
  else s

/-- R9: an open window that closes by itself at the present moment closes, and a lock lost or gained by it is taken. -/
def State.closeDueWindow (s : State) (r : Rig) : State :=
  if s.windowDue r then ((s.closeWindow r).takeLockLost r).takeLockGained r else s

/-- R13: 4096 sample instants without a marker; the rig goes OFFLINE (R49), its beacon age becomes none (R34). A beacon
that was complete before is judged first (log 2). -/
def State.takeLinkAbsent (s : State) (r : Rig) : State :=
  let l := s.links.get r
  if l.state ≠ .absent ∧ Config.absenceLimit ≤ l.sinceMarker then
    let s := s.judgeBeacon r []
    let s := s.setLink r { l with
      state := .absent, store := [], acquisition := 0, kept := [], badFrames := 0, sinceWindow := 0, sinceMarker := 0 }
    let s := s.moveHealth r Health.goOffline
    let s := (s.silentAbandon r).recordAbsent r
    let s := s.setParser r ((s.parsers.get r).setAge none)
    let s := if (s.parsers.get r).missing then s else s.missingBegins r
    (s.handHealth r).reEligible.run
  else s

/-! ### Beacon Parser (R20 to R23, R34) -/

/-- R34: MISSING becomes present. A window that closes by itself at this moment closes first and a beacon that completed at
it is judged first, since MISSING is judged on the age that a lock gained or the beacon sets. -/
def State.takeMissingPresent (s : State) (r : Rig) : State :=
  let s := (if s.missingDue r then s.closeDueWindow r else s).judgeBeacon r []
  if s.missingDue r then s.missingBegins r else s

/-- Classes of pilot word (R20). -/
inductive PilotClass where
  | start | continuing | idle
deriving DecidableEq, Repr

/-- R20, R190: the class of a pilot word by its marker. -/
def pilotClass (w : Sample) : PilotClass :=
  if w.extractLsb' 16 8 = 0xA5 then .start
  else if w.extractLsb' 16 8 = 0x5A then .continuing
  else .idle

/-- R190: the beacon byte of a pilot word. -/
def pilotByte (w : Sample) : Byte := w.extractLsb' 8 8

/-- R21 to R23: a pilot word taken by the assembly at the instant `now`, and whether a beacon is abandoned (CORRUPT). -/
def Parser.word (p : Parser) (now : Stamp) (w : Sample) : Parser × Bool :=
  match pilotClass w, p.assembly with
  | .start, .waiting => ({ p with assembly := .assembling [pilotByte w] now }, false)
  | .start, .assembling _ _ =>
    ({ p with assembly := .assembling [pilotByte w] now, rejected := p.rejected + 1 }, true)
  | .continuing, .waiting => (p, false)
  | .continuing, .assembling buffer stamp =>
    let bytes := buffer ++ [pilotByte w]
    if bytes.length = 16 then ({ p with assembly := .waiting, judging := some { bytes, stamp } }, false)
    else ({ p with assembly := .assembling bytes stamp }, false)
  | .idle, .waiting => (p, false)
  | .idle, .assembling _ _ => ({ p with assembly := .waiting, rejected := p.rejected + 1 }, true)

/-- R34: a beacon age that is a number increases by one at a sample instant, stopping at 65,535; not at the sample instant at
which lock gained or a restart has set it. -/
def Parser.older (p : Parser) : Parser :=
  if p.ageSet then { p with ageSet := false } else { p with age := p.age.map fun n => min 65535 (n + 1) }

/-! ### Health (R39, R40, R44, R46, R51 to R54) -/

/-- R46: the counters and the qualifying kinds after a tick whose flags were `ended`. -/
def Health.count (h : Health) (f : Table 11 FaultEntry) (ended : KindSet) : Health :=
  { h with
    counters := h.counters.update fun i c => if ended.get i then min (f.get i).delay (c + 1) else 0
    qualifying := Table.tab fun i =>
      (f.get i).enabled && ended.get i && decide (h.counters.get i < (f.get i).delay) &&
        decide ((f.get i).delay ≤ h.counters.get i + 1) }

/-- R54: a RECOVERING rig counts a tick end, never past the restore time. -/
def Health.countRestore (h : Health) (restoreTime : Nat) : Health :=
  if h.state = .recovering then { h with restore := min restoreTime (h.restore + 1) } else h

/-- R40, R44, R46, R54: one rig at a tick end, before the states are judged: the guard decisions, the counters, the flags
of the new tick, and the evidence of a guard condition that becomes present. -/
def State.tickRig (s : State) (r : Rig) : State :=
  let g := s.guards.get r
  let s := s.guardTick r
  let now := s.guards.get r
  let h : Health := { s.health.get r with events := noKinds }
  if h.state = .offline then s.setRigHealth r h
  else
    let h := (h.count s.bank.front.fault h.flags).countRestore s.restoreTime
    let s := s.setRigHealth r { h with flags := s.conditions r }
    s.noteEvidence r (KindSet.union (kindIf (now.silent && !g.silent) .silent)
      (kindIf (now.frozen && !g.frozen) .frozen))

/-- R51, R53: a SUSPECT or FAILED rig at a tick end whose ending flags were `ended`. -/
def State.tickJudge (s : State) (r : Rig) (ended : KindSet) : State :=
  let h := s.health.get r
  let on := enabledIn s.bank.front.fault
  if (ended.filter on).nonempty || (h.flags.filter on).nonempty then s
  else
    match h.state with
    | .suspect => s.setRigHealth r { h with state := .healthy }
    | .failed => s.setRigHealth r { h with state := .recovering, restore := 0 }
    | .offline => s
    | .recovering => s
    | .healthy => s

/-- R72, R73: the Alignment Monitor at a tick end; two pairless ticks leave ALIGNMENT_HELD due, an age of H leaves
HOLD_LIMIT due. -/
def Alignment.tick (x : Alignment) (limit : Nat) : Alignment :=
  let counted := if x.pairInTick then 0 else x.pairless + 1
  match x.state with
  | .none => { x with pairInTick := false }
  | .confirming => { x with pairless := counted, pairInTick := false }
  | .accepted => { x with pairless := counted, pairInTick := false }
  | .outOfReach => { x with pairless := counted, pairInTick := false }
  | .held =>
    { x with holdAge := min 255 (x.holdAge + 1), limitDue := decide (limit ≤ min 255 (x.holdAge + 1))
             pairInTick := false }

/-- R46, R52, R53: the kinds that stepped up to their delay qualify. -/
def State.takeQualification (s : State) (r : Rig) : State :=
  let h := s.health.get r
  if h.qualifying.nonempty then
    (s.moveHealth r fun h => h.settleQualifying s.bank.front.fault).handSettled r
  else s

/-- R54: the restore counter stands at the restore time. -/
def State.takeRestoreComplete (s : State) (r : Rig) : State :=
  if (s.health.get r).restoreDue s.restoreTime then
    (s.moveHealth r fun h => h.restored s.restoreTime).handSettled r
  else s

/-! ### Alignment (R72, R73) -/

/-- R72: two consecutive pairless ticks; entry to HELD makes the test of R73 at once. -/
def State.takeAlignmentHeld (s : State) : State :=
  let x := s.alignment
  if 2 ≤ x.pairless then
    match x.state with
    | .none => s
    | .held => s
    | .accepted =>
      s.setAlignment { x with
        state := .held, holdAge := 0, pairless := 0, limitDue := decide (s.bank.front.monitor.holdLimit = 0) }
    | .confirming => s.setAlignment { x with state := .none, candidate := none, pairless := 0, acceptDue := false }
    | .outOfReach =>
      (s.setAlignment { x with
        state := .none, accepted := none, lastRequired := none, pairless := 0 }).raiseAll .alignmentChanged
  else s

/-- R73: the hold limit. -/
def State.takeHoldLimit (s : State) : State :=
  let x := s.alignment
  if x.state = .held ∧ x.limitDue = true then
    let s := s.setAlignment { x with
      state := .none, accepted := none, deferred := none, lastRequired := none, holdAge := 0, limitDue := false }
    (s.raiseAll .alignmentChanged).reEligible.run
  else s

/-! ### Groups (R111) -/

/-- R111: a transition whose production has reached N completes, and the target is evaluated afresh. -/
def State.takeTransitionComplete (s : State) (i : Fin 8) : State :=
  match (s.mixer.groups.get i).transition with
  | none => s
  | some t => if t.k = t.n then (s.retargetGroup i).run else s

/-! ### Show Clock and Timecode Output (R133, R135 to R137) -/

/-- R133: a slew step. -/
def State.takeSlewStep (s : State) : State :=
  let c := s.showClock
  match c.state, c.slewCounter, c.anchor, c.target with
  | .slewing, some n, some anchor, some target =>
    if c.control.slewRate ≤ n then
      let moved := if 0 < stampDiff target anchor then anchor + 1 else anchor - 1
      if moved = target then s.setShowClock { c with anchor := some moved, state := .running, slewCounter := none }
      else s.setShowClock { c with anchor := some moved, slewCounter := some 0 }
    else s
  | _, _, _, _ => s

/-- R136: a record of the running clock carries the pending flags, which then become empty. -/
def State.emitRunning (s : State) (tc : Timecode) (preroll : Bool) (last : LastFrame) : State :=
  let c := s.showClock
  let flags : TcFlags :=
    { preroll, jumped := c.jumped, songChanged := c.songChanged, freewheel := c.state == .freewheel, held := false }
  let counter := if preroll then c.freewheelCounter else c.freewheelCounter.map (· + 1)
  (s.setShowClock { c with
    jumped := false, songChanged := false, lastFrame := last, freewheelCounter := counter }).handRecord tc flags

/-- R136: the clock's examination in RUNNING, SLEWING and FREEWHEEL. -/
def State.examineRunning (s : State) : State :=
  if s.elapsed < 0 then
    match s.showClock.lastFrame with
    | .absent => s.emitRunning s.derived.1 true .preroll
    | .preroll => s
    | .count _ => s
  else
    match s.showClock.lastFrame with
    | .absent => s.emitRunning s.derived.1 false (.count s.frameCount)
    | .preroll => s.emitRunning s.derived.1 false (.count s.frameCount)
    | .count n => if n = s.frameCount then s else s.emitRunning s.derived.1 false (.count s.frameCount)

/-- R136: the examination of this sample instant, made once. -/
def State.takeFrameBoundary (s : State) : State :=
  if s.showClock.examine then
    let s := s.setShowClock { s.showClock with examine := false }
    match s.showClock.state with
    | .idle => s
    | .held => s
    | .running => s.examineRunning
    | .slewing => s.examineRunning
    | .freewheel => s.examineRunning
  else s

/-- R136: a HELD record at the hold cadence. -/
def State.takeHeldRecord (s : State) : State :=
  match s.showClock.state, s.showClock.heldValue with
  | .held, some t =>
    if s.showClock.cadenceDue then
      (s.setShowClock { s.showClock with cadenceDue := false }).handRecord t { noTcFlags with held := true }
    else s
  | _, _ => s

/-- R137: a sending ends and the waiting record, if any, is sent. -/
def State.takeRecordSendEnd (s : State) : State :=
  match s.tcOutput.sending with
  | none => s
  | some x =>
    if x.left = 0 then
      s.setTcOutput
        { s.tcOutput with sending := s.tcOutput.waiting.map s.bank.setup.send, waiting := none }.drive
    else s

/-! ### Lamps (R197, R198) -/

/-- R198: the pattern a rig's health selects. -/
def healthPattern : HealthState → Fin 8
  | .healthy => 1
  | .suspect => 2
  | .failed => 3
  | .recovering => 4
  | .offline => 0

/-- R198: the pattern of a rig's AIR lamp. -/
def airPattern (x : Arbiter) (r : Rig) : Fin 8 :=
  if x.onAir = some r then
    match x.state with
    | .stopped => 0
    | .steady => 1
    | .changing => 3
    | .blind => 5
  else 0

/-- R198: the pattern the alignment state selects. -/
def syncPattern : AlignState → Fin 8
  | .accepted => 1
  | .confirming => 3
  | .held => 2
  | .none => 0
  | .outOfReach => 0

/-- R198: the pattern the Show Clock state selects. -/
def clockPattern : ShowState → Fin 8
  | .running => 1
  | .slewing => 3
  | .freewheel => 2
  | .held => 5
  | .idle => 0

/-- R198: the automatic choice of each lamp, in lamp order, from the inputs as last handed on. -/
def State.automatic (s : State) : Table 6 (Fin 8) :=
  ⟨[healthPattern (s.handed .a), healthPattern (s.handed .b), airPattern s.arbiter .a, airPattern s.arbiter .b,
    syncPattern s.alignment.state, clockPattern s.showClock.state], rfl⟩

/-- R197: the pattern in force of a lamp. -/
def State.inForce (s : State) (i : Fin 6) : Fin 8 := (s.lamps.override.get i).getD (s.automatic.get i)

/-- R197: a step boundary; step 0 stands in bit 15 of a pattern. -/
def State.takeLampStep (s : State) : State :=
  if s.lamps.due then
    let step := (s.lamps.step + 1) % 16
    s.setLamps { s.lamps with
      due := false, timer := 0, step
      lit := Table.tab fun i => (s.lamps.patterns.get (s.inForce i)).getLsbD (15 - step) }
  else s

/-! ### What is due is taken (log 2) -/

/-- R45: what stands due of what a restart would leave of a rig's health is taken, so that what follows at this instant finds
it taken. -/
def State.settleUnguarded (s : State) (r : Rig) : State :=
  if (s.unguardedHealth r).dueUnder s.restoreTime then
    s.moveHealthBy r (fun h => h) fun h => h.settleDue s.bank.front.fault s.restoreTime
  else s

/-- What stands due for a rig's health is taken, of what a restart at this instant would leave of it first; where its state rests
on a guard condition that such a restart may still undo, of that alone (R45, log 40). -/
def State.settleRig (s : State) (r : Rig) : State :=
  let s := s.settleUnguarded r
  if s.guardHeld r then s else (s.takeQualification r).takeRestoreComplete r

/-- Log 59: what a rig's tick end has left of it stands: a restart at this instant leaves the rig as it is. -/
def State.standGuards (s : State) (r : Rig) : State :=
  match s.instantHealth.unguarded with
  | none => s
  | some u =>
    s.setUnguarded (some (u.set r { health := s.health.get r, diverged := (s.parsers.get r).diverged }))

/-- The consequences that stand due are taken, before any other command is. -/
def State.resolve (s : State) : State :=
  let s := (s.takeAcceptance.takeLockLost .a).takeLockLost .b
  let s := (s.takeLockGained .a).takeLockGained .b
  let s := ((s.settleRig .a).settleRig .b).handNew
  s.takeAlignmentHeld.takeHoldLimit.takeFreewheelLimit

/-- R9: the windows that close by themselves at the present moment close, Link A before Link B (log 48). -/
def State.closeDueWindows (s : State) : State := (s.closeDueWindow .a).closeDueWindow .b

/-- R39: the evidence of the sample instant at which a tick ends belongs to the ending tick, so it is taken first. -/
def State.takeInstantEvidence (s : State) : State :=
  let s := ((s.takeMissingFrame .a).takeMissingFrame .b).resolve
  let s := (s.takeLinkAbsent .a).takeLinkAbsent .b
  let s := (s.judgeBeacon .a []).judgeBeacon .b []
  ((s.takeMissingPresent .a).takeMissingPresent .b).resolve

/-- The rig judged first at a tick end: the one whose record is PLAYING, so that the DIVERGED it causes for the other is
seen by the other's judgement (R40, log 13). -/
def State.judgedFirst (s : State) : Rig := if s.parsers.a.playing then .a else .b

/-- R39, R40, R44, R46, R51 to R54: what a tick end does to both rigs' health. -/
def State.judgeTick (s : State) : State :=
  let ended := fun r => (s.health.get r).flags
  let j := s.judgedFirst
  let s := (s.tickRig .a).tickRig .b
  let s := (s.tickJudge j (ended j)).reDivergedJudged j.other
  (s.tickJudge j.other (ended j.other)).reDivergedJudged j

/-- R45: what a tick end leaves of both rigs when neither monitor decides a guard condition at it. -/
def State.tickUnguarded (s : State) : PerRig Unguarded :=
  let s := (s.setGuards (s.guards.map fun g => { g with void := true })).judgeTick
  ⟨{ health := s.health.a, diverged := s.parsers.a.diverged }, { health := s.health.b, diverged := s.parsers.b.diverged }⟩

/-- R39, R40: the end of a health tick; `first` is the rig whose new state is handed on first. Both states are handed on
before a HOLD_LIMIT that falls due at the same tick end is taken: DESIGN CHOICE (log 55). The pairless tick count is stepped
before they are handed on, and the entry to HELD or NONE at a count of 2 is taken after: DESIGN CHOICE (log 57). -/
def State.takeTickEnd (s : State) (first : Rig) : State :=
  if s.tickDue then
    let s := s.closeDueWindows.takeInstantEvidence
    let s := (s.setTickDue false).setUnguarded none
    let s := s.judgeTick.setUnguarded (some s.tickUnguarded)
    let s := s.setAlignment (s.alignment.tick s.bank.front.monitor.holdLimit)
    (s.handSettled first).handSettled first.other
  else s

/-- The rig whose state is handed on first at the end of an instant: one that may make DIVERGED of the other present, so that
the other's state after the instant is handed on (R36, R55); else the incoming rig of a changeover with an exchange due, since
the reversal that it may make can bring the exchange (R90, R170); else Rig A (log 44). -/
def State.handedFirst (s : State) : Rig :=
  if s.divergenceDue .a then .b
  else if s.divergenceDue .b then .a
  else if s.exchangeDue then s.arbiter.onAir.getD .a
  else .a

/-- R55: the last of the instant for one rig. What of it rests on a guard condition stands and is taken (log 59), and its state is
handed on where it differs from the one last handed on. -/
def State.handLast (s : State) (r : Rig) : State := (s.standGuards r).resolve.handHealth r

/-- R55: both rigs' states are handed on where they differ from those last handed on. -/
def State.handBoth (s : State) : State :=
  let first := s.handedFirst
  (s.handLast first).handLast first.other

/-- The present instant is over: each rig's state is the one before the next instant (R55), and no restart can undo its
guard decisions any more (R45). -/
def State.endInstant (s : State) : State :=
  (s.setHealth (s.health.map fun h => { h with relapsed := false })).setInstantHealth
    { handing := s.health.map fun h => { before := h.state, handed := h.state }, coming := Coming.none, unguarded := none }

/-- Everything due at an instant is taken, before the next instant comes. What rests on a guard condition decided at the instant
is taken and handed on last, one rig after the other, when all that may bring a restart of the monitors has been taken (R45); a
restart that only such a handing on brings leaves that rig's state as it was handed on: DESIGN CHOICE (log 59). -/
def State.closeInstant (s : State) : State :=
  let s := s.resolve.takeInstantEvidence
  let s := (List.finRange 8).foldl State.takeTransitionComplete s
  let s := (s.takeSlewStep.takeTickEnd .a).resolve.handBoth
  let s := s.takeRecordSendEnd.takeFrameBoundary.resolve
  s.takeHeldRecord.takeLampStep.endInstant

/-- The present moment is over: the windows that close by themselves at it close too, before what they bear on is judged
(R34, R55). -/
def State.closeMoment (s : State) : State := s.closeDueWindows.closeInstant

/-! ### The sample instant (R4) -/

/-- R14, R16: the frame a link hands on, the receiver after the read, and whether it was an underrun slip. -/
def LinkRx.read (l : LinkRx) : Frame × LinkRx × Bool :=
  match l.state with
  | .locked =>
    match l.store with
    | f :: rest => (f, { l with store := rest, lastRead := some f }, false)
    | [] => (l.lastRead.getD zeroFrame, { l with slips := l.slips + 1 }, true)
  | .acquiring => (zeroFrame, l, false)
  | .absent => (zeroFrame, l, false)

/-- R10, R13: the watches of a link that is not ABSENT count a sample instant. -/
def LinkRx.watch (l : LinkRx) : LinkRx :=
  if l.state = .absent then l
  else { l with sinceWindow := min 2 (l.sinceWindow + 1), sinceMarker := min Config.absenceLimit (l.sinceMarker + 1) }

/-- R14, R16, R20, R34, R43, R61: one link at a sample instant, with the event evidence it raises. -/
def State.sampleLink (s : State) (r : Rig) : State × KindSet :=
  let read := (s.links.get r).read
  let frame := read.1
  let s := s.setLink r read.2.1.watch
  let line := s.lines.get r
  let s := s.setLines (s.lines.set r { line with rings := ringWrite line.rings (ringPos s.clock.count) frame })
  let s := s.guardSample r frame
  let word := (s.parsers.get r).older.word s.clock.count (frame.get (s.bank.setup.pilot.get r))
  (s.setParser r word.1, (kindIf read.2.2 .slip).union (kindIf word.2 .corrupt))

/-- R133, R136: the Show Clock's counters at a sample instant. -/
def ShowClock.tick (c : ShowClock) (spf : Nat) : ShowClock :=
  match c.state with
  | .slewing => { c with slewCounter := c.slewCounter.map (· + 1), examine := true }
  | .held =>
    let n := c.cadence.getD 0 + 1
    if n < spf then { c with cadence := some n, examine := true }
    else { c with cadence := some 0, cadenceDue := true, examine := true }
  | .idle => { c with examine := true }
  | .running => { c with examine := true }
  | .freewheel => { c with examine := true }

/-- R137, R196: a record on the line at a sample instant, and the level of the line. -/
def TcOutput.tick (x : TcOutput) : TcOutput :=
  ({ x with sending := x.sending.map fun y => { y with left := y.left - 1 } } : TcOutput).drive

/-- R197: the step timer at a sample instant. -/
def Lamps.tick (x : Lamps) (length : Nat) : Lamps :=
  { x with timer := x.timer + 1, due := decide (length ≤ x.timer + 1) }

/-- R4, R39: the clock at a sample instant: S moves on by one, and the tick end is due where it ends a tick. -/
def State.countInstant (s : State) : State :=
  let c := s.clock
  let s := s.setClock { c with count := c.count + 1, sinceInstant := 0, absorbing := false, joining := false }
  s.setTickDue (s.clock.count.toNat % s.period == 0)

/-- R4: S moves on by one and every block takes the new instant, up to the evidence that each link raises at it. -/
def State.instantBlocks (s : State) : State × PerRig KindSet :=
  let a := s.countInstant.sampleLink .a
  let b := a.1.sampleLink .b
  let s := b.1.produce
  let s := s.setShowClock (s.showClock.tick s.bank.setup.spf)
  let s := s.setTcOutput s.tcOutput.tick
  (s.setLamps (s.lamps.tick s.bank.setup.lampStep), ⟨a.2, b.2⟩)

/-- A sample instant with the evidence that it raises, that of Rig A first (log 15). The evidence is judged and its health states
are handed on inside the instant, so a SLIP or an abandoned beacon's CORRUPT of delay 0 that takes the incoming rig down comes
before a TRANSITION_COMPLETE of the instant, where R90 lets either be first: DESIGN CHOICE (log 60). -/
def State.instant (s : State) : State :=
  let u := s.instantBlocks
  ((u.1.takeEvidence .a u.2.a).takeEvidence .b u.2.b).handNew

/-- A sample instant, after everything due at the one before it has been taken. -/
def State.sampleInstant (s : State) : State := s.closeInstant.instant

end Sys2Proof.Machine
end

