-- ==== Sys2Proof/Machine/ClockInput.lean ====
section
/-! DEFINITION. The Clock Input (section 1.1): time passing in units of the internal reference, the clock's own events,
what every command does first (`prepare`), and the meanings of the clock's commands and of FULL_RESET. -/

namespace Sys2Proof.Machine

open Sys2Proof

/-- The outcome of a command: always a next state (INVENTORY.md, Faults). -/
abbrev Result := Host.Outcome State Fault Refusal

/-- The clock's own events in their time order (R4 to R7). -/
inductive ClockEvent where
  | substituted | holdover | loss | timeout
deriving DecidableEq, Repr

/-- R5: units after the previous sample instant at which an increment is substituted: 9/8 of a period, 3/2 while the
first house-driven increment after a return is awaited (log 7). -/
def State.substituteAt (s : State) : Nat :=
  if s.clock.joining then s.nominal * 3 / 2 else s.nominal * 9 / 8

/-- R6, R7: units after the last house edge at which four nominal periods have passed. -/
def State.silenceAt (s : State) : Nat := s.nominal * 4

/-- Units until the clock's event is due, none when no passing of time makes it due. Neither a glitch
edge nor an absorbed one, which belongs to the substituted increment before it, counts as the house edge of R5 that withholds
the next substituted increment: DESIGN CHOICE (log 41). Where more than one nominal period has passed
since the last sample instant as HOLDOVER begins (R6) or the sample rate changes (R8), the increment of the reference is due
at once: DESIGN CHOICE (log 49). -/
def State.clockWait (s : State) : ClockEvent → Option Nat
  | .substituted => if s.clock.source = .locked then some (s.substituteAt - s.clock.sinceInstant) else none
  | .holdover => if s.clock.source = .holdover then some (s.nominal - s.clock.sinceInstant) else none
  | .loss => if s.clock.source = .locked then s.clock.sinceEdge.map (s.silenceAt - ·) else none
  | .timeout =>
    if s.clock.source = .holdover ∧ s.clock.returnCounter ≠ 0 then s.clock.sinceEdge.map (s.silenceAt - ·) else none

/-- The earlier of two events, the first on a tie (log 5). -/
def sooner {α : Type} : Option (Nat × α) → Option (Nat × α) → Option (Nat × α)
  | none, y => y
  | x, none => x
  | some x, some y => if y.1 < x.1 then some y else some x

/-- The clock's next event of its own and the units until it. -/
def State.nextClock (s : State) : Option (Nat × ClockEvent) :=
  let item := fun e => (s.clockWait e).map fun w => (w, e)
  sooner (sooner (item .substituted) (item .holdover)) (sooner (item .loss) (item .timeout))

/-- What happens by itself as time passes: the clock's own events, and the closing of a frame window (R9, log 48). -/
inductive TimedEvent where
  | clock (e : ClockEvent)
  | window (r : Rig)
deriving DecidableEq, Repr

/-- The next event that time brings and the units until it. -/
def State.nextTimed (s : State) : Option (Nat × TimedEvent) :=
  let window := fun r => (s.windowWait r).map fun w => (w, TimedEvent.window r)
  sooner (s.nextClock.map fun x => (x.1, .clock x.2)) (sooner (window .a) (window .b))

/-- A window grows older (R9). -/
def LinkRx.later (l : LinkRx) (dt : Nat) : LinkRx :=
  { l with window := l.window.map fun w => { w with age := w.age + dt } }

/-- R34: an age that an event set at an earlier moment increases again. -/
def Parser.later (p : Parser) (dt : Nat) : Parser := if dt = 0 then p else { p with ageSet := false }

/-- Time passes without an event of the part. -/
def State.later (s : State) (dt : Nat) : State :=
  let s := s.setClock { s.clock with
    sinceInstant := s.clock.sinceInstant + dt, sinceEdge := s.clock.sinceEdge.map (· + dt) }
  (s.setLinks (s.links.map (·.later dt))).setParsers (s.parsers.map (·.later dt))

/-- R5: a substituted increment; the edge that belongs to it may still come. -/
def State.substitute (s : State) : State :=
  let s := s.sampleInstant
  s.setClock { s.clock with absorbing := true }

/-- R6: the loss of the house clock. -/
def State.loseClock (s : State) : State :=
  (s.setClock { s.clock with source := .holdover, returnCounter := 0, absorbing := false, joining := false }).raiseAll
    .clockHoldover

/-- R7: four nominal periods without an edge. -/
def State.dropReturn (s : State) : State := s.setClock { s.clock with returnCounter := 0 }

/-- The clock's own event, taken. -/
def State.takeClock (s : State) : ClockEvent → State
  | .substituted => s.substitute
  | .holdover => s.sampleInstant
  | .loss => s.loseClock
  | .timeout => s.dropReturn

/-- What time brings, taken. -/
def State.takeTimed (s : State) : TimedEvent → State
  | .clock e => s.takeClock e
  | .window r => s.closeWindow r

/-- Time passes, each event that falls strictly inside it being taken at its own moment, and everything due at that
moment with it (log 2, log 5). -/
def elapseWith : Nat → Nat → State → State
  | 0, dt, s => s.later dt
  | n + 1, dt, s =>
    match s.nextTimed with
    | none => s.later dt
    | some (w, e) =>
      if w < dt then elapseWith n (dt - w) ((s.later w).takeTimed e).closeMoment else s.later dt

/-- Time passes: what the present instant still has due is taken before any of it does (log 2). -/
def State.elapse (s : State) (dt : Nat) : State :=
  if dt = 0 then s else elapseWith (dt / Config.unitsAt96k + 10) dt s.closeMoment

/-- R7: the return to LOCKED with its phase join. -/
def State.takeClockReturn (s : State) : State :=
  if s.clock.source = .holdover ∧ Config.returnPeriods ≤ s.clock.returnCounter then
    let s := (s.setClock { s.clock with source := .locked, returnCounter := 0 }).raiseAll .clockHoldover
    if s.nominal ≤ 2 * s.clock.sinceInstant then s.sampleInstant
    else s.setClock { s.clock with joining := true }
  else s

/-- What stands due before any other command is taken: a return of the clock, then the consequences (log 2). -/
def State.prepare (s : State) : State := s.takeClockReturn.resolve

/-- R7: whether a house period is good: between 7/8 and 9/8 of a nominal period, both ends included (R3). -/
def goodPeriod (nominal d : Nat) : Bool := decide (nominal * 7 ≤ d * 8) && decide (d * 8 ≤ nominal * 9)

/-- The time since the last house edge restarts. -/
def State.edgeSeen (s : State) : State :=
  s.setClock { s.clock with sinceEdge := some 0, absorbing := false }

/-- R5, R7: a house clock edge at the present moment. -/
def State.houseEdge (s : State) : State :=
  match s.clock.source with
  | .locked =>
    if s.clock.joining || decide (s.nominal ≤ 2 * s.clock.sinceInstant) then s.sampleInstant.edgeSeen
    else s.edgeSeen
  | .holdover =>
    match s.clock.sinceEdge with
    | none => s.edgeSeen
    | some d =>
      let n := if goodPeriod s.nominal d then min Config.returnPeriods (s.clock.returnCounter + 1) else 0
      (s.setClock { s.clock with returnCounter := n }).edgeSeen

/-- The clock's own event at its own moment: time passes up to it, then it is taken if it is still due. -/
def State.clockEvent (s : State) (e : ClockEvent) : State :=
  match s.clockWait e with
  | none => s
  | some w =>
    let t := s.elapse w
    if t.clockWait e = some 0 then t.takeClock e else t

/-- HOUSE_CLOCK_EDGE (R5, R7): `dt` units pass, then the edge is judged. -/
def execHouseClockEdge (dt : Nat) (s : State) : Result := .next (s.prepare.elapse dt).houseEdge

/-- SUBSTITUTED_INCREMENT (R5). -/
def execSubstitutedIncrement (s : State) : Result := .next (s.prepare.clockEvent .substituted)

/-- HOLDOVER_INCREMENT (R4). -/
def execHoldoverIncrement (s : State) : Result := .next (s.prepare.clockEvent .holdover)

/-- CLOCK_LOSS (R6). -/
def execClockLoss (s : State) : Result := .next (s.prepare.clockEvent .loss)

/-- RETURN_COUNTER_TIMEOUT (R7). -/
def execReturnCounterTimeout (s : State) : Result := .next (s.prepare.clockEvent .timeout)

/-- CLOCK_RETURN (R7): the return stands due when the return counter has reached 1024. -/
def execClockReturn (s : State) : Result := .next s.takeClockReturn

/-- R200: the start cause a full reset leaves. -/
def startOfReset : ResetCause → StartCause
  | .powerOn => .power
  | .resetLine => .line

/-- FULL_RESET (R200): every block at its full-reset value. The queue stays: it is the world's, not the part's (log 1). -/
def execFullReset (cause : ResetCause) (s : State) : Result :=
  .next ((State.fullReset (startOfReset cause)).setPending s.pending)

end Sys2Proof.Machine
end

