-- ==== Sys2Proof/Machine/Transactions.lean ====
section
/-! DEFINITION. Transactions on a control port (sections 10.1, 10.3 and 10.4): select and deselect, the port status byte,
the checks of R178 in their order, and the rights of R181. A write-type transaction is one step (log 20). -/

namespace Sys2Proof.Machine

open Sys2Proof

/-- A port replaced. -/
def State.setPort (s : State) (q : Port) (c : ControlPort) : State := s.setPorts (s.ports.set q c)

/-- The port status byte (R175, R191). -/
def State.statusByte (s : State) (q : Port) : Byte :=
  let c := s.ports.get q
  (resultByte c.lastResult <<< 4) ||| (bit c.attention <<< 3) ||| (bit (s.arbiter.state != .stopped) <<< 2) |||
    rigByte? s.arbiter.onAir

/-- R175: select is asserted; the status byte is formed, and is what the port shifts out during byte 0. -/
def State.select (s : State) (q : Port) : State :=
  s.setPort q { s.ports.get q with tx := .command, dataOut := [s.statusByte q] }

/-- R182, R184: a deselect that ends a transaction with a result. -/
def State.deselect (s : State) (q : Port) (r : ResultCode) : State :=
  let s := s.setPort q { s.ports.get q with tx := .idle, lastResult := r }
  if r = .done then s else s.raiseOn q .refused

/-- R176, R177: the deselect of a READ, or of a transaction of which no bit was shifted (R174). -/
def State.endRead (s : State) (q : Port) : State :=
  match (s.ports.get q).tx with
  | .idle => s
  | .command => s.setPort q { s.ports.get q with tx := .idle }
  | .receiving _ => s.deselect q .length
  | .streaming x => s.deselect q x.result

/-- Select is asserted unless the port waits for its command byte; a READ still open ends first (log 20). -/
def State.begin (s : State) (q : Port) : State :=
  match (s.ports.get q).tx with
  | .idle => s.select q
  | .command => s
  | .receiving _ => (s.endRead q).select q
  | .streaming _ => (s.endRead q).select q

/-- R175: 0x00 is shifted out during `n` more bytes. -/
def State.shiftZeros (s : State) (q : Port) (n : Nat) : State :=
  let c := s.ports.get q
  s.setPort q { c with dataOut := c.dataOut ++ List.replicate n 0 }

/-! ### Rights (R181) -/

/-- The rows of the table of rights. -/
inductive Right where
  /-- Every port. -/
  | everyPort
  /-- Port P, and a rig port with OPERATE. -/
  | operate
  /-- Port P, a rig port with OPERATE, and the holder of the edit claim. -/
  | exchange
  /-- Port P alone. -/
  | panel
  /-- No port: a read-only table (R179). -/
  | noPort
deriving DecidableEq, Repr

/-- The rights of a port in Show Setup; Port P has every right. -/
def State.operates (s : State) : Port → Bool
  | .p => true
  | .a => s.bank.setup.rights.a == .operate
  | .b => s.bank.setup.rights.b == .operate

/-- R181: whether a port has a right as Show Setup and the claim stand. -/
def State.allowed (s : State) (q : Port) : Right → Bool
  | .everyPort => true
  | .operate => s.operates q
  | .exchange => s.operates q || s.bank.claim == some q
  | .panel => q == .p
  | .noPort => false

/-- The right a WRITE to a table asks (R181). -/
def writeRight (id : Byte) : Right :=
  match id.toNat with
  | 5 => .operate
  | 16 => .everyPort
  | 17 => .everyPort
  | 18 => .everyPort
  | 19 => .everyPort
  | 20 => .everyPort
  | 21 => .everyPort
  | 24 => .panel
  | 25 => .panel
  | 26 => .panel
  | 27 => .everyPort
  | _ => .noPort

/-! ### The checks of R178 -/

/-- The check and the right of a command of `length` bytes whose bytes, the command byte included, are `bytes`; none
when the owner is asked. -/
def State.commandRefused (s : State) (q : Port) (length : Nat) (right : Right) (bytes : List Byte) : Option ResultCode :=
  if bytes.length ≠ length then some .length
  else if !checkOk bytes then some .checkFailed
  else if !s.allowed q right then some .denied
  else none

/-- A WRITE's parts: table id, first index, count, and the bytes of its entries. -/
structure WriteRequest where
  id : Byte
  first : Nat
  count : Nat
  data : List Byte
deriving DecidableEq, Repr

/-- The parts of the bytes after WRITE's command byte; none when fewer than five bytes were received in all. -/
def writeRequest : List Byte → Option WriteRequest
  | id :: first :: count :: x :: rest =>
    some { id, first := first.toNat, count := count.toNat, data := (x :: rest).dropLast }
  | _ => none

/-- R178 for a WRITE whose bytes after the command byte are `bytes`; none when the owner is asked. -/
def State.writeRefused (s : State) (q : Port) (bytes : List Byte) : Option ResultCode :=
  match writeRequest bytes with
  | none => some .length
  | some w =>
    match tableShape w.id with
    | none => if checkOk (0x02 :: bytes) then some .invalid else some .checkFailed
    | some (entries, len) =>
      if w.count ≠ 0 ∧ bytes.length + 1 ≠ 5 + w.count * len then some .length
      else if !checkOk (0x02 :: bytes) then some .checkFailed
      else if w.count = 0 then some .invalid
      else if !s.allowed q (writeRight w.id) then some .denied
      else if entries < w.first + w.count then some .badIndex
      else none

/-- A port ready for a write-type transaction to be judged: what stands due has been taken, select is asserted, and
`later` bytes have been shifted after the command byte. -/
def State.opened (s : State) (q : Port) (later : Nat) : State := (s.prepare.begin q).shiftZeros q later

/-- An owner's answer: the state it leaves, which stands only with DONE, and its result. -/
abbrev Answer := State × ResultCode

/-- R178, R182: a write-type transaction of `later` bytes after the command byte ends with a refusal or with the owner's
answer; any result but DONE has no effect outside its port. -/
def State.transact (s : State) (q : Port) (later : Nat) (refused : State → Option ResultCode) (owner : State → Answer) :
    State :=
  let s := s.opened q later
  match refused s with
  | some r => s.deselect q r
  | none =>
    match owner s with
    | (t, .done) => t.deselect q .done
    | (_, r) => s.deselect q r

/-- A named command (R192): its code, its length, its right and its owner's answer to its operand bytes. -/
def State.command (s : State) (q : Port) (code : Byte) (length : Nat) (right : Right) (body : List Byte)
    (owner : State → Answer) : State :=
  s.transact q body.length (fun s => s.commandRefused q length right (code :: body)) owner

/-- A WRITE (R192): the owner answers its parts. -/
def State.writeCommand (s : State) (q : Port) (bytes : List Byte) (owner : WriteRequest → State → Answer) : State :=
  s.transact q bytes.length (fun s => s.writeRefused q bytes) fun s =>
    match writeRequest bytes with
    | none => (s, .length)
    | some w => owner w s

/-- R179: every entry of a WRITE is read before any is stored. -/
def WriteRequest.entries {α : Type} (w : WriteRequest) (len : Nat) (f : List Byte → Option α) : Option (List α) :=
  readAll f (pieces len w.count w.data)

end Sys2Proof.Machine
end

