-- ==== Sys2Proof/Machine/ArbiterCommands.lean ====
section
/-! DEFINITION. START, STOP, TAKE and SET_MODE: the On-Air Arbiter's answers (sections 5.2, 5.6 and 5.7). -/

namespace Sys2Proof.Machine

open Sys2Proof

/-- R63: both delays at the base delay of Show Setup. -/
def State.baseDelays (s : State) : State :=
  (s.setDelay .a s.bank.setup.baseDelay).setDelay .b s.bank.setup.baseDelay

/-- R84: a START that is taken. The standby delay is settled once, against the rig that goes on air (log 17). -/
def State.startShow (s : State) (r : Rig) : State :=
  let down := (s.handed r).down
  let s := s.baseDelays
  let s := s.setArbiter { s.arbiter with state := if down then .blind else .steady, onAir := some r, outgoing := none }
  let s := s.updateSong.raiseAll .onAirChanged
  let s := if down then s.raiseAll .blindEntered else s
  let s := s.setBank { s.bank with claim := none }
  s.handOnAir.run

/-- R84: the arbiter's answer to START. -/
def State.answerStart (rig : Option Rig) (s : State) : Answer :=
  match rig with
  | none => (s, .invalid)
  | some r =>
    if s.arbiter.state ≠ .stopped then (s, .wrongState)
    else if s.bank.front.valid s.bank.setup then (s.startShow r, .done)
    else (s, .invalid)

/-- R85: a STOP taken while the show runs. -/
def State.stopShow (s : State) : State :=
  let s := if s.arbiter.state = .changing then s.closeEntry .aborted else s
  let s := s.setArbiter { s.arbiter with state := .stopped, onAir := none, outgoing := none }
  let s := (s.raiseAll .onAirChanged).clockIdle
  let s := s.setBank { s.bank with claim := none, exchange := none }
  s.settleDelay.reEligible.retargetAll

/-- R85: the arbiter's answer to STOP. -/
def State.answerStop (s : State) : Answer :=
  if s.arbiter.state = .stopped then (s, .done) else (s.stopShow, .done)

/-- R96, R97: the arbiter's answer to TAKE. -/
def State.answerTake (rig : Option Rig) (force : Option Bool) (s : State) : Answer :=
  match rig, force with
  | none, _ => (s, .invalid)
  | some _, none => (s, .invalid)
  | some r, some f =>
    match s.arbiter.state with
    | .stopped => (s, .wrongState)
    | .changing => if s.arbiter.onAir = some r then (s, .done) else (s.reverse.run, .done)
    | .steady =>
      if s.arbiter.onAir = some r then (s, .done)
      else if s.arbiter.eligible then ((s.enterChanging .take).run, .done)
      else if f then ((s.enterChanging .forcedTake).run, .done)
      else (s, .notEligible)
    | .blind =>
      if s.arbiter.onAir = some r then (s, .done)
      else if s.arbiter.eligible then ((s.enterChanging .take).run, .done)
      else if f then ((s.enterChanging .forcedTake).run, .done)
      else (s, .notEligible)

/-- What SET_MODE names (R192). -/
inductive ModeChange where
  | manual | auto | clearInhibit
deriving DecidableEq, Repr

/-- SET_MODE's operand (R192). -/
def modeChangeOf (b : Byte) : Option ModeChange :=
  if b = 0 then some .manual else if b = 1 then some .auto else if b = 2 then some .clearInhibit else none

/-- R98: the mode and the inhibit flag after SET_MODE. -/
def Arbiter.change (x : Arbiter) : ModeChange → Arbiter
  | .manual => { x with mode := .manual }
  | .auto => { x with mode := .auto }
  | .clearInhibit => { x with inhibit := false }

/-- R98: the arbiter's answer to SET_MODE. -/
def State.answerMode (m : Option ModeChange) (s : State) : Answer :=
  match m with
  | none => (s, .invalid)
  | some m => ((s.setArbiter (s.arbiter.change m)).run, .done)

/-- Operand byte `i` of a command. -/
def operand (body : List Byte) (i : Nat) : Byte := body.getD i 0

/-- START (R84). -/
def execStart (port : Port) (body : List Byte) (s : State) : Result :=
  .next (s.command port 0x10 3 .panel body (State.answerStart (rigOf (operand body 0))))

/-- STOP (R85). -/
def execStop (port : Port) (body : List Byte) (s : State) : Result :=
  .next (s.command port 0x11 2 .panel body State.answerStop)

/-- TAKE (R96, R97). -/
def execTake (port : Port) (body : List Byte) (s : State) : Result :=
  .next (s.command port 0x12 4 .operate body (State.answerTake (rigOf (operand body 0)) (boolOf (operand body 1))))

/-- SET_MODE (R98). -/
def execSetMode (port : Port) (body : List Byte) (s : State) : Result :=
  .next (s.command port 0x13 3 .panel body (State.answerMode (modeChangeOf (operand body 0))))

end Sys2Proof.Machine
end

