-- ==== Sys2Proof/Machine/BankCommands.lean ====
section
/-! DEFINITION. The Bank Store's answers: writes to the banked tables and to Show Setup, the claim, the copy and the
exchange (chapter 9). -/

namespace Sys2Proof.Machine

open Sys2Proof

/-! ### Writes to the banked tables (R160, R164) -/

/-- R164 steps 3 and 4: a bank after a WRITE to one table, none when a field is refused. -/
def Bank.written (b : Bank) (t : BankedTable) (w : WriteRequest) : Option Bank :=
  match t with
  | .route => (w.entries 5 readRoute).map fun l => { b with route := storeFrom b.route w.first l }
  | .group => (w.entries 3 readGroup).map fun l => { b with group := storeFrom b.group w.first l }
  | .song => (w.entries 5 readSong).map fun l => { b with song := storeFrom b.song w.first l }
  | .matcher => (w.entries 10 readMatcher).map fun l => { b with matcher := storeFrom b.matcher w.first l }
  | .faultPolicy => (w.entries 2 readFault).map fun l => { b with fault := storeFrom b.fault w.first l }
  | .monitorPolicy =>
    match w.entries 7 readMonitor with
    | some [m] => some { b with monitor := m }
    | _ => none

/-- R45: a restart of both monitors by a WRITE that has changed the FRONT bank. What it undoes was decided under `old`, the bank
before, and so is what stands in its place. -/
def State.guardRestartUnder (s : State) (old : Bank) : State :=
  (s.setBank { s.bank with front := old }).guardRestartBoth.setBank s.bank

/-- R41, R45, R58, R82, R106, R141, R154: what a changed table of the FRONT bank brings about; `old` is the bank before. -/
def State.frontWritten (s : State) (t : BankedTable) (old : Bank) : State :=
  match t with
  | .route => if s.bank.front.route = old.route then s
    else (s.guardRestartUnder old).handBothWith State.run
  | .group => s.retargetAll.run
  | .song => (s.rebase old.song).run
  | .matcher => if s.bank.front.matcher = old.matcher then s else s.clearMemories
  | .faultPolicy =>
    ((s.policyChange .a old.fault).policyChange .b old.fault).handBothWith State.run
  | .monitorPolicy =>
    let u := if s.bank.front.monitor.silenceExponent = old.monitor.silenceExponent then s else s.guardRestartUnder old
    ((u.restoreChange .a).restoreChange .b).handBothWith State.run

/-- Whether a port other than `q` holds the claim. -/
def State.claimedFrom (s : State) (q : Port) : Bool :=
  match s.bank.claim with
  | none => false
  | some c => c != q

/-- R165: the issuing port takes the claim, or keeps it. -/
def State.takeClaim (s : State) (q : Port) : State :=
  s.setBank { s.bank with claim := some (s.bank.claim.getD q) }

/-- R164: the Bank Store's answer to a WRITE to a banked table. -/
def State.answerTable (q : Port) (t : BankedTable) (w : WriteRequest) (s : State) : Answer :=
  if s.claimedFrom q then (s, .claimed)
  else if s.bank.exchange.isSome then (s, .busy)
  else
    match s.editable.written t w with
    | none => (s, .invalid)
    | some b =>
      let s := s.takeClaim q
      if s.frontEditable then
        let old := s.bank.front
        ((s.setBank { s.bank with front := b }).frontWritten t old, .done)
      else (s.setBank { s.bank with back := b }, .done)

/-! ### Show Setup (R161, R162) -/

/-- R8: the Clock Input takes a new nominal period. The house period under way is judged whole under the new nominal period:
DESIGN CHOICE (log 42). Where more than one new nominal period has passed since the last sample instant, the next reference
increment is made at once: DESIGN CHOICE (log 49). In LOCKED it raises CLOCK_HOLDOVER, as R8 says, though R162 says that no
notice is raised by a Show Setup write: DESIGN CHOICE (log 64). -/
def State.newRate (s : State) : State :=
  let c := { s.clock with source := ClockSource.holdover, returnCounter := 0, absorbing := false, joining := false }
  match s.clock.source with
  | .locked => (s.setClock c).raiseAll .clockHoldover
  | .holdover => s.setClock c

/-- R34: MISSING judged afresh under a new beacon period. Where a beacon that completed at this moment waits for its judgement
or a window closes by itself at it, MISSING is judged on the age that they set, so MISSING_PRESENT of this moment is left to
take it after them. Where MISSING becomes present the health state may move and raise HEALTH_CHANGED, as R55 says, though R162
says that no notice is raised by a Show Setup write: DESIGN CHOICE (log 64). -/
def State.reMissing (s : State) (r : Rig) : State :=
  let p := s.parsers.get r
  if missingAt p.age s.period then
    if p.missing || p.judging.isSome || s.windowDue r then s else s.missingBegins r
  else s.setParser r { p with missing := false }

/-- R162: a Show Setup that is taken is handed to the blocks its changed fields concern; `old` is the one before. Where it
changes P at an instant whose tick end under the old P is still due, that tick end is taken at this instant all the same:
DESIGN CHOICE (log 54). Where it changes the sample rate at an instant whose lamp step boundary under the old rate is still
due, that boundary falls at this instant all the same: DESIGN CHOICE (log 58). Its blocks raise their notices by their own
rules, the write itself none: DESIGN CHOICE (log 64). -/
def State.setupTaken (s : State) (old : ShowSetup) : State :=
  let u := s.bank.setup
  let s := if u.rate = old.rate then s else s.newRate
  let s := if u.pilot.a = old.pilot.a then s else s.silentAbandon .a
  let s := if u.pilot.b = old.pilot.b then s else s.silentAbandon .b
  if u.period = old.period then s else (s.reMissing .a).reMissing .b

/-- R161: the Bank Store's answer to a WRITE to Show Setup. -/
def State.answerSetup (w : WriteRequest) (s : State) : Answer :=
  if s.arbiter.state ≠ .stopped then (s, .wrongState)
  else
    match w.entries 9 readSetup with
    | some [u] => ((s.setBank { s.bank with setup := u }).setupTaken s.bank.setup, .done)
    | _ => (s, .invalid)

/-! ### Claim, copy and exchange (R166, R167, R169 to R171) -/

/-- R166: the Bank Store's answer to RELEASE_CLAIM. -/
def State.answerRelease (q : Port) (s : State) : Answer :=
  match s.bank.claim with
  | none => (s, .done)
  | some c =>
    let t := s.setBank { s.bank with claim := none }
    if c = q then (t, .done)
    else if q = .p then (t.raiseOn c .claimLost, .done)
    else (s, .claimed)

/-- R167: the Bank Store's answer to COPY_BANK. -/
def State.answerCopy (q : Port) (s : State) : Answer :=
  if s.arbiter.state = .stopped then (s, .wrongState)
  else if s.claimedFrom q then (s, .claimed)
  else if s.bank.exchange.isSome then (s, .busy)
  else
    let s := s.takeClaim q
    (s.setBank { s.bank with back := s.bank.front }, .done)

/-- R169, R170: an exchange requested, and falling due at once when its timing is NOW. -/
def State.pendExchange (s : State) (t : Timing) (due : Bool) : State :=
  let s := s.setBank { s.bank with exchange := some { timing := t, due } }
  match t with
  | .now => s.exchangeFallsDue
  | .atSong => s

/-- R169: the Bank Store's answer to EXCHANGE. -/
def State.answerExchange (q : Port) (t : Option Timing) (s : State) : Answer :=
  match t with
  | none => (s, .invalid)
  | some t =>
    if s.arbiter.state = .stopped then (s, .wrongState)
    else if s.claimedFrom q then (s, .claimed)
    else
      match s.bank.exchange with
      | some e =>
        match e.timing, t with
        | .atSong, .now => (s.pendExchange .now e.due, .done)
        | .atSong, .atSong => (s, .done)
        | .now, _ => (s, .done)
      | none => if s.bank.back.valid s.bank.setup then (s.pendExchange t false, .done) else (s, .invalid)

/-- R171: the Bank Store's answer to CANCEL_EXCHANGE. -/
def State.answerCancel (q : Port) (s : State) : Answer :=
  if s.claimedFrom q then (s, .claimed) else (s.setBank { s.bank with exchange := none }, .done)

/-- WRITE_BANKED_TABLE (R164): a WRITE naming the id of a banked table. -/
def execWriteBankedTable (port : Port) (table : BankedTable) (body : List Byte) (s : State) : Result :=
  .next (s.writeCommand port (bankedId table :: body) (State.answerTable port table))

/-- WRITE_SHOW_SETUP (R161): a WRITE naming id 24. -/
def execWriteShowSetup (port : Port) (body : List Byte) (s : State) : Result :=
  .next (s.writeCommand port (24 :: body) State.answerSetup)

/-- RELEASE_CLAIM (R166). -/
def execReleaseClaim (port : Port) (body : List Byte) (s : State) : Result :=
  .next (s.command port 0x23 2 .everyPort body (State.answerRelease port))

/-- COPY_BANK (R167). -/
def execCopyBank (port : Port) (body : List Byte) (s : State) : Result :=
  .next (s.command port 0x22 2 .everyPort body (State.answerCopy port))

/-- EXCHANGE (R169). -/
def execExchange (port : Port) (body : List Byte) (s : State) : Result :=
  .next (s.command port 0x20 3 .exchange body (State.answerExchange port (timingOf (operand body 0))))

/-- CANCEL_EXCHANGE (R171). -/
def execCancelExchange (port : Port) (body : List Byte) (s : State) : Result :=
  .next (s.command port 0x21 2 .exchange body (State.answerCancel port))

end Sys2Proof.Machine
end

