-- ==== Sys2Proof/Machine/GroupCommands.lean ====
section
/-! DEFINITION. SET_GROUP, the batched write to Group State, CLOCK_FINISH and the write to Clock Control: the answers of
the Group Mixer and the Show Clock (sections 6.7 and 7.8). -/

namespace Sys2Proof.Machine

open Sys2Proof

/-- R118: a change between the two pin modes. -/
def pinChange : GroupMode → GroupMode → Bool
  | .pinA, .pinB => true
  | .pinB, .pinA => true
  | _, _ => false

/-- R118: whether what a SET_GROUP asks of a group is forbidden. -/
def Group.forbids (g : Group) (w : GroupWrite) : Bool :=
  pinChange g.mode w.mode || (w.oneSong && pinChange g.base w.mode)

/-- R119, R120: a group's record after a SET_GROUP that is taken, before its target. -/
def Group.assign (g : Group) (w : GroupWrite) : Group :=
  if w.oneSong then { g with mode := w.mode, oneSong := true }
  else { g with mode := w.mode, base := w.mode, oneSong := false }

/-- R119, R120: a SET_GROUP taken for one group; a mode that changes evaluates the target afresh. -/
def State.assignGroup (s : State) (i : Fin 8) (w : GroupWrite) : State :=
  let g := s.mixer.groups.get i
  let t := s.setMixer { s.mixer with groups := s.mixer.groups.set i (g.assign w) }
  if w.mode = g.mode then t else t.retargetGroup i

/-- R117: the Group Mixer's answer to SET_GROUP. -/
def State.answerGroup (group : Option (Fin 8)) (w : Option GroupWrite) (s : State) : Answer :=
  match group, w with
  | none, _ => (s, .invalid)
  | some _, none => (s, .invalid)
  | some i, some w =>
    if (s.mixer.groups.get i).forbids w then (s, .forbidden) else ((s.assignGroup i w).run, .done)

/-- The groups a WRITE to Group State addresses, each with what it asks. -/
def addressed (first : Nat) (ws : List GroupWrite) : List (Fin 8 × GroupWrite) :=
  ws.zipIdx.filterMap fun p => if h : first + p.2 < 8 then some (⟨first + p.2, h⟩, p.1) else none

/-- R122: the Group Mixer's answer to a WRITE to Group State. -/
def State.answerGroups (w : WriteRequest) (s : State) : Answer :=
  match w.entries 16 readGroupWrite with
  | none => (s, .invalid)
  | some ws =>
    let asked := addressed w.first ws
    if asked.any fun p => (s.mixer.groups.get p.1).forbids p.2 then (s, .forbidden)
    else ((asked.foldl (fun s p => s.assignGroup p.1 p.2) s).run, .done)

/-- R140: the Show Clock's answer to CLOCK_FINISH. -/
def State.answerFinish (s : State) : Answer :=
  if s.showClock.state = .slewing then
    let c := s.showClock
    ((s.setShowClock { c with
      anchor := c.target, state := .running, slewCounter := none, jumped := true, lastFrame := .absent }).raiseAll
        .clockJumped, .done)
  else (s, .done)

/-- R139: the Show Clock's answer to a WRITE to Clock Control; a freewheel limit lowered to the counter leaves
FREEWHEEL_LIMIT due (R135). -/
def State.answerControl (w : WriteRequest) (s : State) : Answer :=
  if s.showClock.state = .slewing then (s, .busy)
  else
    match w.entries 5 readControl with
    | some [c] => (s.setShowClock { s.showClock with control := c }, .done)
    | _ => (s, .invalid)

/-- SET_GROUP (R117). -/
def execSetGroup (port : Port) (body : List Byte) (s : State) : Result :=
  .next (s.command port 0x14 5 .operate body
    (State.answerGroup (finOf 8 (operand body 0)) (readGroupWrite [operand body 1, operand body 2])))

/-- WRITE_GROUP_STATE (R122): a WRITE naming id 5. -/
def execWriteGroupState (port : Port) (body : List Byte) (s : State) : Result :=
  .next (s.writeCommand port (5 :: body) State.answerGroups)

/-- CLOCK_FINISH (R140). -/
def execClockFinish (port : Port) (body : List Byte) (s : State) : Result :=
  .next (s.command port 0x32 2 .panel body State.answerFinish)

/-- WRITE_CLOCK_CONTROL (R139): a WRITE naming id 25. -/
def execWriteClockControl (port : Port) (body : List Byte) (s : State) : Result :=
  .next (s.writeCommand port (25 :: body) State.answerControl)

end Sys2Proof.Machine
end

