-- ==== Sys2Proof/Machine/Links.lean ====
section
/-! DEFINITION. The meanings of the Link Receivers' commands (sections 1.2 to 1.4). -/

namespace Sys2Proof.Machine

open Sys2Proof

/-- R9: the window that a marker opens; the two-instant watch restarts (R10). -/
def LinkRx.openWindow (l : LinkRx) (lane : Fin 4) : LinkRx :=
  { l with window := some { age := 0, marked := (Table.fill 4 false).set lane true }, sinceWindow := 0 }

/-- R11, R13: what a marker does whatever window it belongs to. -/
def LinkRx.marker (l : LinkRx) : LinkRx :=
  if l.state = .absent then { l with state := .acquiring, acquisition := 0, kept := [], sinceMarker := 0 }
  else { l with sinceMarker := 0 }

/-- R10, R13: what stands due of the two watches of a link, a missing frame and then its absence: the instant that made
them due came before a marker of the present moment, so they are taken before it. -/
def State.linkDues (s : State) (r : Rig) : State := (s.takeMissingFrame r).resolve.takeLinkAbsent r

/-- R9: a marker at the present moment; `complete` says which lanes' frames of the open window were complete. A marker that
cuts short a lane frame whose own marker came before the open window joins that window and does not close it: DESIGN CHOICE
(log 50). -/
def State.laneMarker (s : State) (r : Rig) (lane : Fin 4) (complete : Table 4 Bool) : State :=
  let s := s.linkDues r
  let s :=
    match (s.links.get r).window with
    | none => s
    | some w =>
      if w.expired s.nominal then (s.closeWindow r).resolve
      else if w.marked.get lane then (s.closeBad r ((lanesNot complete).set lane true)).resolve
      else s
  let l := (s.links.get r).marker
  match l.window with
  | none => s.setLink r (l.openWindow lane)
  | some w => s.setLink r { l with window := some { w with marked := w.marked.set lane true } }

/-- LANE_FRAME_MARKER (R9): `dt` units pass, then the marker arrives. -/
def execLaneFrameMarker (dt : Nat) (link : Rig) (lane : Fin 4) (complete : Table 4 Bool) (s : State) : Result :=
  .next ((s.prepare.elapse dt).laneMarker link lane complete)

/-- FRAME_ARRIVAL (R9): `dt` units pass, then the lanes deliver and the window closes if it is old enough. A window that
closes by itself within `dt` is closed by then, and what arrives after it is delivered to none (log 9). -/
def execFrameArrival (dt : Nat) (link : Rig) (lanes : LaneFrames) (s : State) : Result :=
  .next ((s.prepare.elapse dt).frameArrival link lanes)

/-- MISSING_FRAME (R10). -/
def execMissingFrame (link : Rig) (s : State) : Result := .next (s.prepare.takeMissingFrame link)

/-- LOCK_GAINED (R11). -/
def execLockGained (link : Rig) (s : State) : Result := .next (s.takeLockGained link)

/-- LOCK_LOST (R12). -/
def execLockLost (link : Rig) (s : State) : Result := .next (s.takeLockLost link)

/-- LINK_ABSENT (R13). -/
def execLinkAbsent (link : Rig) (s : State) : Result := .next (s.prepare.takeLinkAbsent link)

end Sys2Proof.Machine
end

