-- ==== Sys2Proof/Machine/OutputEvents.lean ====
section
/-! DEFINITION. The meanings of the commands of the Group Mixer, the Show Clock, the Timecode Output and the Lamp
Sequencer that are the part's own events (chapters 6, 7 and 11). -/

namespace Sys2Proof.Machine

open Sys2Proof

/-- TRANSITION_COMPLETE (R111). -/
def execTransitionComplete (group : Fin 8) (s : State) : Result := .next (s.prepare.takeTransitionComplete group)

/-- SLEW_STEP (R133). -/
def execSlewStep (s : State) : Result := .next s.prepare.takeSlewStep

/-- FREEWHEEL_LIMIT (R135). -/
def execFreewheelLimit (s : State) : Result := .next s.takeFreewheelLimit

/-- FRAME_BOUNDARY (R136). -/
def execFrameBoundary (s : State) : Result := .next s.prepare.takeFrameBoundary

/-- HELD_RECORD (R136). -/
def execHeldRecord (s : State) : Result := .next s.prepare.takeHeldRecord

/-- RECORD_SEND_END (R137). -/
def execRecordSendEnd (s : State) : Result := .next s.prepare.takeRecordSendEnd

/-- LAMP_STEP_BOUNDARY (R197). -/
def execLampStepBoundary (s : State) : Result := .next s.prepare.takeLampStep

end Sys2Proof.Machine
end

