-- ==== Sys2Proof/Machine/PanelCommands.lean ====
section
/-! DEFINITION. The panel's commands over the whole part and the lamps: RESTART, CLEAR_HISTORY, SET_LAMP and the write to
Lamp Patterns (sections 3.5, 10.5, 11.1 to 11.3). -/

namespace Sys2Proof.Machine

open Sys2Proof

/-! ### Engine restart (R187), one owner at a time -/

/-- R24, R29, R34, R37: a parser; the record is absent, the age 0 on a LOCKED link and none otherwise. -/
def Parser.restart (p : Parser) (link : LinkState) : Parser :=
  { p.setAge (if link = .locked then some 0 else none) with
    assembly := .waiting, judging := none, record := none, selfFault := false, diverged := false
    missing := link != .locked }

/-- R103: the arbiter; a changeover in flight is closed ABORTED. -/
def State.restartArbiter (s : State) : State :=
  let s := if s.arbiter.state = .changing then s.closeEntry .aborted else s
  s.setArbiter { s.arbiter with
    state := .stopped, inhibit := false, onAir := none, outgoing := none, eligible := false }

/-- R123: a group falls silent in its base mode, then takes its target with the arbiter STOPPED. -/
def Group.restart (g : Group) : Group :=
  { g with mode := g.base, oneSong := false, current := .silent, transition := none }

/-- R63: a line at the base delay, its rings 0. -/
def TrimLine.restart (baseDelay : Nat) : TrimLine := { delay := baseDelay, rings := [] }

/-- R55, R59: both rigs OFFLINE; HEALTH_CHANGED when that changes a state as last handed on. -/
def State.restartHealth (s : State) : State :=
  let changed := s.handed .a != .offline || s.handed .b != .offline
  let s := s.setHealth (s.health.map Health.goOffline)
  let s := s.setInstantHealth
    { s.instantHealth with
      handing := s.instantHealth.handing.map fun x => { x with handed := .offline }, unguarded := none }
  if changed then s.raiseAll .healthChanged else s

/-- R187, R200: an engine restart in every owner, with ENGINE_RESTARTED on all ports. -/
def State.engineRestart (s : State) : State :=
  let s := s.restartArbiter
  let s := s.setParsers ⟨s.parsers.a.restart s.links.a.state, s.parsers.b.restart s.links.b.state⟩
  let s := s.guardRestartBoth.restartHealth
  let s := s.setLines ⟨TrimLine.restart s.bank.setup.baseDelay, TrimLine.restart s.bank.setup.baseDelay⟩
  let s := s.setAlignment Alignment.reset
  let s := (s.setMixer { s.mixer with groups := s.mixer.groups.map Group.restart }).retargetAll
  let s := s.clockIdle.clearMemories
  let s := s.setBank { s.bank with claim := none, exchange := none }
  let s := s.setLamps { s.lamps with override := Table.fill 6 none }
  let s := s.setDevice { cause := .restart, restarts := stop255 s.device.restarts }
  s.raiseAll .engineRestarted

/-- R187: RESTART is taken in every state. -/
def State.answerRestart (s : State) : Answer := (s.engineRestart, .done)

/-! ### The others -/

/-- R57: a qualifier's history and failure count. -/
def Health.forget (h : Health) : Health := { h with history := noKinds, failures := 0 }

/-- R57, R155: CLEAR_HISTORY is taken in every state. -/
def State.answerClear (s : State) : Answer :=
  (((s.moveHealth .a Health.forget).moveHealth .b Health.forget).setMatchers
    (s.matchers.map fun m => { m with fires := 0 }), .done)

/-- R192: SET_LAMP's pattern operand: 0 to 7, or 0xFF for AUTO. -/
def overrideOf (b : Byte) : Option (Option (Fin 8)) :=
  if b = 0xFF then some none else (finOf 8 b).map some

/-- R199: the Lamp Sequencer's answer to SET_LAMP. -/
def State.answerLamp (lamp : Option (Fin 6)) (o : Option (Option (Fin 8))) (s : State) : Answer :=
  match lamp, o with
  | none, _ => (s, .invalid)
  | some _, none => (s, .invalid)
  | some i, some o => (s.setOverride i o, .done)

/-- R197: the Lamp Sequencer's answer to a WRITE to Lamp Patterns. -/
def State.answerPatterns (w : WriteRequest) (s : State) : Answer :=
  match w.entries 2 readPattern with
  | none => (s, .invalid)
  | some l => (s.setLamps { s.lamps with patterns := storeFrom s.lamps.patterns w.first l }, .done)

/-- RESTART (R187). -/
def execRestart (port : Port) (body : List Byte) (s : State) : Result :=
  .next (s.command port 0x3F 2 .panel body State.answerRestart)

/-- CLEAR_HISTORY (R57). -/
def execClearHistory (port : Port) (body : List Byte) (s : State) : Result :=
  .next (s.command port 0x31 2 .panel body State.answerClear)

/-- WRITE_LAMP_PATTERNS (R197): a WRITE naming id 26. -/
def execWriteLampPatterns (port : Port) (body : List Byte) (s : State) : Result :=
  .next (s.writeCommand port (26 :: body) State.answerPatterns)

/-- SET_LAMP (R199). -/
def execSetLamp (port : Port) (body : List Byte) (s : State) : Result :=
  .next (s.command port 0x33 4 .panel body
    (State.answerLamp (finOf 6 (operand body 0)) (overrideOf (operand body 1))))

end Sys2Proof.Machine
end

