-- ==== Sys2Proof/Machine/Views.lean ====
section
/-! DEFINITION. The entries a READ copies from their owners, as the bytes of R193 to R195 (section 10.6 and 10.7). -/

namespace Sys2Proof.Machine

open Sys2Proof

/-- A presence byte and the item's bytes, `n` bytes of 0 where it is absent (R189). -/
def optional {α : Type} (n : Nat) (f : α → List Byte) : Option α → List Byte
  | none => 0 :: List.replicate n 0
  | some x => 1 :: f x

/-- One byte of an optional item. -/
def optByte (x : Option Byte) : List Byte := optional 1 (fun b => [b]) x

/-- A stamp's four bytes. -/
def stampBytes (x : Stamp) : List Byte := be32 x.toNat

/-! ### Enumerations of the views (R195) -/

/-- Start cause. -/
def startByte : StartCause → Byte
  | .power => 0
  | .line => 1
  | .restart => 2

/-- Clock Input state. -/
def clockSourceByte : ClockSource → Byte
  | .locked => 0
  | .holdover => 1

/-- Edit claim: 0 free. -/
def claimByte : Option Port → Byte
  | none => 0
  | some .a => 1
  | some .b => 2
  | some .p => 3

/-- Link state. -/
def linkByte : LinkState → Byte
  | .absent => 0
  | .acquiring => 1
  | .locked => 2

/-- Health state. -/
def healthByte : HealthState → Byte
  | .offline => 0
  | .recovering => 1
  | .healthy => 2
  | .suspect => 3
  | .failed => 4

/-- Alignment state. -/
def alignByte : AlignState → Byte
  | .none => 0
  | .confirming => 1
  | .accepted => 2
  | .outOfReach => 3
  | .held => 4

/-- Arbiter state. -/
def arbByte : ArbState → Byte
  | .stopped => 0
  | .steady => 1
  | .changing => 2
  | .blind => 3

/-- Arbiter mode. -/
def modeByte : Mode → Byte
  | .manual => 0
  | .auto => 1

/-- Changeover cause (R194). -/
def causeByte : Cause → Byte
  | .autoFailure => 0
  | .handover => 1
  | .take => 2
  | .forcedTake => 3
  | .lateFailover => 4
  | .reversal => 5

/-- Changeover outcome (R194). -/
def endingByte : Ending → Byte
  | .inFlight => 0
  | .completed => 1
  | .reversed => 2
  | .aborted => 3

/-- Show Clock state. -/
def showByte : ShowState → Byte
  | .idle => 0
  | .running => 1
  | .slewing => 2
  | .freewheel => 3
  | .held => 4

/-- Self flags (R190). -/
def selfByte (f : SelfFlags) : Byte :=
  bit f.engineFault ||| (bit f.mediaFault <<< 1) ||| (bit f.handoverRequest <<< 2)

/-- A timecode with its flags. -/
def tcBytes (x : Timecode × TcFlags) : List Byte := writeTimecode x.1 ++ [tcFlagsByte x.2]

/-! ### The views -/

/-- Device Status (R195, R200, R173). -/
def State.deviceEntry (s : State) : List Byte :=
  [startByte s.device.cause, byte s.device.restarts, clockSourceByte s.clock.source] ++ stampBytes s.clock.count ++
    [bit (!s.frontEditable), claimByte s.bank.claim] ++
    optional 2 (fun e => [timingByte e.timing, bit e.due]) s.bank.exchange

/-- The record's part of a Rig Status entry (R195). -/
def rigRecordBytes (x : RigRecord) : List Byte :=
  [x.sequence, transportByte x.transport, x.song, x.sectionByte, selfByte x.flags] ++ stampBytes x.position ++
    be16 x.user.toNat ++ stampBytes x.stamp ++ optional 4 stampBytes x.anchor ++ be16 x.received.toNat

/-- Rig Status (R19, R37, R195). -/
def State.rigEntry (s : State) (r : Rig) : List Byte :=
  let l := s.links.get r
  let p := s.parsers.get r
  [linkByte l.state, byte l.store.length] ++ be16 l.slips.toNat ++ l.laneErrors.list.flatMap (fun n => be16 n.toNat) ++
    optional 22 rigRecordBytes p.record ++ optional 2 be16 p.age ++ be16 p.valid.toNat ++ be16 p.rejected.toNat

/-- The standing of a kind (R60). -/
def State.standing (s : State) (r : Rig) (i : Fin 11) : Byte :=
  if (s.health.get r).state = .offline then 2
  else if enabledIn s.bank.front.fault i then 0
  else 1

/-- A place of the guard part of a Health entry (R195). A channel that no tick end has decided since the record of decisions
began shows clear marks, one that was watched at the last tick end the decision of that tick end: DESIGN CHOICE (log 25). -/
def guardPlace (i : Fin 64) (d : Option GuardDecision) : List Byte :=
  match d with
  | none => [byte i.val, 0, 0]
  | some d => [byte i.val, bit d.silent, bit d.steady]

/-- Health (R60, R195). -/
def State.healthEntry (s : State) (r : Rig) : List Byte :=
  let h := s.health.get r
  let g := s.guards.get r
  let kinds := List.finRange 11
  let watched := s.watched
  [healthByte h.state] ++ be16 h.restore ++ [byte h.failures] ++ be16 (kindsNat h.history) ++
    be16 (kindsNat (s.qualified r)) ++ be16 (kindsNat ((s.conditions r).union h.events)) ++ be16 (kindsNat h.flags) ++
    kinds.map (fun i => byte (h.counters.get i)) ++ kinds.map (s.standing r) ++ [byte watched.length] ++
    watched.flatMap fun i => guardPlace i (g.decisions.find? fun d => d.entry == i)

/-- Alignment (R78, R195). -/
def State.alignmentEntry (s : State) : List Byte :=
  let x := s.alignment
  [alignByte x.state, rigByte s.arbiter.reference, rigByte s.arbiter.standby] ++ be16 s.lines.a.delay ++
    be16 s.lines.b.delay ++ optional 5 (fun c => be32s c.offset ++ [byte c.count]) x.candidate ++
    optional 4 be32s x.accepted ++ [byte x.pairless, byte x.holdAge] ++
    optional 3 (fun d => [rigByte d.link] ++ be16 d.delay) x.deferred ++
    optional 9 (fun d => be64s d ++ [bit (!inReach d)]) x.lastRequired ++
    optional 9 (fun m => be32s m.offset ++ stampBytes m.instant ++ [rigByte m.rig]) x.lastMeasurement ++
    [bit s.eligibleNow]

/-- Arbiter (R104, R195). -/
def State.arbiterEntry (s : State) : List Byte :=
  let x := s.arbiter
  [arbByte x.state, modeByte x.mode, bit x.inhibit, rigByte? x.onAir] ++ optByte (x.outgoing.map rigByte) ++
    [x.song, bit s.autoPermitted, bit x.eligible, byte x.history.length] ++ be16 x.nextSequence.toNat

/-- Group State (R124, R194). -/
def State.groupEntry (s : State) (i : Fin 8) : List Byte :=
  let g := s.mixer.groups.get i
  let e := s.bank.front.group.get i
  [groupModeByte g.mode, bit g.oneSong, groupModeByte g.base, sourceByte g.current] ++
    optional 6 (fun t => [sourceByte t.src, sourceByte t.dst] ++ be16 t.k ++ be16 t.n) g.transition ++
    [sourceByte g.target, bit g.waiting] ++ be16 e.fadeLength ++ [policyByte e.policy]

/-- Clock Status (R144, R195). -/
def State.clockEntry (s : State) : List Byte :=
  let c := s.showClock
  [showByte c.state] ++ optional 4 stampBytes c.anchor ++ optional 4 stampBytes c.target ++
    optional 4 be32s c.lastError ++ optByte c.song ++ optional 2 be16 c.slewCounter ++
    optByte (c.freewheelCounter.map byte) ++ optional 5 tcBytes s.shown ++
    [tcFlagsByte { noTcFlags with jumped := c.jumped, songChanged := c.songChanged }] ++
    optional 5 tcBytes c.lastEmitted ++ [bit s.tcOutput.waiting.isSome] ++ writeControl c.control

/-- The fields of a changeover history entry (R194). -/
def historyBytes (e : HistoryEntry) : List Byte :=
  be16 e.sequence.toNat ++ stampBytes e.stamp ++ optional 4 writeTimecode e.timecode ++
    [rigByte e.fromRig, rigByte e.toRig, causeByte e.cause, endingByte e.ending] ++ be16 (kindsNat e.failing)

/-- Changeover History, index 0 the newest (R102, R194). -/
def State.historyAt (s : State) (i : Nat) : List Byte := optional 17 historyBytes s.arbiter.history.reverse[i]?

/-- Matcher Status (R158, R195). -/
def State.matcherEntry (s : State) (i : Fin 8) : List Byte :=
  let m := s.matchers.get i
  let e := s.bank.front.matcher.get i
  [bit m.matched, byte m.fires] ++ optByte (m.lastResult.map resultByte) ++ optional 4 stampBytes m.lastStamp ++
    [matcherFlags e, matchSourceByte e.source, matchActionByte e.action]

/-- Port Notices (R188, R195). -/
def portEntry (c : ControlPort) : List Byte :=
  be16 (noticesNat c.notices) ++ be16 (noticesNat c.mask) ++ [bit c.attention, resultByte c.lastResult]

/-- Entry `i` of a table of `n` entries. -/
def entryOf {α : Type} (n : Nat) (t : Table n α) (f : α → List Byte) (i : Nat) : List Byte :=
  if h : i < n then f (t.get ⟨i, h⟩) else []

/-- Entry `i` of a banked table of a bank (R193). -/
def Bank.entry (b : Bank) : BankedTable → Nat → List Byte
  | .route, i => entryOf 64 b.route writeRoute i
  | .group, i => entryOf 8 b.group writeGroup i
  | .song, i => entryOf 256 b.song writeSong i
  | .matcher, i => entryOf 8 b.matcher writeMatcher i
  | .faultPolicy, i => entryOf 11 b.fault writeFault i
  | .monitorPolicy, _ => writeMonitor b.monitor

/-- Entry `i` of an eight-entry view. -/
def eight (f : Fin 8 → List Byte) (i : Nat) : List Byte := if h : i < 8 then f ⟨i, h⟩ else []

/-- Entry `i` of the table of an id, as port `q` reads it and before the fill of R189 (R188). -/
def State.viewEntry (s : State) (q : Port) (id : Byte) (i : Nat) : List Byte :=
  match id.toNat with
  | 0 => s.deviceEntry
  | 1 => s.rigEntry (if i = 0 then .a else .b)
  | 2 => s.healthEntry (if i = 0 then .a else .b)
  | 3 => s.alignmentEntry
  | 4 => s.arbiterEntry
  | 5 => eight s.groupEntry i
  | 6 => s.clockEntry
  | 7 => s.historyAt i
  | 8 => eight s.matcherEntry i
  | 9 => portEntry (s.ports.get (if i = 0 then .a else if i = 1 then .b else .p))
  | 16 => s.editable.entry .route i
  | 17 => s.editable.entry .group i
  | 18 => s.editable.entry .song i
  | 19 => s.editable.entry .matcher i
  | 20 => s.editable.entry .faultPolicy i
  | 21 => s.editable.entry .monitorPolicy i
  | 24 => writeSetup s.bank.setup
  | 25 => writeControl s.showClock.control
  | 26 => entryOf 8 s.lamps.patterns (fun x => be16 x.toNat) i
  | 27 => be16 (noticesNat (s.ports.get q).mask)
  | 48 => s.bank.front.entry .route i
  | 49 => s.bank.front.entry .group i
  | 50 => s.bank.front.entry .song i
  | 51 => s.bank.front.entry .matcher i
  | 52 => s.bank.front.entry .faultPolicy i
  | 53 => s.bank.front.entry .monitorPolicy i
  | _ => []

/-- The whole entry, filled with 0 to its length (R188, R189). -/
def State.entryBytes (s : State) (q : Port) (id : Byte) (i : Nat) : List Byte :=
  match tableShape id with
  | none => []
  | some (_, len) => padTo len (s.viewEntry q id i)

end Sys2Proof.Machine
end

