-- ==== Sys2Proof/Machine/PortCommands.lean ====
section
/-! DEFINITION. The Control Ports' own commands: PORT_SELECT, READ, FRAMING, UNKNOWN, a WRITE to a table that is not
written, ACK and the notice mask (chapter 10). -/

namespace Sys2Proof.Machine

open Sys2Proof

/-! ### READ (R176, R177) -/

/-- R176: the judgement of a READ's request, its four bytes after the command byte. -/
def readRefused (id first count check : Byte) : Option ResultCode :=
  if !checkOk [0x01, id, first, count, check] then some .checkFailed
  else
    match tableShape id with
    | none => some .invalid
    | some (entries, _) =>
      if count = 0 then some .invalid
      else if entries < first.toNat + count.toNat then some .badIndex
      else none

/-- R176: the answer that begins once byte 4 is complete. -/
def readAnswer (id first count check : Byte) : Stream :=
  match readRefused id first count check with
  | some r => { result := r, id, next := 0, left := 0, copy := [], check := 0, phase := .answer }
  | none =>
    { result := .done, id, next := first.toNat, left := count.toNat, copy := [], check := 0, phase := .answer }

/-- R176, R177: the byte a READ's answer shifts out next, and the answer after it. An entry is copied whole at its first
byte. After the answer check byte 0x00 is shifted out (R175). -/
def State.nextByte (s : State) (q : Port) (x : Stream) : Byte × Stream :=
  match x.phase with
  | .answer => (resultByte x.result, { x with check := resultByte x.result, phase := .entries })
  | .entries =>
    match x.copy with
    | b :: rest => (b, { x with copy := rest, check := x.check ^^^ b })
    | [] =>
      if x.left = 0 then (x.check, { x with phase := .finished })
      else
        match s.entryBytes q x.id x.next with
        | b :: rest =>
          (b, { x with next := x.next + 1, left := x.left - 1, copy := rest, check := x.check ^^^ b })
        | [] => (0, { x with next := x.next + 1, left := x.left - 1 })
  | .finished => (0, x)

/-- R174: the state of a READ once a byte of its request has been taken. -/
def receive (bytes : List Byte) : TxState :=
  match bytes with
  | [id, first, count, check] => .streaming (readAnswer id first count check)
  | _ => .receiving bytes

/-- One byte shifted on a port whose command byte is READ's. -/
def State.shiftByte (s : State) (q : Port) (b : Byte) : State :=
  let c := s.ports.get q
  match c.tx with
  | .idle => s
  | .command => s
  | .receiving bytes => s.setPort q { c with tx := receive (bytes ++ [b]), dataOut := c.dataOut ++ [0] }
  | .streaming x =>
    s.setPort q { c with tx := .streaming (s.nextByte q x).2, dataOut := c.dataOut ++ [(s.nextByte q x).1] }

/-- R174: READ's command byte is complete, so later bytes are its request. -/
def State.openRead (s : State) (q : Port) : State :=
  match (s.ports.get q).tx with
  | .idle => let t := s.select q; t.setPort q { t.ports.get q with tx := .receiving [] }
  | .command => s.setPort q { s.ports.get q with tx := .receiving [] }
  | .receiving _ => s
  | .streaming _ => s

/-- READ (R176, R177): bytes shifted, or the deselect. -/
def execRead (port : Port) (part : ReadPart) (s : State) : Result :=
  match part with
  | .shift bytes => .next (bytes.foldl (fun s b => s.shiftByte port b) (s.prepare.openRead port))
  | .deselect => .next (s.prepare.endRead port)

/-! ### The others -/

/-- PORT_SELECT (R175): select is asserted on a port that is IDLE. -/
def execPortSelect (port : Port) (s : State) : Result :=
  .next (match (s.ports.get port).tx with
    | .idle => s.prepare.select port
    | .command => s.prepare
    | .receiving _ => s.prepare
    | .streaming _ => s.prepare)

/-- R174, R175, R176: whole bytes shifted on a selected port, whatever the transaction has reached. While the command byte is
awaited the first of them is it. -/
def State.shiftWhole (s : State) (q : Port) (bytes : List Byte) : State :=
  match (s.ports.get q).tx, bytes with
  | .idle, _ => s
  | .command, [] => s
  | .command, code :: rest =>
    if code = 0x01 then rest.foldl (fun s b => s.shiftByte q b) (s.openRead q) else s.shiftZeros q rest.length
  | .receiving _, bytes => bytes.foldl (fun s b => s.shiftByte q b) s
  | .streaming _, bytes => bytes.foldl (fun s b => s.shiftByte q b) s

/-- FRAMING (R174): the deselect falls within a byte, whatever the transaction has reached. -/
def execFraming (port : Port) (cut : Cut) (s : State) : Result :=
  .next (if 1 ≤ cut.bits ∧ cut.bits ≤ 7 then
    let s := s.prepare
    let s := if (s.ports.get port).tx = .idle then s.select port else s
    (s.shiftWhole port cut.bytes).deselect port .framing
  else s)

/-- UNKNOWN (R178): the command byte is none of the codes; later bytes are ignored. -/
def execUnknown (port : Port) (code : Byte) (body : List Byte) (s : State) : Result :=
  .next (if definedCodes.contains code then s
    else s.transact port body.length (fun _ => some .unknown) (fun s => (s, .unknown)))

/-- WRITE (R178, R179): a WRITE that names no table, a read-only table, or that is too short to name one. -/
def execWrite (port : Port) (body : List Byte) (s : State) : Result :=
  .next (if (Instr.write port body).wellFormed then
      s.writeCommand port body (fun _ s => (s, .denied))
    else s)

/-- R186: the notices of one set leave a port's notice set. -/
def ControlPort.acknowledge (c : ControlPort) (x : NoticeSet) : ControlPort :=
  { c with notices := Table.tab fun i => c.notices.get i && !x.get i }

/-- R186: the port's answer to ACK. -/
def State.answerAck (q : Port) (x : Option NoticeSet) (s : State) : Answer :=
  match x with
  | none => (s, .invalid)
  | some x => (s.setPort q ((s.ports.get q).acknowledge x), .done)

/-- R185: the port's answer to a WRITE to its notice mask. -/
def State.answerMask (q : Port) (w : WriteRequest) (s : State) : Answer :=
  match w.entries 2 readNotices with
  | some [m] => (s.setPort q { s.ports.get q with mask := m }, .done)
  | _ => (s, .invalid)

/-- ACK (R186). -/
def execAck (port : Port) (body : List Byte) (s : State) : Result :=
  .next (s.command port 0x30 4 .everyPort body
    (State.answerAck port (readNotices [operand body 0, operand body 1])))

/-- WRITE_NOTICE_MASK (R185): a WRITE naming id 27. -/
def execWriteNoticeMask (port : Port) (body : List Byte) (s : State) : Result :=
  .next (s.writeCommand port (27 :: body) (State.answerMask port))

end Sys2Proof.Machine
end

