-- ==== Sys2Proof/Machine/RigEvents.lean ====
section
/-! DEFINITION. The meanings of the commands of the Beacon Parsers, the Health Qualifiers and the Alignment Monitor that
are the part's own events (chapters 2 to 4). -/

namespace Sys2Proof.Machine

open Sys2Proof

/-- BEACON_COMPLETE (R26). -/
def execBeaconComplete (rig : Rig) (order : List BeaconReader) (s : State) : Result :=
  .next (s.prepare.judgeBeacon rig order)

/-- MISSING_PRESENT (R34). -/
def execMissingPresent (rig : Rig) (s : State) : Result := .next (s.prepare.takeMissingPresent rig)

/-- HEALTH_TICK_END (R39). -/
def execHealthTickEnd (first : Rig) (s : State) : Result := .next (s.prepare.takeTickEnd first)

/-- QUALIFICATION (R46). -/
def execQualification (rig : Rig) (s : State) : Result := .next (s.takeQualification rig)

/-- RESTORE_COMPLETE (R54). -/
def execRestoreComplete (rig : Rig) (s : State) : Result := .next (s.takeRestoreComplete rig)

/-- OFFSET_ACCEPTANCE (R70). -/
def execOffsetAcceptance (s : State) : Result := .next s.takeAcceptance

/-- ALIGNMENT_HELD (R72). -/
def execAlignmentHeld (s : State) : Result := .next s.takeAlignmentHeld

/-- HOLD_LIMIT (R73). -/
def execHoldLimit (s : State) : Result := .next s.takeHoldLimit

end Sys2Proof.Machine
end

