-- ==== Sys2Proof/Machine/Dispatch.lean ====
section
/-! DEFINITION. exec: each command of the table and its one meaning. -/

namespace Sys2Proof.Machine

open Sys2Proof

def exec (i : Instr) (s : State) : Host.Outcome State Fault Refusal :=
  match i with
  | .fullReset cause => Sys2Proof.Machine.execFullReset cause s
  | .restart port body => Sys2Proof.Machine.execRestart port body s
  | .houseClockEdge dt => Sys2Proof.Machine.execHouseClockEdge dt s
  | .substitutedIncrement => Sys2Proof.Machine.execSubstitutedIncrement s
  | .holdoverIncrement => Sys2Proof.Machine.execHoldoverIncrement s
  | .clockLoss => Sys2Proof.Machine.execClockLoss s
  | .returnCounterTimeout => Sys2Proof.Machine.execReturnCounterTimeout s
  | .clockReturn => Sys2Proof.Machine.execClockReturn s
  | .laneFrameMarker dt link lane complete => Sys2Proof.Machine.execLaneFrameMarker dt link lane complete s
  | .frameArrival dt link lanes => Sys2Proof.Machine.execFrameArrival dt link lanes s
  | .missingFrame link => Sys2Proof.Machine.execMissingFrame link s
  | .lockGained link => Sys2Proof.Machine.execLockGained link s
  | .lockLost link => Sys2Proof.Machine.execLockLost link s
  | .linkAbsent link => Sys2Proof.Machine.execLinkAbsent link s
  | .beaconComplete rig order => Sys2Proof.Machine.execBeaconComplete rig order s
  | .missingPresent rig => Sys2Proof.Machine.execMissingPresent rig s
  | .healthTickEnd first => Sys2Proof.Machine.execHealthTickEnd first s
  | .qualification rig => Sys2Proof.Machine.execQualification rig s
  | .restoreComplete rig => Sys2Proof.Machine.execRestoreComplete rig s
  | .clearHistory port body => Sys2Proof.Machine.execClearHistory port body s
  | .offsetAcceptance => Sys2Proof.Machine.execOffsetAcceptance s
  | .alignmentHeld => Sys2Proof.Machine.execAlignmentHeld s
  | .holdLimit => Sys2Proof.Machine.execHoldLimit s
  | .start port body => Sys2Proof.Machine.execStart port body s
  | .stop port body => Sys2Proof.Machine.execStop port body s
  | .take port body => Sys2Proof.Machine.execTake port body s
  | .setMode port body => Sys2Proof.Machine.execSetMode port body s
  | .transitionComplete group => Sys2Proof.Machine.execTransitionComplete group s
  | .setGroup port body => Sys2Proof.Machine.execSetGroup port body s
  | .writeGroupState port body => Sys2Proof.Machine.execWriteGroupState port body s
  | .slewStep => Sys2Proof.Machine.execSlewStep s
  | .freewheelLimit => Sys2Proof.Machine.execFreewheelLimit s
  | .frameBoundary => Sys2Proof.Machine.execFrameBoundary s
  | .heldRecord => Sys2Proof.Machine.execHeldRecord s
  | .recordSendEnd => Sys2Proof.Machine.execRecordSendEnd s
  | .writeClockControl port body => Sys2Proof.Machine.execWriteClockControl port body s
  | .clockFinish port body => Sys2Proof.Machine.execClockFinish port body s
  | .writeBankedTable port table body => Sys2Proof.Machine.execWriteBankedTable port table body s
  | .writeShowSetup port body => Sys2Proof.Machine.execWriteShowSetup port body s
  | .releaseClaim port body => Sys2Proof.Machine.execReleaseClaim port body s
  | .copyBank port body => Sys2Proof.Machine.execCopyBank port body s
  | .exchange port body => Sys2Proof.Machine.execExchange port body s
  | .cancelExchange port body => Sys2Proof.Machine.execCancelExchange port body s
  | .portSelect port => Sys2Proof.Machine.execPortSelect port s
  | .read port part => Sys2Proof.Machine.execRead port part s
  | .write port body => Sys2Proof.Machine.execWrite port body s
  | .framing port cut => Sys2Proof.Machine.execFraming port cut s
  | .unknown port code body => Sys2Proof.Machine.execUnknown port code body s
  | .ack port body => Sys2Proof.Machine.execAck port body s
  | .writeNoticeMask port body => Sys2Proof.Machine.execWriteNoticeMask port body s
  | .lampStepBoundary => Sys2Proof.Machine.execLampStepBoundary s
  | .writeLampPatterns port body => Sys2Proof.Machine.execWriteLampPatterns port body s
  | .setLamp port body => Sys2Proof.Machine.execSetLamp port body s

end Sys2Proof.Machine
end

