-- ==== Sys2Proof/Safety.lean ====
section
/-! DEFINITION. What counts as a safe run: the invariants that every step keeps, what a command may touch, and when
nothing stands due. -/

namespace Sys2Proof.Machine

open Sys2Proof

/-! ### Frames -/

/-- The parts of State, one for each block; a Health Qualifier's with what it keeps of the present instant. -/
inductive Block where
  | clock | links | parsers | guards | health | lines | alignment | arbiter | mixer
  | showClock | tcOutput | matchers | bank | ports | lamps | device | tickDue | pending
deriving DecidableEq, Repr

/-- Two states agree on a block. -/
def Block.same (s t : State) : Block → Prop
  | .clock => t.clock = s.clock
  | .links => t.links = s.links
  | .parsers => t.parsers = s.parsers
  | .guards => t.guards = s.guards
  | .health => t.health = s.health ∧ t.instantHealth = s.instantHealth
  | .lines => t.lines = s.lines
  | .alignment => t.alignment = s.alignment
  | .arbiter => t.arbiter = s.arbiter
  | .mixer => t.mixer = s.mixer
  | .showClock => t.showClock = s.showClock
  | .tcOutput => t.tcOutput = s.tcOutput
  | .matchers => t.matchers = s.matchers
  | .bank => t.bank = s.bank
  | .ports => t.ports = s.ports
  | .lamps => t.lamps = s.lamps
  | .device => t.device = s.device
  | .tickDue => t.tickDue = s.tickDue
  | .pending => t.pending = s.pending

/-- Every block outside the list is as it was. -/
def Touches (bs : List Block) (s t : State) : Prop := ∀ b, b ∉ bs → b.same s t

/-- What the arbiter's own transitions can touch (R83). -/
abbrev changeBlocks : List Block := [.lines, .alignment, .arbiter, .mixer, .showClock, .tcOutput, .ports]

/-- What evidence, with everything that follows from it at its instant, can touch. -/
abbrev eventBlocks : List Block :=
  [.parsers, .guards, .health, .lines, .alignment, .arbiter, .mixer, .showClock, .tcOutput, .matchers, .bank, .ports]

/-- What an accepted beacon can touch: a matcher can set a lamp too. -/
abbrev beaconBlocks : List Block :=
  [.parsers, .guards, .health, .lines, .alignment, .arbiter, .mixer, .showClock, .tcOutput, .matchers, .bank, .ports,
    .lamps]

/-- What the taking of everything due can touch. -/
abbrev dueBlocks : List Block :=
  [.links, .parsers, .guards, .health, .lines, .alignment, .arbiter, .mixer, .showClock, .tcOutput, .matchers, .bank,
    .ports, .lamps, .tickDue]

/-- What the passing of time can touch. -/
abbrev timeBlocks : List Block :=
  [.clock, .links, .parsers, .guards, .health, .lines, .alignment, .arbiter, .mixer, .showClock, .tcOutput, .matchers,
    .bank, .ports, .lamps, .tickDue]

/-! ### Nothing stands due -/

/-- The return of the clock stands due (R7). -/
def State.returnDue (s : State) : Bool :=
  s.clock.source == .holdover && decide (Config.returnPeriods ≤ s.clock.returnCounter)

/-- A consequence of a rig or its link stands due (R11, R12, R46, R54), or a settled state of it stands to be handed on
(R55), or something is left to be taken of what a restart of the monitors would leave of it (R45). -/
def State.rigDue (s : State) (r : Rig) : Bool :=
  let l := s.links.get r
  let h := s.health.get r
  (l.state == .locked && decide (2 ≤ l.badFrames)) ||
    (l.state == .acquiring && decide (Config.lockFrames ≤ l.acquisition)) ||
    h.qualifying.nonempty ||
    (h.state == .recovering && decide (s.restoreTime ≤ h.restore)) ||
    (!s.unsettled r && h.state != s.handed r) || (s.unguardedHealth r).dueUnder s.restoreTime

/-- A consequence of the Alignment Monitor stands due (R70, R72, R73). -/
def Alignment.due (x : Alignment) : Bool :=
  (decide (2 ≤ x.pairless) && x.state != .none && x.state != .held) || (x.state == .held && x.limitDue) ||
    (x.candidate.isSome && x.state == .confirming && x.acceptDue)

/-- The freewheel limit stands due (R135). -/
def ShowClock.limitDue (c : ShowClock) : Bool :=
  c.state == .freewheel &&
    match c.freewheelCounter with
    | none => false
    | some n => decide (c.control.freewheelLimit ≤ n)

/-- Nothing stands due before a command is taken. -/
def State.calm (s : State) : Bool :=
  !s.returnDue && !s.rigDue .a && !s.rigDue .b && !s.alignment.due && !s.showClock.limitDue

/-- Nothing stands due of a rig or its link at the present instant (R10 to R13, R26, R34, R46, R54), and its health state is the
one last handed on (R55). -/
def State.rigQuiet (s : State) (r : Rig) : Bool :=
  let l := s.links.get r
  let p := s.parsers.get r
  !s.rigDue r && (s.health.get r).state == s.handed r && !l.lossDue && !l.absenceDue && p.judging.isNone && !s.missingDue r

/-- R136: the examination that is still to be made, if any, gives no record. -/
def State.examinationGivesNone (s : State) : Bool :=
  let c := s.showClock
  !c.examine || c.state == .idle || c.state == .held ||
    if s.elapsed < 0 then c.lastFrame != .absent else c.lastFrame == .count s.frameCount

/-- Nothing stands due at the present instant, so that it can be over: no consequence, no transition at its end (R111), no slew
step (R133), no tick end (R39), no guard decision to undo (R45), no sending at its end (R137), no record (R136) and no lamp step
(R197). -/
def State.quiet (s : State) : Bool :=
  let c := s.showClock
  s.rigQuiet .a && s.rigQuiet .b && s.instantHealth.unguarded.isNone && !s.tickDue && !s.alignment.due &&
    ((List.finRange 8).all fun i => (s.mixer.groups.get i).transition.all fun f => f.k != f.n) &&
    !(c.state == .slewing && c.slewCounter.any fun n => decide (c.control.slewRate ≤ n)) && !c.limitDue && !c.cadenceDue &&
    s.examinationGivesNone && (s.tcOutput.sending.all fun y => y.left != 0) && !s.lamps.due

/-! ### Invariants -/

/-- R80, R101, R102: no rig is on air exactly while STOPPED; the outgoing rig is the other one, exactly while CHANGING; at
most sixteen history entries, of which one is IN_FLIGHT exactly while CHANGING. -/
abbrev Arbiter.ok (x : Arbiter) : Prop :=
  (x.state = .stopped ↔ x.onAir = none) ∧
  (x.state = .changing → x.outgoing = x.onAir.map Rig.other) ∧
  (x.state ≠ .changing → x.outgoing = none) ∧
  x.history.length ≤ Config.historyLength ∧
  (x.history.filter fun e => e.ending = .inFlight).length = if x.state = .changing then 1 else 0

/-- R61, R63: a line's rings in their canonical form and its delay within 0..1023. -/
abbrev TrimLine.ok (x : TrimLine) : Prop := Rings.wf x.rings ∧ x.delay ≤ 1023

/-- R63: both lines, and the base delay that START and RESTART put into them. -/
abbrev State.linesOk (s : State) : Prop := s.lines.a.ok ∧ s.lines.b.ok ∧ s.bank.setup.baseDelay ≤ 1023

/-- R105, R118 to R120: a transition joins two different sources with 0 ≤ k ≤ N, 1 ≤ N ≤ 4095; the mode and the base mode are
never the two pin modes, and they are equal while the one-song flag is clear. -/
abbrev Group.ok (g : Group) : Prop :=
  (g.transition.all fun t => t.src != t.dst && decide (t.k ≤ t.n) && decide (1 ≤ t.n) && decide (t.n ≤ 4095)) = true ∧
  ¬ (g.mode = .pinA ∧ g.base = .pinB) ∧ ¬ (g.mode = .pinB ∧ g.base = .pinA) ∧
  (g.oneSong = false → g.mode = g.base)

/-- R105, R160: every group's record, and the fade lengths of both banks. -/
abbrev State.groupsOk (s : State) : Prop :=
  (∀ i, (s.mixer.groups.get i).ok) ∧
  (∀ i, (s.bank.front.group.get i).fadeLength ≤ 4095) ∧ (∀ i, (s.bank.back.group.get i).fadeLength ≤ 4095)

/-- R67, R68: an accepted offset is held in ACCEPTED, HELD and OUT_OF_REACH, and in ACCEPTED and HELD the delays differ by it
unless the arbiter is CHANGING. -/
abbrev State.aligned (s : State) : Prop :=
  (s.alignment.state = .accepted ∨ s.alignment.state = .held ∨ s.alignment.state = .outOfReach →
    s.alignment.accepted.isSome = true) ∧
  (s.alignment.state = .accepted ∨ s.alignment.state = .held → s.arbiter.state ≠ .changing →
    ((s.lines.a.delay : Int) - s.lines.b.delay = s.alignment.accepted.getD 0))

/-! ### A changed FRONT bank as the statements see it -/

/-- R41, with R50, R52 to R54: a rig's health `h` has taken the Fault Policy `f` in place of `old` and stands as `g`. A kind
appears where it has become enabled with its flag set; it qualifies where it now meets the test of the qualified set and did
not before. -/
def PolicyTaken (old f : Table 11 FaultEntry) (h g : Health) : Prop :=
  let appears := fun i => (old.get i).enabled = false ∧ (f.get i).enabled = true ∧ h.flags.get i = true
  let qualifies := fun i => (h.qualifiedUnder old).get i = false ∧ (f.get i).enabled = true ∧
    (if (f.get i).delay = 0 then h.flags.get i = true else (f.get i).delay ≤ h.counters.get i)
  let relapses := h.state = .recovering ∧ ∃ i, appears i ∨ qualifies i
  let fails := (h.state = .healthy ∨ h.state = .suspect) ∧ ∃ i, qualifies i
  (h.state = .offline → g = h) ∧
  (h.state ≠ .offline → g.flags = h.flags ∧
    (relapses → g.state = .failed ∧ g.restore = 0 ∧ g.failures = min 255 (h.failures + 1) ∧
      ∀ i, appears i ∨ qualifies i → g.counters.get i = (f.get i).delay ∧ g.history.get i = true) ∧
    (¬ relapses → g.restore = h.restore ∧
      (h.relapsed = false → ∀ i, g.counters.get i = min (h.counters.get i) (f.get i).delay)) ∧
    (fails → g.state = .failed ∧ g.failures = min 255 (h.failures + 1) ∧
      ∀ i, g.history.get i = true ↔ h.history.get i = true ∨ qualifies i) ∧
    (¬ relapses → ¬ fails → g.failures = h.failures ∧
      (h.state ≠ .failed → g.history = h.history) ∧
      (h.state = .healthy → (∃ i, appears i) → g.state = .suspect) ∧
      (h.state ≠ .healthy ∨ (∀ i, ¬ appears i) → g.state = h.state) ∧
      (h.state = .failed → h.relapsed = false → ∀ i, g.history.get i = true ↔ h.history.get i = true ∨ qualifies i)))

/-- R54, R58: a rig's health `h` has taken a restore time and stands as `g`. -/
def RestoreTaken (time : Nat) (h g : Health) : Prop :=
  (h.state = .recovering → time ≤ h.restore → g = { h with state := .healthy, restore := time }) ∧
  (h.state ≠ .recovering ∨ h.restore < time → g = { h with restore := min h.restore time })

/-! ### The entries of a table as the statements see them: byte `k` of an entry is `e k` -/

/-- Two bytes, high byte first (R189). -/
def word16 (e : Nat → Byte) (k : Nat) : BitVec 16 := e k ++ e (k + 1)

/-- Four bytes, high byte first (R189). -/
def word32 (e : Nat → Byte) (k : Nat) : BitVec 32 := e k ++ e (k + 1) ++ e (k + 2) ++ e (k + 3)

/-- Eight bytes, high byte first (R189). -/
def word64 (e : Nat → Byte) (k : Nat) : BitVec 64 := word32 e k ++ word32 e (k + 4)

/-- R160: the entry carries a value that its table refuses. -/
def EntryRefused : BankedTable → (Nat → Byte) → Prop
  | .route, e => 2 ≤ (e 0).toNat ∨ 2 ≤ (e 1).toNat ∨ 64 ≤ (e 2).toNat ∨ 64 ≤ (e 3).toNat ∨ 8 ≤ (e 4).toNat
  | .group, e => 2 ≤ (e 2).toNat
  | .song, e => 24 ≤ (e 0).toNat ∨ 60 ≤ (e 1).toNat ∨ 60 ≤ (e 2).toNat ∨ 30 ≤ (e 3).toNat ∨ 2 ≤ (e 4).toNat
  | .matcher, e => 3 ≤ (e 1).toNat ∨ 5 ≤ (e 7).toNat ∨ 6 ≤ (e 8).toNat ∨ 8 ≤ (e 9).toNat
  | .faultPolicy, e => 2 ≤ (e 0).toNat
  | .monitorPolicy, _ => False

/-- R160, R193: entry `i` of a table of the bank `c` is what the bytes say, a clamped field at the nearer end of its range. -/
def EntryHeld (c : Bank) (i : Nat) : BankedTable → (Nat → Byte) → Prop
  | .route, e => ∃ j : Fin 64, j.val = i ∧
    let x := c.route.get j
    (x.enable = true ↔ e 0 = 1) ∧ (x.guardFlag = true ↔ e 1 = 1) ∧ x.slotA.val = (e 2).toNat ∧ x.slotB.val = (e 3).toNat ∧
    x.group.val = (e 4).toNat
  | .group, e => ∃ j : Fin 8, j.val = i ∧
    let x := c.group.get j
    x.fadeLength = min 4095 (word16 e 0).toNat ∧ (x.policy = .fadeOut ↔ e 2 = 1)
  | .song, e => ∃ j : Fin 256, j.val = i ∧
    let x := c.song.get j
    x.start = { h := (e 0).toNat, m := (e 1).toNat, s := (e 2).toNat, fr := (e 3).toNat } ∧ (x.auto = true ↔ e 4 = 1)
  | .matcher, e => ∃ j : Fin 8, j.val = i ∧
    let x := c.matcher.get j
    x.enable = (e 0).getLsbD 0 ∧ x.chain = (e 0).getLsbD 1 ∧ x.edge = (e 0).getLsbD 2 ∧
    (match x.source with | .onAir => 0 | .rigA => 1 | .rigB => 2) = e 1 ∧
    (∀ n : Fin 14, x.mask.getLsbD n.val = (word16 e 2).getLsbD n.val) ∧ x.crc = word16 e 4 ∧ x.lastByte = e 6 ∧
    (match x.action with | .notice => 0 | .exchange => 1 | .inhibitOn => 2 | .inhibitOff => 3 | .lamp => 4) = e 7 ∧
    x.lamp.val = (e 8).toNat ∧ x.pattern.val = (e 9).toNat
  | .faultPolicy, e => ∃ j : Fin 11, j.val = i ∧
    let x := c.fault.get j
    (x.enabled = true ↔ e 0 = 1) ∧ x.delay = (e 1).toNat
  | .monitorPolicy, e =>
    c.monitor = {
      positionTolerance := (e 0).toNat, silenceExponent := max 4 (min 20 (e 1).toNat), tolerance := min 15 (e 2).toNat
      confirm := max 1 (min 15 (e 3).toNat), holdLimit := (e 4).toNat, restoreTime := min 4095 (word16 e 5).toNat }

/-- R164: two banks are the same but for the entries `first` to `first + count - 1` of one table. -/
def SameOutside (b c : Bank) (first count : Nat) : BankedTable → Prop
  | .route => c = { b with route := c.route } ∧
    ∀ j, j.val < first ∨ first + count ≤ j.val → c.route.get j = b.route.get j
  | .group => c = { b with group := c.group } ∧
    ∀ j, j.val < first ∨ first + count ≤ j.val → c.group.get j = b.group.get j
  | .song => c = { b with song := c.song } ∧
    ∀ j, j.val < first ∨ first + count ≤ j.val → c.song.get j = b.song.get j
  | .matcher => c = { b with matcher := c.matcher } ∧
    ∀ j, j.val < first ∨ first + count ≤ j.val → c.matcher.get j = b.matcher.get j
  | .faultPolicy => c = { b with fault := c.fault } ∧
    ∀ j, j.val < first ∨ first + count ≤ j.val → c.fault.get j = b.fault.get j
  | .monitorPolicy => c = { b with monitor := c.monitor }

/-- R161: the bytes of a Show Setup entry carry a refused value. -/
def SetupRefused (e : Nat → Byte) : Prop :=
  2 ≤ (e 0).toNat ∨ 4 ≤ (e 1).toNat ∨ 3 ≤ (e 2).toNat ∨ 64 ≤ (e 3).toNat ∨ 64 ≤ (e 4).toNat ∨ 2 ≤ (e 7).toNat ∨ 2 ≤ (e 8).toNat

/-- R161, R193: a Show Setup is what the bytes say, the base delay clamped. -/
def SetupHeld (u : ShowSetup) (e : Nat → Byte) : Prop :=
  let rights : Rights → Byte := fun x => match x with | .none => 0 | .operate => 1
  (match u.rate with | .r48k => 0 | .r96k => 1) = e 0 ∧
  (match u.period with | .p256 => 0 | .p512 => 1 | .p1024 => 2 | .p2048 => 3) = e 1 ∧
  (match u.frameRate with | .f24 => 0 | .f25 => 1 | .f30 => 2) = e 2 ∧ u.pilot.a.val = (e 3).toNat ∧
  u.pilot.b.val = (e 4).toNat ∧ u.baseDelay = min 1023 (word16 e 5).toNat ∧ rights u.rights.a = e 7 ∧ rights u.rights.b = e 8

/-! ### The views as the statements see them (R193 to R195), each with 0 for every byte after its last item (R189) -/

/-- R189: an optional item from byte `k` on: its presence byte, then `n` bytes, 0 where it is absent. -/
def OptionShown {α : Type} (e : Nat → Byte) (k n : Nat) (x : Option α) (shows : α → Prop) : Prop :=
  (x = none → ∀ j, j ≤ n → e (k + j) = 0) ∧ ∀ y, x = some y → e k = 1 ∧ shows y

/-- R189: a set of fault kinds in two bytes, bit n for kind n. -/
def KindsShown (x : BitVec 16) (has : Fin 11 → Prop) : Prop := x.toNat < 2048 ∧ ∀ i, x.getLsbD i.val = true ↔ has i

/-- R189: a set of notices in two bytes, bit n for notice n. -/
def NoticesShown (x : BitVec 16) (n : NoticeSet) : Prop := x.toNat < 8192 ∧ ∀ i : Fin 13, x.getLsbD i.val = n.get i

/-- R196: timecode flags in a byte. -/
def FlagsShown (b : Byte) (f : TcFlags) : Prop :=
  b.toNat < 32 ∧ b.getLsbD 0 = f.preroll ∧ b.getLsbD 1 = f.jumped ∧ b.getLsbD 2 = f.songChanged ∧
  b.getLsbD 3 = f.freewheel ∧ b.getLsbD 4 = f.held

/-- The four bytes of a timecode from byte `k` on. -/
def TimecodeShown (e : Nat → Byte) (k : Nat) (t : Timecode) : Prop :=
  e k = byte t.h ∧ e (k + 1) = byte t.m ∧ e (k + 2) = byte t.s ∧ e (k + 3) = byte t.fr

/-- Id 0, Device Status (R200, R173). -/
def DeviceShown (s : State) (e : Nat → Byte) : Prop :=
  e 0 = (match s.device.cause with | .power => 0 | .line => 1 | .restart => 2) ∧ e 1 = byte s.device.restarts ∧
  e 2 = (match s.clock.source with | .locked => 0 | .holdover => 1) ∧ word32 e 3 = s.clock.count ∧
  e 7 = (if s.arbiter.state = .stopped then 0 else 1) ∧
  e 8 = (match s.bank.claim with | none => 0 | some .a => 1 | some .b => 2 | some .p => 3) ∧
  OptionShown e 9 2 s.bank.exchange (fun x =>
    e 10 = (match x.timing with | .now => 0 | .atSong => 1) ∧ e 11 = (if x.due then 1 else 0)) ∧
  ∀ k, 12 ≤ k → e k = 0

/-- The Rig Status Record in id 1, from byte 13 on (R28). -/
def RecordShown (e : Nat → Byte) (x : RigRecord) : Prop :=
  e 13 = x.sequence ∧ e 14 = (match x.transport with | .stopped => 0 | .cued => 1 | .playing => 2) ∧ e 15 = x.song ∧
  e 16 = x.sectionByte ∧
  ((e 17).toNat < 8 ∧ (e 17).getLsbD 0 = x.flags.engineFault ∧ (e 17).getLsbD 1 = x.flags.mediaFault ∧
    (e 17).getLsbD 2 = x.flags.handoverRequest) ∧
  word32 e 18 = x.position ∧ word16 e 22 = x.user ∧ word32 e 24 = x.stamp ∧
  OptionShown e 28 4 x.anchor (fun y => word32 e 29 = y) ∧ word16 e 33 = x.received

/-- Id 1, Rig Status (R19, R37). -/
def RigShown (s : State) (r : Rig) (e : Nat → Byte) : Prop :=
  let l := s.links.get r
  let p := s.parsers.get r
  e 0 = (match l.state with | .absent => 0 | .acquiring => 1 | .locked => 2) ∧ e 1 = byte l.store.length ∧
  word16 e 2 = l.slips ∧ (∀ i : Fin 4, word16 e (4 + 2 * i.val) = l.laneErrors.get i) ∧
  OptionShown e 12 22 p.record (RecordShown e) ∧
  OptionShown e 35 2 p.age (fun n => word16 e 36 = BitVec.ofNat 16 n) ∧ word16 e 38 = p.valid ∧ word16 e 40 = p.rejected ∧
  ∀ k, 42 ≤ k → e k = 0

/-- Id 2, Health (R60, with R42 and R48): a place of the guard part shows its entry and what the last tick end decided for it,
clear marks where it decided nothing (log 25). -/
def HealthShown (s : State) (r : Rig) (e : Nat → Byte) : Prop :=
  let h := s.health.get r
  let f := s.bank.front.fault
  let watched := ((List.finRange 64).filter fun i => (s.bank.front.route.get i).guardFlag).take 4
  e 0 = (match h.state with | .offline => 0 | .recovering => 1 | .healthy => 2 | .suspect => 3 | .failed => 4) ∧
  word16 e 1 = BitVec.ofNat 16 h.restore ∧ e 3 = byte h.failures ∧
  KindsShown (word16 e 4) (fun i => h.history.get i = true) ∧
  KindsShown (word16 e 6) (fun i => h.state ≠ .offline ∧ (f.get i).enabled = true ∧
    (if (f.get i).delay = 0 then h.flags.get i = true else h.counters.get i = (f.get i).delay)) ∧
  KindsShown (word16 e 8) (fun i => (s.conditions r).get i = true ∨ h.events.get i = true) ∧
  KindsShown (word16 e 10) (fun i => h.flags.get i = true) ∧
  (∀ i : Fin 11, e (12 + i.val) = byte (h.counters.get i)) ∧
  (∀ i : Fin 11, e (23 + i.val) =
    if h.state = .offline then 2 else if (f.get i).enabled then 0 else 1) ∧
  e 34 = byte watched.length ∧
  (∀ k : Fin 4, (watched[k.val]? = none → ∀ j, j < 3 → e (35 + 3 * k.val + j) = 0) ∧
    ∀ i, watched[k.val]? = some i →
      let d := (s.guards.get r).decisions.find? fun d => d.entry == i
      e (35 + 3 * k.val) = byte i.val ∧
      e (36 + 3 * k.val) = (match d with | none => 0 | some d => if d.silent then 1 else 0) ∧
      e (37 + 3 * k.val) = (match d with | none => 0 | some d => if d.steady then 1 else 0)) ∧
  ∀ k, 47 ≤ k → e k = 0

/-- Id 3, Alignment (R78, with R66, R67 and R76). -/
def AlignmentShown (s : State) (e : Nat → Byte) : Prop :=
  let x := s.alignment
  let standby := match s.arbiter.onAir with | none => Rig.b | some r => r.other
  e 0 = (match x.state with | .none => 0 | .confirming => 1 | .accepted => 2 | .outOfReach => 3 | .held => 4) ∧
  e 1 = rigByte standby.other ∧ e 2 = rigByte standby ∧ word16 e 3 = BitVec.ofNat 16 s.lines.a.delay ∧
  word16 e 5 = BitVec.ofNat 16 s.lines.b.delay ∧
  OptionShown e 7 5 x.candidate (fun c => word32 e 8 = BitVec.ofInt 32 c.offset ∧ e 12 = byte c.count) ∧
  OptionShown e 13 4 x.accepted (fun d => word32 e 14 = BitVec.ofInt 32 d) ∧ e 18 = byte x.pairless ∧
  e 19 = byte x.holdAge ∧
  OptionShown e 20 3 x.deferred (fun d => e 21 = rigByte d.link ∧ word16 e 22 = BitVec.ofNat 16 d.delay) ∧
  OptionShown e 24 9 x.lastRequired (fun d =>
    word64 e 25 = BitVec.ofInt 64 d ∧ e 33 = (if 0 ≤ d ∧ d ≤ 1023 then 0 else 1)) ∧
  OptionShown e 34 9 x.lastMeasurement (fun m =>
    word32 e 35 = BitVec.ofInt 32 m.offset ∧ word32 e 39 = m.instant ∧ e 43 = rigByte m.rig) ∧
  e 44 = (if s.handed standby = .healthy ∧ (x.state = .accepted ∨ x.state = .held) ∧
    (s.links.get standby).state = .locked then 1 else 0) ∧
  ∀ k, 45 ≤ k → e k = 0

/-- Id 4, Arbiter (R104, with R82). -/
def ArbiterShown (s : State) (e : Nat → Byte) : Prop :=
  let x := s.arbiter
  e 0 = (match x.state with | .stopped => 0 | .steady => 1 | .changing => 2 | .blind => 3) ∧
  e 1 = (match x.mode with | .manual => 0 | .auto => 1) ∧ e 2 = (if x.inhibit then 1 else 0) ∧
  e 3 = (match x.onAir with | none => 0 | some r => rigByte r) ∧
  OptionShown e 4 1 x.outgoing (fun r => e 5 = rigByte r) ∧ e 6 = x.song ∧
  e 7 = (if x.mode = .auto ∧ x.inhibit = false ∧ (s.bank.front.song.get (songIndex x.song)).auto = true then 1 else 0) ∧
  e 8 = (if x.eligible then 1 else 0) ∧ e 9 = byte x.history.length ∧ word16 e 10 = x.nextSequence ∧
  ∀ k, 12 ≤ k → e k = 0

/-- Id 5, Group State of one group (R124). -/
def GroupShown (s : State) (i : Fin 8) (e : Nat → Byte) : Prop :=
  let g := s.mixer.groups.get i
  let x := s.bank.front.group.get i
  let mode : GroupMode → Byte := fun m => match m with | .follow => 0 | .pinA => 1 | .pinB => 2 | .mute => 3
  let source : Source → Byte := fun y => match y with | .a => 0 | .b => 1 | .silent => 2
  e 0 = mode g.mode ∧ e 1 = (if g.oneSong then 1 else 0) ∧ e 2 = mode g.base ∧ e 3 = source g.current ∧
  OptionShown e 4 6 g.transition (fun f => e 5 = source f.src ∧ e 6 = source f.dst ∧ word16 e 7 = BitVec.ofNat 16 f.k ∧
    word16 e 9 = BitVec.ofNat 16 f.n) ∧
  e 11 = source g.target ∧
  e 12 = (match g.transition with | none => 0 | some f => if g.target ≠ f.src ∧ g.target ≠ f.dst then 1 else 0) ∧
  word16 e 13 = BitVec.ofNat 16 x.fadeLength ∧ e 15 = (match x.policy with | .stay => 0 | .fadeOut => 1) ∧
  ∀ k, 16 ≤ k → e k = 0

/-- Id 6, Clock Status (R144, with R126). That the shown timecode bears PREROLL or HELD and no other flag is the model's
deduction (log 19). -/
def ClockShown (s : State) (e : Nat → Byte) : Prop :=
  let c := s.showClock
  let running := if s.elapsed < 0 then (s.startOf s.clockSong, { noTcFlags with preroll := true })
    else (timecodeAt s.bank.setup.frameRate.fps (s.startOf s.clockSong) s.frameCount, noTcFlags)
  let shown : Option (Timecode × TcFlags) := match c.state with
    | .idle => none
    | .held => c.heldValue.map fun t => (t, { noTcFlags with held := true })
    | .running => some running
    | .slewing => some running
    | .freewheel => some running
  e 0 = (match c.state with | .idle => 0 | .running => 1 | .slewing => 2 | .freewheel => 3 | .held => 4) ∧
  OptionShown e 1 4 c.anchor (fun x => word32 e 2 = x) ∧ OptionShown e 6 4 c.target (fun x => word32 e 7 = x) ∧
  OptionShown e 11 4 c.lastError (fun x => word32 e 12 = BitVec.ofInt 32 x) ∧
  OptionShown e 16 1 c.song (fun x => e 17 = x) ∧
  OptionShown e 18 2 c.slewCounter (fun n => word16 e 19 = BitVec.ofNat 16 n) ∧
  OptionShown e 21 1 c.freewheelCounter (fun n => e 22 = byte n) ∧
  OptionShown e 23 5 shown (fun x => TimecodeShown e 24 x.1 ∧ FlagsShown (e 28) x.2) ∧
  FlagsShown (e 29) { noTcFlags with jumped := c.jumped, songChanged := c.songChanged } ∧
  OptionShown e 30 5 c.lastEmitted (fun x => TimecodeShown e 31 x.1 ∧ FlagsShown (e 35) x.2) ∧
  e 36 = (if s.tcOutput.waiting.isSome then 1 else 0) ∧ word16 e 37 = BitVec.ofNat 16 c.control.slewWindow ∧
  word16 e 39 = BitVec.ofNat 16 c.control.slewRate ∧ e 41 = byte c.control.freewheelLimit ∧
  ∀ k, 42 ≤ k → e k = 0

/-- Id 7, Changeover History: place `i`, the newest entry first; an empty place reads as 0 throughout (R102, R189). -/
def HistoryShown (s : State) (i : Nat) (e : Nat → Byte) : Prop :=
  OptionShown e 0 17 s.arbiter.history.reverse[i]? (fun x =>
    word16 e 1 = x.sequence ∧ word32 e 3 = x.stamp ∧ OptionShown e 7 4 x.timecode (TimecodeShown e 8) ∧
    e 12 = rigByte x.fromRig ∧ e 13 = rigByte x.toRig ∧
    e 14 = (match x.cause with
      | .autoFailure => 0 | .handover => 1 | .take => 2 | .forcedTake => 3 | .lateFailover => 4 | .reversal => 5) ∧
    e 15 = (match x.ending with | .inFlight => 0 | .completed => 1 | .reversed => 2 | .aborted => 3) ∧
    KindsShown (word16 e 16) (fun k => x.failing.get k = true)) ∧
  ∀ k, 18 ≤ k → e k = 0

/-- Id 8, Matcher Status of one matcher (R158). -/
def MatcherShown (s : State) (i : Fin 8) (e : Nat → Byte) : Prop :=
  let m := s.matchers.get i
  let x := s.bank.front.matcher.get i
  e 0 = (if m.matched then 1 else 0) ∧ e 1 = byte m.fires ∧
  OptionShown e 2 1 m.lastResult (fun r => e 3 = resultByte r) ∧
  OptionShown e 4 4 m.lastStamp (fun y => word32 e 5 = y) ∧
  ((e 9).toNat < 8 ∧ (e 9).getLsbD 0 = x.enable ∧ (e 9).getLsbD 1 = x.chain ∧ (e 9).getLsbD 2 = x.edge) ∧
  e 10 = (match x.source with | .onAir => 0 | .rigA => 1 | .rigB => 2) ∧
  e 11 = (match x.action with | .notice => 0 | .exchange => 1 | .inhibitOn => 2 | .inhibitOff => 3 | .lamp => 4) ∧
  ∀ k, 12 ≤ k → e k = 0

/-- Id 9, Port Notices of one port (R188, with R185). -/
def PortShown (c : ControlPort) (e : Nat → Byte) : Prop :=
  NoticesShown (word16 e 0) c.notices ∧ NoticesShown (word16 e 2) c.mask ∧
  (e 4 = 1 ↔ ∃ i, c.notices.get i = true ∧ c.mask.get i = false) ∧ (e 4 = 0 ∨ e 4 = 1) ∧ e 5 = resultByte c.lastResult ∧
  ∀ k, 6 ≤ k → e k = 0

/-! ### Transactions as the statements see them -/

/-- The bytes after a command byte: its operands and the check byte that belongs to them (R192). -/
def withCheck (code : Byte) (operands : List Byte) : List Byte := operands ++ [xorAll (code :: operands)]

/-- The bytes of a WRITE after its table id: first index, count, entries and check byte (R192). -/
def writeBody (id : Byte) (first count : Nat) (data : List Byte) : List Byte :=
  byte first :: byte count :: data ++ [xorAll (0x02 :: id :: byte first :: byte count :: data)]

/-- A named command (R192): its port, its code, its length, the right it asks (R181), and the bytes after its code. -/
structure NamedCommand where
  port : Port
  code : Byte
  length : Nat
  right : Right
  body : List Byte
deriving DecidableEq, Repr

/-- The fourteen named commands of R192. -/
def namedOf : Instr → Option NamedCommand
  | .start q b => some ⟨q, 0x10, 3, .panel, b⟩
  | .stop q b => some ⟨q, 0x11, 2, .panel, b⟩
  | .take q b => some ⟨q, 0x12, 4, .operate, b⟩
  | .setMode q b => some ⟨q, 0x13, 3, .panel, b⟩
  | .setGroup q b => some ⟨q, 0x14, 5, .operate, b⟩
  | .exchange q b => some ⟨q, 0x20, 3, .exchange, b⟩
  | .cancelExchange q b => some ⟨q, 0x21, 2, .exchange, b⟩
  | .copyBank q b => some ⟨q, 0x22, 2, .everyPort, b⟩
  | .releaseClaim q b => some ⟨q, 0x23, 2, .everyPort, b⟩
  | .ack q b => some ⟨q, 0x30, 4, .everyPort, b⟩
  | .clearHistory q b => some ⟨q, 0x31, 2, .panel, b⟩
  | .clockFinish q b => some ⟨q, 0x32, 2, .panel, b⟩
  | .setLamp q b => some ⟨q, 0x33, 4, .panel, b⟩
  | .restart q b => some ⟨q, 0x3F, 2, .panel, b⟩
  | _ => none

/-- The WRITEs: the port, and the bytes after the command byte, the table id first. -/
def tableWriteOf : Instr → Option (Port × List Byte)
  | .writeGroupState q b => some (q, 5 :: b)
  | .writeClockControl q b => some (q, 25 :: b)
  | .writeBankedTable q t b => some (q, bankedId t :: b)
  | .writeShowSetup q b => some (q, 24 :: b)
  | .writeNoticeMask q b => some (q, 27 :: b)
  | .writeLampPatterns q b => some (q, 26 :: b)
  | .write q b => if (Instr.write q b).wellFormed then some (q, b) else none
  | _ => none

/-- The other ports are as they were, and no block but the ports is touched. -/
def OnlyPort (q : Port) (p t : State) : Prop :=
  Touches [.ports] p t ∧ ∀ k, k ≠ q → t.ports.get k = p.ports.get k

/-- R178, R182: a transaction that ends refused leaves its result and REFUSED on its own port, and nothing else. -/
def RefusedWith (p t : State) (q : Port) (r : ResultCode) : Prop :=
  OnlyPort q p t ∧
    t.ports.get q = { p.ports.get q with
      tx := .idle, lastResult := r, notices := (p.ports.get q).notices.set Notice.refused.idx true }

/-- R182: a transaction that is taken and changes nothing leaves DONE on its own port. -/
def DoneOnly (p t : State) (q : Port) : Prop :=
  OnlyPort q p t ∧ t.ports.get q = { p.ports.get q with tx := .idle, lastResult := .done }

/-- R182: a port whose transaction has ended with DONE. -/
def DoneOn (t : State) (q : Port) : Prop := (t.ports.get q).tx = .idle ∧ (t.ports.get q).lastResult = .done

/-- R184: a notice stands on all three ports. -/
def Noted (t : State) (n : Notice) : Prop := ∀ q, (t.ports.get q).notices.get n.idx = true

/-- R184: every notice that stands in `s` stands in `t` too. -/
def NoticesKept (s t : State) : Prop := ∀ q n, (s.ports.get q).notices.get n = true → (t.ports.get q).notices.get n = true

/-! ### Groups and the running changeover as the statements see them -/

/-- R118: what a SET_GROUP asks of a group is forbidden. -/
def ForbiddenOf (g : Group) (m : GroupMode) (one : Bool) : Prop :=
  (g.mode = .pinA ∧ m = .pinB) ∨ (g.mode = .pinB ∧ m = .pinA) ∨
    (one = true ∧ ((g.base = .pinA ∧ m = .pinB) ∨ (g.base = .pinB ∧ m = .pinA)))

/-- R107: a group at rest on `current` has taken the target and stands as `h`: on it already, cut to it, or at the start of a
fade toward it. -/
def RestTaken (fade : Nat) (target current : Source) (h : Group) : Prop :=
  (target = current → h.current = current ∧ h.transition = none) ∧
  (target ≠ current → fade = 0 → h.current = target ∧ h.transition = none) ∧
  (target ≠ current → fade ≠ 0 → h.current = current ∧
    h.transition = some { src := current, dst := target, k := 0, n := fade })

/-- R106 to R109: the group `g` has evaluated its target afresh and stands as `h`. A transition whose production has reached N has
landed before, the model's deduction (log 31). -/
def TargetTaken (fade : Nat) (target : Source) (g h : Group) : Prop :=
  h.mode = g.mode ∧ h.base = g.base ∧ h.oneSong = g.oneSong ∧ h.target = target ∧
  (g.transition = none → RestTaken fade target g.current h) ∧
  ∀ f, g.transition = some f →
    (f.k = f.n → RestTaken fade target f.dst h) ∧
    (f.k ≠ f.n → h.current = g.current ∧
      (target = f.dst ∨ target ≠ f.src → h.transition = some f) ∧
      (target ≠ f.dst → target = f.src → f.k = 0 → h.transition = none) ∧
      (target ≠ f.dst → target = f.src → f.k ≠ 0 →
        h.transition = some { src := f.dst, dst := f.src, k := f.n - f.k, n := f.n }))

/-- R119, R120: the group `g` has taken a SET_GROUP and stands as `h`; a mode that changes takes the target `target`, at rest as R107
and in a fade as R108 and R109 have it. -/
def GroupTaken (fade : Nat) (target : Source) (m : GroupMode) (one : Bool) (g h : Group) : Prop :=
  let assigned := { g with mode := m, base := if one then g.base else m, oneSong := one }
  (m = g.mode → h = assigned) ∧ (m ≠ g.mode → TargetTaken fade target assigned h)

/-- R106: every group has evaluated its target afresh, by the Group table of the bank `b` and the arbiter's values `x`. -/
def GroupsRetargeted (b : Bank) (x : Arbiter) (p t : State) : Prop :=
  t.mixer = { p.mixer with groups := t.mixer.groups } ∧
  ∀ i, let g := p.mixer.groups.get i
    let e := b.group.get i
    TargetTaken e.fadeLength (targetOf x e.policy g.mode) g (t.mixer.groups.get i)

/-- R172, R106: what the taking of an exchange outside CHANGING does to the Group Mixer. In STEADY, where the on-air rig does not go
down by it, and in BLIND, where that rig stays down and auto is not permitted after it, every group evaluates its target once,
under the new policies. Wherever auto is not permitted after it, so that the new Fault Policy or restore time brings no
changeover, every group stands with the target that the arbiter then calls for, its mode, base mode and flag as they were. -/
def ExchangeRegroups (p t : State) : Prop :=
  let b := p.bank.back
  let noAuto := p.arbiter.mode = .manual ∨ p.arbiter.inhibit = true ∨
    (b.song.get (songIndex p.arbiter.song)).auto = false
  (p.arbiter.state = .steady → ∀ r, p.arbiter.onAir = some r → (t.health.get r).state.down = false →
    GroupsRetargeted b p.arbiter p t) ∧
  (noAuto → p.arbiter.state = .blind → p.instantHealth.unguarded = none → ∀ r, p.arbiter.onAir = some r →
    (p.health.get r).state.down = true → GroupsRetargeted b p.arbiter p t) ∧
  (noAuto → t.mixer = { p.mixer with groups := t.mixer.groups } ∧
    ∀ i, let g := p.mixer.groups.get i
      let h := t.mixer.groups.get i
      h.mode = g.mode ∧ h.base = g.base ∧ h.oneSong = g.oneSong ∧
      h.target = targetOf t.arbiter (b.group.get i).policy g.mode)

/-- R66 to R68, R75: with rig `r` on air the standby delay of `p` has been settled, as `t` shows it: deferred while `t` is CHANGING,
else set at once. Two settlings of one instant, at the entry to CHANGING and at the completion that follows at once, leave what
the second one does. -/
def StandbySettled (p t : State) (r : Rig) : Prop :=
  let x := p.alignment
  (x.state = .none ∨ x.state = .confirming → t.lines = p.lines ∧ t.alignment = { x with deferred := none }) ∧
  ∀ a, x.accepted = some a → x.state = .accepted ∨ x.state = .held ∨ x.state = .outOfReach →
    let d : Int := match r with | .a => p.lines.a.delay - a | .b => p.lines.b.delay + a
    let state := if x.state = .outOfReach then AlignState.accepted else x.state
    let pairless := if x.state = .outOfReach then 0 else x.pairless
    (0 ≤ d ∧ d ≤ 1023 →
      (x.state = .outOfReach → Noted t .alignmentChanged) ∧
      (t.arbiter.state = .changing → t.lines = p.lines ∧
        t.alignment = { x with
          state, pairless, deferred := some { link := r.other, delay := d.toNat }, lastRequired := some d }) ∧
      (t.arbiter.state ≠ .changing → t.lines.get r = p.lines.get r ∧
        t.lines.get r.other = { p.lines.get r.other with delay := d.toNat } ∧
        t.alignment = { x with state, pairless, deferred := none, lastRequired := some d })) ∧
    (d < 0 ∨ 1023 < d → t.lines = p.lines ∧
      (x.state ≠ .outOfReach → Noted t .alignmentChanged) ∧
      t.alignment = (match x.state with
        | .held => { x with
            state := .outOfReach, deferred := none, lastRequired := some d, pairless := 0, holdAge := 0, limitDue := false }
        | .accepted => { x with state := .outOfReach, deferred := none, lastRequired := some d }
        | _ => { x with lastRequired := some d }))

/-- R82, R83, R132: rig `r` has come on air, the show running: the song in force is that of its record, the standby delay is settled
against it, eligibility is read afresh (R76), and the Show Clock has re-evaluated, as MissingBecomesPresent states
State.clockReevaluate. -/
def RigPutOnAir (p t : State) (r : Rig) : Prop :=
  let clock := (p.setArbiter { p.arbiter with state := t.arbiter.state, onAir := some r }).clockReevaluate
  t.arbiter.onAir = some r ∧
  t.arbiter.song = (match (p.parsers.get r).record with | none => p.arbiter.song | some rec => rec.song) ∧
  t.arbiter.eligible = t.eligibleNow ∧ StandbySettled p t r ∧ Noted t .onAirChanged ∧
  t.showClock = clock.showClock ∧ t.tcOutput = clock.tcOutput ∧ NoticesKept clock t

/-- R88, R91: a changeover toward rig `r` has begun, or has reversed toward it: besides RigPutOnAir every FOLLOW group has the
incoming rig for its target, whatever its blind policy, and takes it on its own state (R106 to R109). Where the changeover has
completed at once into BLIND (R89), the groups have then taken the targets of BLIND (R93). -/
def ChangeoverBegun (p t : State) (r : Rig) : Prop :=
  RigPutOnAir p t r ∧ t.arbiter.nextSequence = p.arbiter.nextSequence + 1 ∧
  ∃ u : State, GroupsRetargeted p.bank.front { p.arbiter with state := .changing, onAir := some r } p u ∧
    (t.arbiter.state ≠ .blind → t.mixer = u.mixer) ∧
    (t.arbiter.state = .blind → GroupsRetargeted p.bank.front t.arbiter u t)

/-- R94: the changeover from `p`, BLIND, to `t` is a late failover to rig `r`. -/
def LateFailover (p t : State) (r : Rig) : Prop :=
  ChangeoverBegun p t r ∧ t.arbiter.mode = p.arbiter.mode ∧ t.arbiter.inhibit = p.arbiter.inhibit ∧
  ((t.arbiter.state = .changing ∧ t.arbiter.outgoing = some r.other) ∨
    (t.arbiter.state = .steady ∧ t.arbiter.outgoing = none ∧ Noted t .changeDone)) ∧
  ∃ e, t.arbiter.history.getLast? = some e ∧ e.cause = .lateFailover ∧ e.fromRig = r.other ∧ e.toRig = r ∧
    e.failing = p.qualified r.other

/-- R170, R172: an exchange that fell due while CHANGING has been carried out at the completion that left the part as `p`. Where auto
is not permitted after it the on-air rig stays on air with no further history entry. The groups: in STEADY, where that rig does
not go down by the exchange, one evaluation under the new policies; in BLIND, where that rig stays down, one by the exchange and
one by the entry to BLIND (R93). -/
def DueExchangeTaken (p t : State) (r : Rig) : Prop :=
  let b := p.bank.back
  let noAuto := p.arbiter.mode = .manual ∨ p.arbiter.inhibit = true ∨
    (b.song.get (songIndex p.arbiter.song)).auto = false
  t.bank = { p.bank with front := b, back := p.bank.front, claim := none, exchange := none } ∧ Noted t .bankExchanged ∧
  (∀ k, (t.matchers.get k).matched = false) ∧
  (p.arbiter.state = .steady → (t.health.get r).state.down = false → GroupsRetargeted b p.arbiter p t) ∧
  (noAuto → t.arbiter.onAir = some r ∧ t.arbiter.outgoing = none ∧ t.arbiter.history = p.arbiter.history ∧
    (t.arbiter.state = .steady ∨ t.arbiter.state = .blind) ∧
    (p.arbiter.state = .blind → p.instantHealth.unguarded = none → (p.health.get r).state.down = true →
      t.arbiter.state = .blind ∧
      ∃ u : State, GroupsRetargeted b p.arbiter p u ∧ GroupsRetargeted b p.arbiter u t))

/-- R89: the changeover of `u`, whose FOLLOW groups all rest on its on-air rig `r`, has completed and the part stands as `t`. `w` is
the part once the arbiter has completed and the alignment is settled (R75): in STEADY, or in BLIND where that rig is down. What
follows at the instant: an exchange that fell due while CHANGING (R170), the groups' targets in BLIND (R93), and in BLIND a late
failover where its test holds (R94). -/
def ChangeoverCompleted (u t : State) (r : Rig) : Prop :=
  let down := (u.handed r).down
  let due := ∃ e, u.bank.exchange = some e ∧ e.due = true
  ∃ w : State, Touches [.lines, .alignment, .arbiter, .ports] u w ∧ StandbySettled u w r ∧
    w.arbiter = { u.arbiter with
      state := if down then .blind else .steady, outgoing := none, eligible := w.eligibleNow
      history := u.arbiter.history.map fun e => if e.ending = .inFlight then { e with ending := .completed } else e } ∧
    NoticesKept w t ∧ Noted w .changeDone ∧ (down = true → Noted w .blindEntered) ∧
    (due → DueExchangeTaken w t r) ∧
    (¬ due → w.lateFailoverHolds = true → LateFailover w t r.other) ∧
    (¬ due → w.lateFailoverHolds = false → t.arbiter = w.arbiter ∧ Touches [.mixer, .ports] w t ∧
      (down = false → t.mixer = w.mixer) ∧ (down = true → GroupsRetargeted w.bank.front w.arbiter w t))

/-- A changeover runs with its on-air rig not down and no exchange pending, so that it completes into STEADY (R89) and brings no
exchange (R170). -/
abbrev ChangeoverRuns (p : State) : Prop :=
  p.arbiter.state = .changing ∧ p.arbiter.onAir ≠ none ∧ p.onAirDown = false ∧ p.bank.exchange = none

/-- R89: with the groups as they stand in `t` the running changeover of `p` has completed, where every FOLLOW group rests on the
on-air rig, and else goes on, no block outside `bs` being touched. -/
def ChangeoverTested (bs : List Block) (p t : State) : Prop :=
  let rests := ∀ j, (t.mixer.groups.get j).mode = .follow →
    (t.mixer.groups.get j).transition = none ∧ (t.mixer.groups.get j).current = Source.ofOnAir p.arbiter.onAir
  (¬ rests → Touches bs p t) ∧
  (rests → Touches [.lines, .alignment, .arbiter, .mixer, .ports] p t ∧ t.arbiter.state = .steady ∧
    t.arbiter.onAir = p.arbiter.onAir ∧ t.arbiter.outgoing = none ∧ Noted t .changeDone ∧
    t.arbiter.history =
      p.arbiter.history.map fun e => if e.ending = .inFlight then { e with ending := .completed } else e)

/-- No changeover runs and no late failover follows (R94), so the arbiter's standing tests make none. -/
abbrev ArbiterAtRest (p : State) : Prop := p.arbiter.state ≠ .changing ∧ p.lateFailoverHolds = false

end Sys2Proof.Machine
end

