-- ==== Sys2Proof/Certificates/Slice0/Obligations.lean ====
section
/-! DEFINITION. The statements for the provers. In a statement about a transaction, `p` is the part at the deselect (R178):
what stood due has been taken and the bytes have been shifted. In one about an event of the part, `p` is the part
when the event is reached. -/

open Sys2Proof Sys2Proof.Machine

/-! ### The step, and what every command keeps -/

/-- One step takes the command at the front of the queue with the queue's rest; on an empty queue the part idles,
which is the model's choice (log 4). -/
def Obligations.StepRunsFrontCommand : Prop :=
  (∀ (c : Instr) (rest : List Instr) (s : State), s.pending = c :: rest → step s = exec c (s.setPending rest)) ∧
  ∀ s : State, s.pending = [] → step s = .next s

/-- Every command answers a next state and leaves the queue to the world (log 1); Device Status changes at FULL_RESET
and RESTART alone (R200). -/
def Obligations.EveryCommandAnswersNext : Prop :=
  ∀ (c : Instr) (s : State), ∃ t, exec c s = .next t ∧ t.pending = s.pending ∧
    ((∀ cause, c ≠ .fullReset cause) → (∀ q body, c ≠ .restart q body) → t.device = s.device)

/-- Where nothing stands due, the taking of what is due before a command changes nothing (log 2). -/
def Obligations.CalmPartNeedsNoPreparation : Prop :=
  ∀ s : State, s.calm = true → s.prepare = s

/-- From R80, R101, R102: a step keeps the arbiter's law: on air exactly while not STOPPED, outgoing exactly while
CHANGING, at most sixteen history entries, one IN_FLIGHT exactly while CHANGING. -/
def Obligations.StepKeepsArbiterLaw : Prop :=
  ∀ s t : State, s.arbiter.ok → step s = .next t → t.arbiter.ok

/-- From R61, R63: a step keeps both delay lines canonical, their delays in 0..1023, and the base delay in its range.
-/
def Obligations.StepKeepsDelayLines : Prop :=
  ∀ s t : State, s.linesOk → step s = .next t → t.linesOk

/-- From R105, R118: a step keeps every group record lawful: transitions join two different sources with k ≤ N ≤ 4095,
and no mode and base mode are the two pins. -/
def Obligations.StepKeepsGroupLaw : Prop :=
  ∀ s t : State, s.groupsOk → step s = .next t → t.groupsOk

/-- From R68: a step keeps the alignment law: in ACCEPTED and HELD with the arbiter not CHANGING, delay_A − delay_B
equals the accepted offset. -/
def Obligations.StepKeepsAlignmentLaw : Prop :=
  ∀ s t : State, s.aligned → step s = .next t → t.aligned

/-- The four laws hold right after reset. -/
def Obligations.LawsHoldAtReset : Prop :=
  State.reset.arbiter.ok ∧ State.reset.linesOk ∧ State.reset.groupsOk ∧ State.reset.aligned

/-! ### Transactions and the Control Ports (chapter 10) -/

/-- From R175, R191: PORT_SELECT on an IDLE port; the port status byte, bit by bit, is what the port shifts out. -/
def Obligations.PortSelectFormsStatusByte : Prop :=
  ∀ (s : State) (q : Port), (s.ports.get q).tx = .idle →
    let p := s.prepare
    let b := p.statusByte q
    (∃ t, exec (.portSelect q) s = .next t ∧ OnlyPort q p t ∧
      t.ports.get q = { p.ports.get q with tx := .command, dataOut := [b] }) ∧
    b.toNat / 16 = (resultByte (p.ports.get q).lastResult).toNat ∧
    (b.getLsbD 3 = true ↔
      ∃ n : Notice, (p.ports.get q).notices.get n.idx = true ∧ (p.ports.get q).mask.get n.idx = false) ∧
    (b.getLsbD 2 = true ↔ p.arbiter.state ≠ .stopped) ∧
    b.toNat % 4 = (match p.arbiter.onAir with | none => 0 | some .a => 1 | some .b => 2)

/-- From R178: the checks of a named command in their order, before its owner is asked. From R178: the checks of a
WRITE in their order, before its owner is asked. -/
def Obligations.CommandAndWriteRefusalOrder : Prop :=
  (∀ (c : Instr) (m : NamedCommand) (s : State), namedOf c = some m →
     let p := s.opened m.port m.body.length
     ∃ t, exec c s = .next t ∧
       (m.body.length + 1 ≠ m.length → RefusedWith p t m.port .length) ∧
       (m.body.length + 1 = m.length → checkOk (m.code :: m.body) = false →
         RefusedWith p t m.port .checkFailed) ∧
       (m.body.length + 1 = m.length → checkOk (m.code :: m.body) = true → p.allowed m.port m.right = false →
         RefusedWith p t m.port .denied)) ∧
  ∀ (c : Instr) (q : Port) (bytes : List Byte) (s : State), tableWriteOf c = some (q, bytes) →
    let p := s.opened q bytes.length
    ∃ t, exec c s = .next t ∧
      (bytes.length < 4 → RefusedWith p t q .length) ∧
      ∀ (id first count x : Byte) (rest : List Byte), bytes = id :: first :: count :: x :: rest →
        let fits := ∀ n len, tableShape id = some (n, len) → count ≠ 0 → bytes.length + 1 = 5 + count.toNat * len
        (¬ fits → RefusedWith p t q .length) ∧
        (fits → checkOk (0x02 :: bytes) = false → RefusedWith p t q .checkFailed) ∧
        (fits → checkOk (0x02 :: bytes) = true → (tableShape id = none ∨ count = 0) →
          RefusedWith p t q .invalid) ∧
        ∀ n len, tableShape id = some (n, len) → count ≠ 0 → fits → checkOk (0x02 :: bytes) = true →
          (p.allowed q (writeRight id) = false → RefusedWith p t q .denied) ∧
          (p.allowed q (writeRight id) = true → n < first.toNat + count.toNat → RefusedWith p t q .badIndex)

/-- From R174, R175, R178, R179: FRAMING, UNKNOWN and a WRITE to a read-only table end refused, with no effect outside
their port: that is the whole effect of these three rows. The bytes a write-type transaction cut off has shifted out
are the status byte and 0x00 for each whole byte after its command byte. -/
def Obligations.FramingUnknownAndReadOnlyWrite : Prop :=
  (∀ (q : Port) (bytes : List Byte) (bits : Nat) (s : State), 1 ≤ bits → bits ≤ 7 →
    let p := if (s.prepare.ports.get q).tx = .idle then s.prepare.select q else s.prepare
    ∃ t, exec (.framing q { bytes, bits }) s = .next t ∧ OnlyPort q p t ∧
      t.ports.get q = { p.ports.get q with
        tx := .idle, lastResult := .framing, dataOut := (t.ports.get q).dataOut
        notices := (p.ports.get q).notices.set Notice.refused.idx true } ∧
      ((s.prepare.ports.get q).tx = .idle → (p.ports.get q).dataOut = [s.prepare.statusByte q]) ∧
      ((p.ports.get q).tx = .command → bytes.head? ≠ some 0x01 →
        (t.ports.get q).dataOut = (p.ports.get q).dataOut ++ List.replicate (bytes.length - 1) 0)) ∧
  (∀ (q : Port) (code : Byte) (body : List Byte) (s : State), code ∉ definedCodes →
    ∃ t, exec (.unknown q code body) s = .next t ∧ RefusedWith (s.opened q body.length) t q .unknown) ∧
  ∀ (q : Port) (id : Byte) (first count n len : Nat) (data : List Byte) (s : State),
    id ∉ writableIds → tableShape id = some (n, len) → 1 ≤ count → count ≤ 255 → data.length = count * len →
    ∃ t, exec (.write q (id :: writeBody id first count data)) s = .next t ∧
      RefusedWith (s.opened q (4 + data.length)) t q .denied

/-- From R176, R177: a READ of `count` entries answers, after the status byte and the four bytes of its request, with
DONE, the entries and their exclusive-or; after its answer 0x00 is shifted out (R175). From R188: every entry of a
table has the length its id gives. What an entry holds: ids 16 to 21 (R163, R193) those of the editable bank, FRONT
while STOPPED and else BACK, and ids 48 to 53 those of FRONT, in the layouts that EntryLayoutsRoundTrip reads back; id
24 Show Setup, id 25 Clock Control, id 26 the Lamp Patterns, id 27 the reading port's own mask; ids 0 to 9 every item
of the views byte by byte (R19, R37, R60, R78, R104, R124, R144, R158, R173, R188, R194, R195), absent items and the
bytes after the last item as 0 (R189). From R177: a READ in several commands: the bytes of its request gather over
them; while it streams, each command shifts on with the copy that the port holds, whatever else has changed between
them, and copies the next entry, whole, as it stands when that entry's first byte is shifted, so the entries of one
READ may come from both sides of a change. Three points of the views are the model's choice or deduction: the guard
marks that no tick end has decided (log 25), the flags of the shown timecode (log 19), and a rig's health as last
handed on for the standby's eligibility (log 40). -/
def Obligations.ReadStreamsEntries : Prop :=
  (∀ (s : State) (q : Port) (id first count : Byte) (n len extra : Nat) (more : List Byte),
     tableShape id = some (n, len) → count ≠ 0 → first.toNat + count.toNat ≤ n →
     (s.prepare.ports.get q).tx = .idle →
     let p := s.prepare
     let entries := (List.range count.toNat).flatMap fun k => p.entryBytes q id (first.toNat + k)
     more.length = entries.length + 2 + extra →
     ∃ t, exec (.read q (.shift (withCheck 0x01 [id, first, count] ++ more))) s = .next t ∧ OnlyPort q p t ∧
       (t.ports.get q).dataOut =
         p.statusByte q :: 0 :: 0 :: 0 :: 0 :: 0 :: (entries ++ xorAll entries :: List.replicate extra 0)) ∧
  (∀ (s : State) (q : Port) (id : Byte) (n len i : Nat), tableShape id = some (n, len) → i < n →
    (s.entryBytes q id i).length = len) ∧
  (∀ (s : State) (q : Port),
    let bytes := s.entryBytes q
    let e := fun (id : Byte) (i k : Nat) => (bytes id i).getD k 0
    let front := s.bank.front
    let editable := if s.arbiter.state = .stopped then front else s.bank.back
    let place : Rig → Nat := fun r => match r with | .a => 0 | .b => 1
    let line : Port → Nat := fun k => match k with | .a => 0 | .b => 1 | .p => 2
    (∀ i, bytes 16 i.val = writeRoute (editable.route.get i) ∧ bytes 48 i.val = writeRoute (front.route.get i)) ∧
    (∀ i, bytes 17 i.val = writeGroup (editable.group.get i) ∧ bytes 49 i.val = writeGroup (front.group.get i)) ∧
    (∀ i, bytes 18 i.val = writeSong (editable.song.get i) ∧ bytes 50 i.val = writeSong (front.song.get i)) ∧
    (∀ i, bytes 19 i.val = writeMatcher (editable.matcher.get i) ∧ bytes 51 i.val = writeMatcher (front.matcher.get i)) ∧
    (∀ i, bytes 20 i.val = writeFault (editable.fault.get i) ∧ bytes 52 i.val = writeFault (front.fault.get i)) ∧
    bytes 21 0 = writeMonitor editable.monitor ∧ bytes 53 0 = writeMonitor front.monitor ∧
    bytes 24 0 = writeSetup s.bank.setup ∧ bytes 25 0 = writeControl s.showClock.control ∧
    (∀ i : Fin 8, word16 (e 26 i.val) 0 = s.lamps.patterns.get i) ∧ NoticesShown (word16 (e 27 0) 0) (s.ports.get q).mask ∧
    DeviceShown s (e 0 0) ∧ (∀ r, RigShown s r (e 1 (place r)) ∧ HealthShown s r (e 2 (place r))) ∧
    AlignmentShown s (e 3 0) ∧ ArbiterShown s (e 4 0) ∧ (∀ i, GroupShown s i (e 5 i.val)) ∧ ClockShown s (e 6 0) ∧
    (∀ i : Fin 16, HistoryShown s i.val (e 7 i.val)) ∧ (∀ i, MatcherShown s i (e 8 i.val)) ∧
    ∀ k, PortShown (s.ports.get k) (e 9 (line k))) ∧
  (∀ (s : State) (q : Port) (l bytes : List Byte),
    let p := s.prepare
    let received := l ++ bytes
    (p.ports.get q).tx = .receiving l → received.length ≤ 4 →
    ∃ t, exec (.read q (.shift bytes)) s = .next t ∧ OnlyPort q p t ∧
      (received.length < 4 → bytes ≠ [] → (t.ports.get q).tx = .receiving received) ∧
      ∀ id first count check : Byte, bytes ≠ [] → received = [id, first, count, check] →
        (t.ports.get q).tx = .streaming (readAnswer id first count check)) ∧
  (∀ (s : State) (q : Port) (x : Stream) (bytes : List Byte),
    let p := s.prepare
    let entry := if x.copy = [] then p.entryBytes q x.id x.next else x.copy
    let begun := if x.copy = [] then 1 else 0
    let sent := entry.take bytes.length
    (p.ports.get q).tx = .streaming x → x.phase = .entries → (x.copy = [] → x.left ≠ 0) →
    1 ≤ bytes.length → bytes.length ≤ entry.length →
    ∃ t, exec (.read q (.shift bytes)) s = .next t ∧ OnlyPort q p t ∧
      t.ports.get q = { p.ports.get q with
        dataOut := (p.ports.get q).dataOut ++ sent
        tx := .streaming { x with
          next := x.next + begun, left := x.left - begun, copy := entry.drop bytes.length, check := x.check ^^^ xorAll sent } }) ∧
  ∀ (s u : State) (q : Port) (id first count : Byte) (n len k : Nat) (more rest : List Byte),
    let old := s.prepare.entryBytes q id first.toNat
    let new := u.prepare.entryBytes q id (first.toNat + 1)
    tableShape id = some (n, len) → 2 ≤ count.toNat → first.toNat + count.toNat ≤ n →
    (s.prepare.ports.get q).tx = .idle → 1 ≤ k → k ≤ len → more.length = 1 + k → rest.length = len - k + len →
    ∃ t, exec (.read q (.shift (withCheck 0x01 [id, first, count] ++ more))) s = .next t ∧
      ((u.prepare.ports.get q).tx = (t.ports.get q).tx →
        ∃ v, exec (.read q (.shift rest)) u = .next v ∧
          (v.ports.get q).dataOut = (u.prepare.ports.get q).dataOut ++ old.drop k ++ new)

/-- From R176, R177, R174: a refused READ answers with its code and that code's check; the deselect of a READ sets the
last result, LENGTH where the request was cut short, and changes nothing else. -/
def Obligations.ReadRefusedAndEnded : Prop :=
  (∀ (s : State) (q : Port) (id first count check x y : Byte), (s.prepare.ports.get q).tx = .idle →
    let good := check = xorAll [0x01, id, first, count]
    ∃ t, exec (.read q (.shift [id, first, count, check, x, y])) s = .next t ∧ OnlyPort q s.prepare t ∧
      ∀ r : ResultCode,
        (¬ good ∧ r = .checkFailed) ∨
        (good ∧ (tableShape id = none ∨ count = 0) ∧ r = .invalid) ∨
        (good ∧ count ≠ 0 ∧ (∃ n len, tableShape id = some (n, len) ∧ n < first.toNat + count.toNat) ∧ r = .badIndex) →
        (t.ports.get q).dataOut =
          [s.prepare.statusByte q, 0, 0, 0, 0, resultByte r, resultByte r] ∧
        ∃ stream, (t.ports.get q).tx = .streaming stream ∧ stream.result = r) ∧
  ∀ (s : State) (q : Port), ∃ t, exec (.read q .deselect) s = .next t ∧
    (∀ stream, (s.prepare.ports.get q).tx = .streaming stream →
      (stream.result = .done → DoneOnly s.prepare t q) ∧
      (stream.result ≠ .done → RefusedWith s.prepare t q stream.result)) ∧
    (∀ bytes, (s.prepare.ports.get q).tx = .receiving bytes → RefusedWith s.prepare t q .length) ∧
    ((s.prepare.ports.get q).tx = .command → OnlyPort q s.prepare t ∧
      t.ports.get q = { s.prepare.ports.get q with tx := .idle })

/-- From R186: ACK removes the named notices from its own port's set and touches nothing else; a value beyond notice
12 is refused. From R185: a WRITE to id 27 sets the issuing port's own mask; a value beyond notice 12 is refused. -/
def Obligations.AckAndNoticeMask : Prop :=
  (∀ (s : State) (q : Port) (hi lo : Byte),
     let p := s.opened q 3
     let n := nat16 hi lo
     ∃ t, exec (.ack q (withCheck 0x30 [hi, lo])) s = .next t ∧
       (8192 ≤ n → RefusedWith p t q .invalid) ∧
       (n < 8192 → OnlyPort q p t ∧ DoneOn t q ∧ (t.ports.get q).mask = (p.ports.get q).mask ∧
         ∀ k : Fin 13, (t.ports.get q).notices.get k = ((p.ports.get q).notices.get k && !n.testBit k.val))) ∧
  ∀ (s : State) (q : Port) (hi lo : Byte),
    let p := s.opened q 6
    let n := nat16 hi lo
    ∃ t, exec (.writeNoticeMask q (writeBody 27 0 1 [hi, lo])) s = .next t ∧
      (8192 ≤ n → RefusedWith p t q .invalid) ∧
      (n < 8192 → OnlyPort q p t ∧ DoneOn t q ∧ (t.ports.get q).notices = (p.ports.get q).notices ∧
        ∀ k : Fin 13, (t.ports.get q).mask.get k = n.testBit k.val)

/-! ### The On-Air Arbiter (chapter 5) -/

/-- From R84: START of a rig with a valid FRONT bank: on air, its delay at the base delay, claim released, FOLLOW
groups toward it; BLIND when the rig is down. A down rig is started here in MANUAL, where no late failover follows.
From R63, R68, R132: the standby delay is settled against it, both delays having been set to the base delay, once, the
model's deduction (log 17), the last required delay kept as of then (log 35), and the Show Clock re-evaluates against
its record, its MISSING tested last (log 47); every group takes its new target on its own state (R106 to R109; a
production that has reached N has landed first, the model's deduction, log 31). -/
def Obligations.StartPutsRigOnAir : Prop :=
  ∀ (s : State) (r : Rig),
    let p := s.opened .p 2
    let down := (p.handed r).down
    p.arbiter.state = .stopped → p.bank.front.valid p.bank.setup = true → (down = false ∨ p.arbiter.mode = .manual) →
    ∃ t, exec (.start .p (withCheck 0x10 [rigByte r])) s = .next t ∧ DoneOn t .p ∧
      Touches [.lines, .alignment, .arbiter, .mixer, .showClock, .tcOutput, .bank, .ports] p t ∧
      t.arbiter.state = (if down then .blind else .steady) ∧ t.arbiter.onAir = some r ∧ t.arbiter.outgoing = none ∧
      t.arbiter.mode = p.arbiter.mode ∧ t.arbiter.inhibit = p.arbiter.inhibit ∧
      t.arbiter.history = p.arbiter.history ∧ t.arbiter.nextSequence = p.arbiter.nextSequence ∧
      t.arbiter.song = (match (p.parsers.get r).record with | none => p.arbiter.song | some rec => rec.song) ∧
      t.bank = { p.bank with claim := none } ∧ (t.lines.get r).delay = p.bank.setup.baseDelay ∧
      (p.alignment.state = .none ∨ p.alignment.state = .confirming →
        (t.lines.get r.other).delay = p.bank.setup.baseDelay) ∧
      Noted t .onAirChanged ∧ (down = true → Noted t .blindEntered) ∧
      RigPutOnAir (p.setLines (p.lines.map fun l => { l with delay := p.bank.setup.baseDelay })) t r ∧
      GroupsRetargeted p.bank.front t.arbiter p t ∧
      ∀ i, (p.mixer.groups.get i).mode = .follow → (t.mixer.groups.get i).target =
        (if down ∧ (p.bank.front.group.get i).policy = .fadeOut then .silent else Source.ofRig r)

/-- From R85, R127: STOP while the show runs; in STOPPED it is DONE and changes nothing. An examination of the present
instant that is still open stays open (R136). -/
def Obligations.StopEndsShow : Prop :=
  ∀ s : State,
    let p := s.opened .p 1
    ∃ t, exec (.stop .p (withCheck 0x11 [])) s = .next t ∧
      (p.arbiter.state = .stopped → DoneOnly p t .p) ∧
      (p.arbiter.state ≠ .stopped → DoneOn t .p ∧
        Touches [.lines, .alignment, .arbiter, .mixer, .showClock, .tcOutput, .bank, .ports] p t ∧
        t.arbiter.state = .stopped ∧ t.arbiter.onAir = none ∧ t.arbiter.outgoing = none ∧
        t.arbiter.mode = p.arbiter.mode ∧ t.arbiter.inhibit = p.arbiter.inhibit ∧ t.arbiter.song = p.arbiter.song ∧
        t.arbiter.nextSequence = p.arbiter.nextSequence ∧
        t.arbiter.history = (if p.arbiter.state = .changing then
          p.arbiter.history.map fun e => if e.ending = .inFlight then { e with ending := .aborted } else e
          else p.arbiter.history) ∧
        t.bank = { p.bank with claim := none, exchange := none } ∧
        t.showClock = { ShowClock.reset with
          lastEmitted := p.showClock.lastEmitted, control := p.showClock.control, examine := p.showClock.examine } ∧
        t.tcOutput = { p.tcOutput with waiting := none } ∧ Noted t .onAirChanged ∧
        ∀ i, (p.mixer.groups.get i).mode = .follow → (t.mixer.groups.get i).target = .silent)

/-- From R88, R96, R100: TAKE of the standby, eligible or forced, starts a changeover and opens its history entry; it
runs with the delays as they stood (R75), or has completed at once (R89). A forced TAKE puts a rig that is down on air
too, with cause FORCED_TAKE, and then completes into BLIND (R93); it is taken here in MANUAL, where no late failover
follows. The failing kinds of the entry are the outgoing rig's qualified set as it stands, also where a guard decision
of this very instant, which a restart may still undo, stands in it: the model's choice (log 56). From R91, R97: TAKE
of the outgoing rig reverses the changeover, whatever the force operand: of the entries kept the one that was
IN_FLIGHT closes REVERSED, the others stand, and a REVERSAL entry opens, its failing kinds likewise the qualified set
as it stands (log 56); toward a rig that is down likewise in MANUAL. In both (ChangeoverBegun): every FOLLOW group
takes the incoming rig for its target on its own state (R88, R91, R106 to R109; a production that has reached N has
landed first, the model's deduction, log 31), the song in force becomes that of the incoming rig's record where it is
present (R82), the standby delay is settled against the incoming rig and deferred while CHANGING (R68, R75), and the
Show Clock re-evaluates against its record (R132). That the last required delay is kept as of the latest settling and
that the clock tests MISSING last are the model's deductions (logs 35 and 47). -/
def Obligations.TakeChangesOverOrReverses : Prop :=
  (∀ (s : State) (q : Port) (r : Rig) (force : Bool),
     let p := s.opened q 3
     let down := (p.handed r).down
     p.operates q = true → (p.arbiter.state = .steady ∨ p.arbiter.state = .blind) →
     p.arbiter.onAir = some r.other → (p.arbiter.eligible = true ∨ force = true) →
     (down = false ∨ p.arbiter.mode = .manual) → p.bank.exchange = none →
     ∃ t, exec (.take q (withCheck 0x12 [rigByte r, bit force])) s = .next t ∧ DoneOn t q ∧
       Touches [.lines, .alignment, .arbiter, .mixer, .showClock, .tcOutput, .ports] p t ∧
       ChangeoverBegun p t r ∧ t.arbiter.mode = p.arbiter.mode ∧ t.arbiter.inhibit = p.arbiter.inhibit ∧
       ((t.arbiter.state = .changing ∧ t.arbiter.outgoing = some r.other ∧ ∀ k, (t.lines.get k).delay = (p.lines.get k).delay) ∨
         (t.arbiter.state = (if down then .blind else .steady) ∧ t.arbiter.outgoing = none ∧ Noted t .changeDone ∧
           (down = true → Noted t .blindEntered))) ∧
       ∃ e, t.arbiter.history.getLast? = some e ∧ e.sequence = p.arbiter.nextSequence ∧ e.stamp = p.clock.count ∧
         e.timecode = p.shown.map (·.1) ∧ e.fromRig = r.other ∧ e.toRig = r ∧
         e.cause = (if p.arbiter.eligible then .take else .forcedTake) ∧ e.failing = p.qualified r.other ∧
         e.ending = (if t.arbiter.state = .changing then .inFlight else .completed)) ∧
  ∀ (s : State) (q : Port) (r : Rig) (force : Bool),
    let p := s.opened q 3
    let down := (p.handed r).down
    let kept := if p.arbiter.history.length < 16 then p.arbiter.history else p.arbiter.history.drop 1
    p.operates q = true → p.arbiter.state = .changing → p.arbiter.onAir = some r.other →
    (down = false ∨ p.arbiter.mode = .manual) → p.bank.exchange = none →
    ∃ t, exec (.take q (withCheck 0x12 [rigByte r, bit force])) s = .next t ∧ DoneOn t q ∧
      Touches [.lines, .alignment, .arbiter, .mixer, .showClock, .tcOutput, .ports] p t ∧
      ChangeoverBegun p t r ∧ t.arbiter.mode = p.arbiter.mode ∧ t.arbiter.inhibit = p.arbiter.inhibit ∧
      ((t.arbiter.state = .changing ∧ t.arbiter.outgoing = some r.other ∧ ∀ k, (t.lines.get k).delay = (p.lines.get k).delay) ∨
        (t.arbiter.state = (if down then .blind else .steady) ∧ t.arbiter.outgoing = none ∧ Noted t .changeDone ∧
          (down = true → Noted t .blindEntered))) ∧
      t.arbiter.history.dropLast =
        (kept.map fun e => if e.ending = .inFlight then { e with ending := .reversed } else e) ∧
      (∀ e ∈ t.arbiter.history.dropLast, e.ending ≠ .inFlight) ∧
      ∃ e, t.arbiter.history.getLast? = some e ∧ e.sequence = p.arbiter.nextSequence ∧ e.stamp = p.clock.count ∧
        e.timecode = p.shown.map (·.1) ∧ e.fromRig = r.other ∧ e.toRig = r ∧ e.cause = .reversal ∧
        e.failing = p.qualified r.other ∧
        e.ending = (if t.arbiter.state = .changing then .inFlight else .completed)

/-- From R96, R97, R84: the other answers of TAKE and START. -/
def Obligations.TakeAndStartOtherAnswers : Prop :=
  (∀ (s : State) (q : Port) (x f : Byte),
    let p := s.opened q 3
    p.operates q = true →
    ∃ t, exec (.take q (withCheck 0x12 [x, f])) s = .next t ∧
      (rigOf x = none ∨ boolOf f = none → RefusedWith p t q .invalid) ∧
      ∀ r force, rigOf x = some r → boolOf f = some force →
        (p.arbiter.state = .stopped → RefusedWith p t q .wrongState) ∧
        (p.arbiter.state ≠ .stopped → p.arbiter.onAir = some r → DoneOnly p t q) ∧
        (p.arbiter.state = .steady ∨ p.arbiter.state = .blind → p.arbiter.onAir = some r.other →
          p.arbiter.eligible = false → force = false → RefusedWith p t q .notEligible)) ∧
  ∀ (s : State) (x : Byte),
    let p := s.opened .p 2
    ∃ t, exec (.start .p (withCheck 0x10 [x])) s = .next t ∧
      (rigOf x = none → RefusedWith p t .p .invalid) ∧
      ∀ r, rigOf x = some r →
        (p.arbiter.state ≠ .stopped → RefusedWith p t .p .wrongState) ∧
        (p.arbiter.state = .stopped → p.bank.front.valid p.bank.setup = false → RefusedWith p t .p .invalid)

/-- From R98, R94: SET_MODE sets the mode or clears the inhibit flag and nothing else, in BLIND too where no late
failover follows; in BLIND, AUTO or CLEAR_INHIBIT with auto then permitted and an eligible standby starts a late
failover. That entry to CHANGING does what every one does: groups (R106 to R109; a production that has reached N has
landed first, the model's deduction, log 31), song in force (R82), standby delay (R68, R75; its last required value
kept, log 35) and Show Clock (R132; its MISSING tested last, log 47), the model's deductions. -/
def Obligations.SetModeAndLateFailover : Prop :=
  ∀ (s : State) (b : Byte),
    let p := s.opened .p 2
    let mode := if b = 0 then .manual else if b = 1 then .auto else p.arbiter.mode
    let inhibit := if b = 2 then false else p.arbiter.inhibit
    let fails := p.arbiter.state = .blind ∧ mode = .auto ∧ inhibit = false ∧
      (p.bank.front.song.get (songIndex p.arbiter.song)).auto = true ∧ p.arbiter.eligible = true
    ∃ t, exec (.setMode .p (withCheck 0x13 [b])) s = .next t ∧
      (2 < b.toNat → RefusedWith p t .p .invalid) ∧
      (b.toNat ≤ 2 → ¬ fails → p.completionHolds = false →
        DoneOn t .p ∧ Touches [.arbiter, .ports] p t ∧ t.arbiter = { p.arbiter with mode, inhibit }) ∧
      ∀ r : Rig, b.toNat ≤ 2 → fails → p.arbiter.onAir = some r.other → (p.handed r).down = false →
        p.bank.exchange = none →
        DoneOn t .p ∧ LateFailover (p.setArbiter { p.arbiter with mode, inhibit }) t r

/-- From R89, R68: the last FOLLOW group arrives on the on-air rig: its transition completes, the changeover
completes, and an offset that stands in reach is settled. R93: where the on-air rig is down it completes into BLIND,
with BLIND_ENTERED, the groups' targets of BLIND, and a late failover where its test holds (R94). R170: an exchange
that fell due while CHANGING is carried out at the completion, before that, in BLIND with the arbiter's standing tests
before the groups, the model's choice (log 16); a group whose production has reached N lands as its target is taken
(log 31). Whether the rig is down is read from its health as last handed on (log 40), the last required delay is kept
as of the settling (log 35), and a late failover's clock tests MISSING last (log 47): the model's choice and
deductions. -/
def Obligations.LastGroupCompletesChangeover : Prop :=
  ∀ (s : State) (i : Fin 8) (r : Rig) (f : Transition),
    let p := s.prepare
    let g := p.mixer.groups.get i
    let arrived := { g with current := Source.ofRig r, transition := none, target := Source.ofRig r }
    p.arbiter.state = .changing → p.arbiter.onAir = some r → g.mode = .follow → g.transition = some f → f.k = f.n →
    f.dst = Source.ofRig r →
    (∀ j, j ≠ i → (p.mixer.groups.get j).mode = .follow →
      (p.mixer.groups.get j).transition = none ∧ (p.mixer.groups.get j).current = Source.ofRig r) →
    ∃ t, exec (.transitionComplete i) s = .next t ∧
      ChangeoverCompleted (p.setMixer { p.mixer with groups := p.mixer.groups.set i arrived }) t r ∧
      ((p.handed r).down = false → p.bank.exchange = none →
        Touches [.lines, .alignment, .arbiter, .mixer, .ports] p t ∧
        (t.mixer.groups.get i).current = Source.ofRig r ∧ (t.mixer.groups.get i).transition = none ∧
        t.arbiter.state = .steady ∧ t.arbiter.onAir = some r ∧ t.arbiter.outgoing = none ∧ Noted t .changeDone ∧
        t.arbiter.history =
          (p.arbiter.history.map fun e => if e.ending = .inFlight then { e with ending := .completed } else e) ∧
        ∀ d, (p.alignment.state = .accepted ∨ p.alignment.state = .held) → p.alignment.accepted = some d →
          inReach (p.requiredDelay d) = true → (t.lines.a.delay : Int) - t.lines.b.delay = d)

/-! ### The Group Mixer (chapter 6) -/

/-- From R117 to R120, R107: SET_GROUP: refused where its operands or the change are; else mode, base mode and flag of
its group, the start of a fade for a group at rest, and what becomes of the fade of a group in flight: on toward `to`,
back toward `from` or a wait (R108, R109, as RetargetInFlight; a production that has reached N has landed first, the
model's deduction, log 31). R89: in CHANGING, with the on-air rig not down and no exchange pending, it completes the
changeover where it leaves every FOLLOW group on the on-air rig, and else leaves it running; in STOPPED, STEADY, and
BLIND without a late failover it touches the Group Mixer alone. -/
def Obligations.SetGroupChangesOneGroup : Prop :=
  (∀ (s : State) (q : Port) (i : Fin 8) (m : GroupMode) (one : Bool),
    let p := s.opened q 4
    let g := p.mixer.groups.get i
    let e := p.bank.front.group.get i
    let target := targetOf p.arbiter e.policy m
    p.operates q = true →
    ∃ t, exec (.setGroup q (withCheck 0x14 [byte i.val, groupModeByte m, bit one])) s = .next t ∧
      (ForbiddenOf g m one → RefusedWith p t q .forbidden) ∧
      (¬ ForbiddenOf g m one → ChangeoverRuns p → ChangeoverTested [.mixer, .ports] p t) ∧
      (¬ ForbiddenOf g m one → ArbiterAtRest p → Touches [.mixer, .ports] p t) ∧
      (¬ ForbiddenOf g m one → ArbiterAtRest p ∨ ChangeoverRuns p →
        DoneOn t q ∧ t.mixer = { p.mixer with groups := t.mixer.groups } ∧
        (∀ j, j ≠ i → t.mixer.groups.get j = p.mixer.groups.get j) ∧
        GroupTaken e.fadeLength target m one g (t.mixer.groups.get i))) ∧
  ∀ (s : State) (q : Port) (x y z : Byte), 8 ≤ x.toNat ∨ 4 ≤ y.toNat ∨ 2 ≤ z.toNat → (s.opened q 4).operates q = true →
    ∃ t, exec (.setGroup q (withCheck 0x14 [x, y, z])) s = .next t ∧ RefusedWith (s.opened q 4) t q .invalid

/-- From R108, R109: a group in a fade takes a new target: on toward `to`, a reversal toward `from` with k = N − k, or
a wait. -/
def Obligations.RetargetInFlight : Prop :=
  ∀ (g : Group) (f : Transition) (fade : Nat) (x : Source), g.transition = some f → f.k < f.n →
    let h := g.retarget fade x
    h.target = x ∧ h.current = g.current ∧ h.mode = g.mode ∧ h.base = g.base ∧ h.oneSong = g.oneSong ∧
    (x = f.dst → h.transition = some f) ∧
    (x ≠ f.dst → x ≠ f.src → h.transition = some f ∧ h.waiting = true) ∧
    (x ≠ f.dst → x = f.src → f.k = 0 → h.transition = none) ∧
    (x ≠ f.dst → x = f.src → f.k ≠ 0 →
      h.transition = some { src := f.dst, dst := f.src, k := f.n - f.k, n := f.n })

/-- From R122: a WRITE to Group State is a batched SET_GROUP: all of its entries or none, INVALID before FORBIDDEN,
and each group's fade as SET_GROUP has it, in flight too (R108, R109; log 31). R89: in CHANGING, with the on-air rig
not down and no exchange pending, it completes the changeover where it leaves every FOLLOW group on the on-air rig,
and else leaves it running; in STOPPED, STEADY, and BLIND without a late failover it touches the Group Mixer alone. -/
def Obligations.WriteGroupStateIsBatched : Prop :=
  ∀ (s : State) (q : Port) (first : Nat) (data : List Byte) (count : Nat),
    let p := s.opened q (4 + data.length)
    let mode := fun k : Nat => groupModeOf (data.getD (16 * k) 0)
    let one := fun k : Nat => boolOf (data.getD (16 * k + 1) 0)
    let legal := ∀ k < count, mode k ≠ none ∧ one k ≠ none
    let someForbidden := ∃ (k : Nat) (i : Fin 8) (m : GroupMode) (o : Bool), k < count ∧ i.val = first + k ∧
      mode k = some m ∧ one k = some o ∧ ForbiddenOf (p.mixer.groups.get i) m o
    p.operates q = true → 1 ≤ count → first + count ≤ 8 → data.length = 16 * count →
    ∃ t, exec (.writeGroupState q (writeBody 5 first count data)) s = .next t ∧
      (¬ legal → RefusedWith p t q .invalid) ∧
      (legal → someForbidden → RefusedWith p t q .forbidden) ∧
      (legal → ¬ someForbidden → ChangeoverRuns p → ChangeoverTested [.mixer, .ports] p t) ∧
      (legal → ¬ someForbidden → ArbiterAtRest p → Touches [.mixer, .ports] p t) ∧
      (legal → ¬ someForbidden → ArbiterAtRest p ∨ ChangeoverRuns p →
        DoneOn t q ∧ t.mixer = { p.mixer with groups := t.mixer.groups } ∧
        (∀ j : Fin 8, j.val < first ∨ first + count ≤ j.val → t.mixer.groups.get j = p.mixer.groups.get j) ∧
        ∀ (k : Nat) (i : Fin 8) (m : GroupMode) (o : Bool), k < count → i.val = first + k → mode k = some m →
          one k = some o →
          let e := p.bank.front.group.get i
          GroupTaken e.fadeLength (targetOf p.arbiter e.policy m) m o (p.mixer.groups.get i) (t.mixer.groups.get i))

/-- From R111: a transition whose production has reached N completes and the target is evaluated afresh. R89: in
CHANGING, with the on-air rig not down and no exchange pending, it completes the changeover where it leaves every
FOLLOW group on the on-air rig, and else leaves it running; in STOPPED, STEADY, and BLIND without a late failover it
touches the Group Mixer alone. Whatever exchange stands pending and whether or not the on-air rig is down, the
completion is that of ChangeoverCompleted: into BLIND with BLIND_ENTERED and the test for a late failover where the
rig is down (R93, R94), and with the exchange that fell due while CHANGING carried out (R170), under the model's
choices and deductions that LastGroupCompletesChangeover names (logs 16, 31, 35, 40 and 47). A transition short of N,
or none, leaves the part as it is. -/
def Obligations.TransitionCompletes : Prop :=
  ∀ (s : State) (i : Fin 8),
    let p := s.prepare
    let g := p.mixer.groups.get i
    let e := p.bank.front.group.get i
    let target := targetOf p.arbiter e.policy g.mode
    let landed := fun (f : Transition) (u : State) => u.mixer = { p.mixer with groups := u.mixer.groups } ∧
      (∀ j, j ≠ i → u.mixer.groups.get j = p.mixer.groups.get j) ∧
      (target = f.dst → u.mixer.groups.get i = { g with current := f.dst, transition := none, target := target }) ∧
      (target ≠ f.dst → e.fadeLength ≠ 0 → u.mixer.groups.get i = { g with
        current := f.dst, target := target
        transition := some { src := f.dst, dst := target, k := 0, n := e.fadeLength } }) ∧
      (target ≠ f.dst → e.fadeLength = 0 →
        u.mixer.groups.get i = { g with current := target, target := target, transition := none })
    ∃ t, exec (.transitionComplete i) s = .next t ∧
      ((∀ f, g.transition = some f → f.k ≠ f.n) → t = p) ∧
      ∀ f, g.transition = some f → f.k = f.n →
        (ChangeoverRuns p → ChangeoverTested [.mixer] p t) ∧
        (ArbiterAtRest p → Touches [.mixer] p t) ∧
        (ArbiterAtRest p ∨ ChangeoverRuns p → landed f t) ∧
        ∀ r, p.arbiter.state = .changing → p.arbiter.onAir = some r →
          ∃ u, Touches [.mixer] p u ∧ landed f u ∧ (u.completionHolds = false → t = u) ∧
            (u.completionHolds = true → ChangeoverCompleted u t r)

/-- From R113: the crossfade arithmetic, its bounds and its last step. -/
def Obligations.CrossfadeArithmetic : Prop :=
  (∀ (k n : Nat) (xFrom xTo : Sample), 1 ≤ k → k ≤ n → n ≤ 4095 →
    let wTo : Int := k * 32768 / n
    let wFrom : Int := 32768 - wTo
    let out := (mixSample k n xFrom xTo).toInt
    0 ≤ wTo ∧ 0 ≤ wFrom ∧ out = (xFrom.toInt * wFrom + xTo.toInt * wTo + 16384) / 32768 ∧
    min xFrom.toInt xTo.toInt ≤ out ∧ out ≤ max xFrom.toInt xTo.toInt ∧ (k = n → wTo = 32768 ∧ mixSample k n xFrom xTo = xTo)) ∧
  ∀ (s : State) (i : Fin 64),
    let e := s.bank.front.route.get i
    let g := s.mixer.groups.get e.group
    s.sourceSample e .silent = 0 ∧
    (e.enable = true → ∀ f, g.transition = some f →
      s.channelSample i = mixSample f.k f.n (s.sourceSample e f.src) (s.sourceSample e f.dst)) ∧
    (e.enable = true → g.transition = none → s.channelSample i = s.sourceSample e g.current)

/-- From R4, R18, R61, R114: a sample instant: S moves on by one, both lines take a frame at S, and one output frame
is sent, its upper bytes and its disabled channels 0, on each lane a frame marker and then its sixteen words, each
channel's sample as its route entry and its group give it after R111 has moved every transition in flight on by one.
R39: the tick end is due exactly where the new S modulo P is 0. R20 to R23, R34: each parser takes the pilot slot word
of the frame handed on, with S for its stamp, and its beacon age rises by one up to 65,535, but where the age was set
at this moment; CORRUPT is evidence exactly where the word abandons a beacon, SLIP where the read found the store
empty. A command reaches a sample instant by way of State.sampleInstant: what the present instant still has due is
taken first, in the model's order (log 2), each event as its own command takes it, and then the next instant comes.
After it nothing of the present instant is left: no beacon awaits its judgement, no tick end, lamp step or examination
stands due, and each rig's health state is handed on. Where nothing stands due it leaves the part as it is but for
what is kept of the instant and the mark of an examination that gives no record. R42, R43: each Guard Monitor judges
the frame's samples of the first four guarded entries, the first sample of a tick with its marks and the playing mark,
a later one against the first. The evidence is judged inside the instant, Rig A's first: the model's choice (logs 15
and 60). From R61: a delay of 0 gives the sample handed on at S itself, a delay d up to 1023 the one handed on d
instants before. From R14: the read of the elastic store at a sample instant: its oldest frame, or on an empty store
the last read frame again and a slip; a link that is not LOCKED hands on zeros (R16). -/
def Obligations.SampleInstantDelayAndStore : Prop :=
  (∀ s : State,
    let u := s.instantBlocks.1
    let raised := s.instantBlocks.2
    let t := s.instant
    let S := s.clock.count + 1
    t = ((u.takeEvidence .a raised.a).takeEvidence .b raised.b).handNew ∧ Touches eventBlocks u t ∧
    Touches [.clock, .links, .parsers, .guards, .lines, .mixer, .showClock, .tcOutput, .lamps, .tickDue] s u ∧
    t.clock = { s.clock with count := S, sinceInstant := 0, absorbing := false, joining := false } ∧
    (t.tickDue = true ↔ S.toNat % s.bank.setup.period.samples = 0) ∧
    (∀ i, u.mixer.groups.get i =
      let g := s.mixer.groups.get i
      { g with transition := g.transition.map fun f => { f with k := if f.k < f.n then f.k + 1 else f.k } }) ∧
    (∃ out, t.mixer.output = some out ∧ u.mixer.output = some out ∧
      (∀ l : Fin 4, t.mixer.lanes.get l =
        .marker :: (List.finRange 16).map fun k => .word (out.get ⟨16 * l.val + k.val, by omega⟩)) ∧
      ∀ i : Fin 64, out.get i = (u.channelSample i).setWidth 32 ∧
        (out.get i).extractLsb' 24 8 = 0 ∧ ((s.bank.front.route.get i).enable = false → out.get i = 0)) ∧
    ∀ r : Rig,
      let l := s.links.get r
      let frame := l.read.1
      let old := s.parsers.get r
      let w := frame.get (s.bank.setup.pilot.get r)
      let g := s.guards.get r
      let h := u.guards.get r
      let xs := (((List.finRange 64).filter fun i => (s.bank.front.route.get i).guardFlag).take 4).map fun i =>
        frame.get (match r with | .a => (s.bank.front.route.get i).slotA | .b => (s.bank.front.route.get i).slotB)
      let silent := fun x : Sample => decide (x.toInt.natAbs < 2 ^ s.bank.front.monitor.silenceExponent)
      (t.lines.get r).rings = ringWrite (s.lines.get r).rings (ringPos S) frame ∧
      u.parsers.get r = ({ old with
        age := if old.ageSet then old.age else old.age.map fun n => min 65535 (n + 1), ageSet := false }.word S w).1 ∧
      (∀ k, (raised.get r).get k = true ↔
        (k = FaultKind.slip.idx ∧ l.state = .locked ∧ l.store = []) ∨
        (k = FaultKind.corrupt.idx ∧ old.assembly ≠ .waiting ∧ w.extractLsb' 16 8 ≠ 0x5A)) ∧
      (g.void = true → h = g) ∧
      (g.void = false → g.marks = none →
        h = { g with
          playing := h.playing, marks := some (xs.map fun x => { first := x, silent := silent x, steady := true }) } ∧
        (h.playing = true ↔ ∃ rec, old.record = some rec ∧ rec.transport = .playing)) ∧
      (g.void = false → ∀ ms, g.marks = some ms →
        h = { g with marks := some (ms.zipWith
          (fun m x => { m with silent := m.silent && silent x, steady := m.steady && decide (x = m.first) }) xs) })) ∧
  (∀ s : State,
    let t := s.closeInstant
    let a := (List.finRange 8).foldl State.takeTransitionComplete s.resolve.takeInstantEvidence
    let b := (a.takeSlewStep.takeTickEnd .a).resolve.handBoth.takeRecordSendEnd.takeFrameBoundary.resolve
    s.sampleInstant = t.instant ∧ t = b.takeHeldRecord.takeLampStep.endInstant ∧ Touches dueBlocks s t ∧
    t.tickDue = false ∧ t.lamps.due = false ∧ t.showClock.examine = false ∧ t.instantHealth.unguarded = none ∧
    (∀ r, (t.parsers.get r).judging = none ∧ (t.health.get r).relapsed = false ∧
      t.instantHealth.handing.get r = { before := (t.health.get r).state, handed := (t.health.get r).state }) ∧
    (s.quiet = true → Touches [.health, .showClock] s t ∧ t.showClock = { s.showClock with examine := false } ∧
      ∀ r, t.health.get r = { s.health.get r with relapsed := false })) ∧
  (∀ (s : State) (r : Rig) (i : Fin 8),
    exec (.missingFrame r) s = .next (s.prepare.takeMissingFrame r) ∧
    exec (.linkAbsent r) s = .next (s.prepare.takeLinkAbsent r) ∧
    exec (.beaconComplete r []) s = .next (s.prepare.judgeBeacon r []) ∧
    exec (.missingPresent r) s = .next (s.prepare.takeMissingPresent r) ∧
    exec (.healthTickEnd r) s = .next (s.prepare.takeTickEnd r) ∧
    exec (.transitionComplete i) s = .next (s.prepare.takeTransitionComplete i) ∧
    exec .slewStep s = .next s.prepare.takeSlewStep ∧ exec .recordSendEnd s = .next s.prepare.takeRecordSendEnd ∧
    exec .frameBoundary s = .next s.prepare.takeFrameBoundary ∧ exec .heldRecord s = .next s.prepare.takeHeldRecord ∧
    exec .lampStepBoundary s = .next s.prepare.takeLampStep) ∧
  (∀ (s : State) (r : Rig) (slot : Fin 64) (f : Frame) (old : Rings), Rings.wf old →
     (s.lines.get r).rings = ringWrite old (ringPos s.clock.count) f → (s.lines.get r).delay ≤ 1023 →
     ((s.lines.get r).delay = 0 → s.delayed r slot = f.get slot) ∧
     ((s.lines.get r).delay ≠ 0 →
       s.delayed r slot =
         (ringRead old ((s.clock.count - BitVec.ofNat 32 (s.lines.get r).delay).toNat % 1024)).get slot)) ∧
  ∀ l : LinkRx,
    (l.state ≠ .locked → l.read = (zeroFrame, l, false)) ∧
    (l.state = .locked → ∀ f rest, l.store = f :: rest →
      l.read = (f, { l with store := rest, lastRead := some f }, false)) ∧
    (l.state = .locked → l.store = [] →
      l.read = (l.lastRead.getD zeroFrame, { l with slips := l.slips + 1 }, true))

/-! ### The Show Clock and the Timecode Output (chapter 7) -/

/-- From R126: the timecode F frames after a start timecode, modulo 24 hours. -/
def Obligations.TimecodeCountsFrames : Prop :=
  ∀ (fps : Nat) (start : Timecode) (frames : Nat), 0 < fps →
    let x := timecodeAt fps start frames
    x.h < 24 ∧ x.m < 60 ∧ x.s < 60 ∧ x.fr < fps ∧
    ((x.h * 60 + x.m) * 60 + x.s) * fps + x.fr =
      (((start.h * 60 + start.m) * 60 + start.s) * fps + start.fr + frames) % (86400 * fps)

/-- From R135, R130: at the freewheel limit the clock holds the last emitted timecode and hands over its first HELD
record. With no record emitted since IDLE, as at a limit of 0 or a lowered one, it holds the timecode then shown,
which is the model's choice (log 18). That C is absent in HELD is the model's deduction (log 11: R130 discards it,
where R125's table lists it). The last emitted timecode keeps the flags the clock gave the record, where it merges
with a replaced waiting record too: the model's choice (log 46). With no sending under way the record's sending
begins, the line bearing its first start bit from this very instant: the model's deduction (log 28). From R136, R137:
the HELD record at the hold cadence, and what follows when a sending ends. R196: on the timecode line a record is its
nine bytes, each a start bit, eight data bits with the least significant first, and a stop bit, 2 sample periods to
the bit at 48 kHz and 4 at 96 kHz; the line idles high. That a record keeps, across a change of the rate, the bit
length and the periods left that the rate gave it as its sending began (log 38), and that its first start bit stands
on the line from the very instant its sending begins, its periods counted from there (log 28), are the model's
deductions, which R196 does not state. What a sample instant does to the Timecode Output is its tick. -/
def Obligations.HeldClockAndSendEnd : Prop :=
  (∀ (s : State) (n : Nat), s.showClock.state = .freewheel → s.showClock.freewheelCounter = some n →
     s.showClock.control.freewheelLimit ≤ n →
     let value := match s.showClock.emitted, s.showClock.lastEmitted with
       | true, some (x, _) => x
       | _, _ => s.derived.1
     let held : TcFlags := { noTcFlags with held := true }
     ∃ t, exec .freewheelLimit s = .next t ∧ Touches [.showClock, .tcOutput] s t ∧
       t.showClock = { s.showClock with
         state := .held, anchor := none, slewCounter := none, freewheelCounter := none, lastFrame := .absent
         jumped := false, songChanged := false, heldValue := some value, cadence := some 0, cadenceDue := false
         lastEmitted := some (value, held), emitted := true } ∧
       (s.tcOutput.sending = none → t.tcOutput = { s.tcOutput with
         sending := some { record := { tc := value, rate := s.bank.setup.frameRate.fps, song := s.clockSong, flags := held }
                           left := s.bank.setup.recordPeriods, bit := s.bank.setup.bitPeriods }
         line := false })) ∧
  (∀ (s : State) (x : Timecode),
    let p := s.prepare
    let held : TcFlags := { noTcFlags with held := true }
    p.showClock.state = .held → p.showClock.heldValue = some x → p.showClock.cadenceDue = true →
    ∃ t, exec .heldRecord s = .next t ∧ Touches [.showClock, .tcOutput] p t ∧
      t.showClock = { p.showClock with cadenceDue := false, lastEmitted := some (x, held), emitted := true } ∧
      (p.tcOutput.sending = none → t.tcOutput = { p.tcOutput with
        sending := some { record := { tc := x, rate := p.bank.setup.frameRate.fps, song := p.clockSong, flags := held }
                          left := p.bank.setup.recordPeriods, bit := p.bank.setup.bitPeriods }
        line := false })) ∧
  (∀ (s : State) (y : Sending),
    let p := s.prepare
    p.tcOutput.sending = some y → y.left = 0 →
    ∃ t, exec .recordSendEnd s = .next t ∧ Touches [.tcOutput] p t ∧ t.tcOutput.waiting = none ∧
      (p.tcOutput.waiting = none → t.tcOutput.sending = none ∧ t.tcOutput.line = true) ∧
      ∀ w, p.tcOutput.waiting = some w → t.tcOutput.line = false ∧
        t.tcOutput.sending =
          some { record := w, left := p.bank.setup.recordPeriods, bit := p.bank.setup.bitPeriods }) ∧
  (∀ x : TcOutput, x.sending = none → x.tick = { x with line := true }) ∧
  ∀ (x : TcOutput) (y : Sending) (k : Fin 9) (j : Fin 10), x.sending = some y →
    let t := x.tick
    let n := 10 * k.val + j.val
    let f := y.record.flags
    let flags := byte ((if f.preroll then 1 else 0) + (if f.jumped then 2 else 0) + (if f.songChanged then 4 else 0) +
      (if f.freewheel then 8 else 0) + (if f.held then 16 else 0))
    let fields := [0xE7, byte y.record.tc.h, byte y.record.tc.m, byte y.record.tc.s, byte y.record.tc.fr,
      byte y.record.rate, y.record.song, flags]
    let sent := (fields ++ [xorAll fields]).getD k.val 0
    t.waiting = x.waiting ∧ t.sending = some { y with left := y.left - 1 } ∧ (y.left - 1 = 0 → t.line = true) ∧
    ((89 - n) * y.bit < y.left - 1 → y.left - 1 ≤ (90 - n) * y.bit →
      (j.val = 0 → t.line = false) ∧ (j.val = 9 → t.line = true) ∧
      (1 ≤ j.val → j.val ≤ 8 → t.line = sent.getLsbD (j.val - 1)))

/-- From R136, R137: the examination of a sample instant: a record where the last frame count asks for one, its flags,
and where the Timecode Output puts it; else no record. The last emitted timecode keeps the flags the clock gave the
record, where it merges with a replaced waiting record too: the model's choice (log 46). With no sending under way the
record's sending begins, the line bearing its first start bit from this very instant: the model's deduction (log 28).
-/
def Obligations.FrameBoundaryRecord : Prop :=
  ∀ s : State,
    let p := s.prepare
    let c := p.showClock
    let preroll := decide (p.elapsed < 0)
    let x := if preroll then p.startOf p.clockSong
      else timecodeAt p.bank.setup.frameRate.fps (p.startOf p.clockSong) p.frameCount
    let last : LastFrame := if preroll then .preroll else .count p.frameCount
    let due := (preroll = true ∧ c.lastFrame = .absent) ∨ (preroll = false ∧ c.lastFrame ≠ .count p.frameCount)
    let flags : TcFlags :=
      { preroll, jumped := c.jumped, songChanged := c.songChanged, freewheel := c.state == .freewheel, held := false }
    let record : TcRecord := { tc := x, rate := p.bank.setup.frameRate.fps, song := p.clockSong, flags }
    c.examine = true → (c.state = .running ∨ c.state = .slewing ∨ c.state = .freewheel) →
    ∃ t, exec .frameBoundary s = .next t ∧ Touches [.showClock, .tcOutput] p t ∧
      (¬ due → t.tcOutput = p.tcOutput ∧ t.showClock = { c with examine := false }) ∧
      (due →
        t.showClock = { c with
          examine := false, jumped := false, songChanged := false, lastFrame := last
          freewheelCounter := if preroll then c.freewheelCounter else c.freewheelCounter.map (· + 1)
          lastEmitted := some (x, flags), emitted := true } ∧
        (p.tcOutput.sending = none → t.tcOutput =
          { p.tcOutput with
            sending := some { record, left := p.bank.setup.recordPeriods, bit := p.bank.setup.bitPeriods }
            line := false }) ∧
        (p.tcOutput.sending ≠ none → p.tcOutput.waiting = none →
          t.tcOutput = { p.tcOutput with waiting := some record }) ∧
        ∀ old, p.tcOutput.sending ≠ none → p.tcOutput.waiting = some old →
          t.tcOutput = { p.tcOutput with waiting := some { record with flags := { flags with
            jumped := c.jumped || old.flags.jumped, songChanged := c.songChanged || old.flags.songChanged } } })

/-- From R128: a correction: no error, a slew within the window, a jump beyond it. From R133: a slew step that is due
moves C by one toward the target and ends SLEWING where it meets it. -/
def Obligations.CorrectionAndSlewStep : Prop :=
  (∀ (s : State) (anchor target : Stamp), s.showClock.anchor = some anchor →
     let e := stampDiff target anchor
     let t := s.clockCorrect target
     Touches [.showClock, .ports] s t ∧ t.showClock.target = some target ∧ t.showClock.lastError = some e ∧
     t.showClock.freewheelCounter = none ∧
     (e = 0 → t.showClock.state = .running ∧ t.showClock.anchor = some anchor ∧ t.showClock.slewCounter = none) ∧
     (e ≠ 0 → e.natAbs ≤ s.showClock.control.slewWindow →
       t.showClock.state = .slewing ∧ t.showClock.anchor = some anchor ∧ t.ports = s.ports ∧
       t.showClock.slewCounter = (if s.showClock.state = .slewing then s.showClock.slewCounter else some 0)) ∧
     (s.showClock.control.slewWindow < e.natAbs →
       t.showClock.state = .running ∧ t.showClock.anchor = some target ∧ t.showClock.slewCounter = none ∧
       t.showClock.jumped = true ∧ t.showClock.lastFrame = .absent ∧ Noted t .clockJumped)) ∧
  ∀ (s : State) (n : Nat) (anchor target : Stamp),
    let p := s.prepare
    let moved := if 0 < stampDiff target anchor then anchor + 1 else anchor - 1
    p.showClock.state = .slewing → p.showClock.slewCounter = some n → p.showClock.anchor = some anchor →
    p.showClock.target = some target → p.showClock.control.slewRate ≤ n →
    ∃ t, exec .slewStep s = .next t ∧ Touches [.showClock] p t ∧
      (moved = target → t.showClock =
        { p.showClock with anchor := some target, state := .running, slewCounter := none }) ∧
      (moved ≠ target → t.showClock = { p.showClock with anchor := some moved, slewCounter := some 0 })

/-- From R140: CLOCK_FINISH ends a slew in one marked step, and the slew step that would have followed does not occur;
in every other state it changes nothing. -/
def Obligations.ClockFinishEndsSlew : Prop :=
  ∀ s : State,
    let p := s.opened .p 1
    ∃ t, exec (.clockFinish .p (withCheck 0x32 [])) s = .next t ∧
      (p.showClock.state ≠ .slewing → DoneOnly p t .p) ∧
      (p.showClock.state = .slewing → DoneOn t .p ∧ Touches [.showClock, .ports] p t ∧
        t.showClock = { p.showClock with
          anchor := p.showClock.target, state := .running, slewCounter := none, jumped := true, lastFrame := .absent } ∧
        Noted t .clockJumped ∧ t.takeSlewStep = t)

/-- From R139: a WRITE to Clock Control: BUSY while SLEWING, else its three fields, clamped. -/
def Obligations.ClockControlIsClamped : Prop :=
  ∀ (s : State) (wh wl rh rl l : Byte),
    let p := s.opened .p 9
    ∃ t, exec (.writeClockControl .p (writeBody 25 0 1 [wh, wl, rh, rl, l])) s = .next t ∧
      (p.showClock.state = .slewing → RefusedWith p t .p .busy) ∧
      (p.showClock.state ≠ .slewing → DoneOn t .p ∧ OnlyPort .p { p with showClock := t.showClock } t ∧
        t.showClock = { p.showClock with control :=
          { slewWindow := min 48000 (wh.toNat * 256 + wl.toNat)
            slewRate := max 100 (min 10000 (rh.toNat * 256 + rl.toNat))
            freewheelLimit := l.toNat } })

/-! ### The Clock Input (chapter 1) -/

/-- From R5: a house clock edge in LOCKED: counted from half a nominal period on, and at the join; else a glitch or
the absorbed edge, which changes nothing but the time of the last edge. That an edge at exactly half a period after a
substituted increment counts, and that the first edge of a join counts without the test, are the model's choices (log
8, log 7). From R3, R7: a house clock edge in HOLDOVER ends a house period: a good one counts, a bad one clears; S is
not driven. At 1024 the Clock Input returns to LOCKED with its phase join. R4: a counted edge, and a return joined at
once, is a sample instant of every block (SampleInstantDelayAndStore). -/
def Obligations.HouseClockEdge : Prop :=
  (∀ (s : State) (dt : Nat),
     let m := s.prepare.elapse dt
     m.clock.source = .locked →
     ∃ t, exec (.houseClockEdge dt) s = .next t ∧ t.clock.source = .locked ∧ t.clock.sinceEdge = some 0 ∧
       t.clock.absorbing = false ∧
       (m.clock.joining = true ∨ m.nominal ≤ 2 * m.clock.sinceInstant →
         t.clock.count = m.clock.count + 1 ∧ t.clock.sinceInstant = 0 ∧ t.clock.joining = false ∧
         t = m.sampleInstant.setClock { m.sampleInstant.clock with sinceEdge := some 0, absorbing := false }) ∧
       (m.clock.joining = false → 2 * m.clock.sinceInstant < m.nominal →
         Touches [.clock] m t ∧ t.clock = { m.clock with sinceEdge := some 0, absorbing := false })) ∧
  (∀ (s : State) (dt d : Nat),
    let m := s.prepare.elapse dt
    m.clock.source = .holdover → m.clock.sinceEdge = some d →
    ∃ t, exec (.houseClockEdge dt) s = .next t ∧ Touches [.clock] m t ∧ t.clock.count = m.clock.count ∧
      t.clock.source = .holdover ∧ t.clock.sinceInstant = m.clock.sinceInstant ∧ t.clock.sinceEdge = some 0 ∧
      (7 * m.nominal ≤ 8 * d ∧ 8 * d ≤ 9 * m.nominal → t.clock.returnCounter = min 1024 (m.clock.returnCounter + 1)) ∧
      (8 * d < 7 * m.nominal ∨ 9 * m.nominal < 8 * d → t.clock.returnCounter = 0)) ∧
  ∀ s : State,
    let locked := (s.setClock { s.clock with source := .locked, returnCounter := 0 }).raiseAll .clockHoldover
    s.clock.source = .holdover → 1024 ≤ s.clock.returnCounter →
    ∃ t, exec .clockReturn s = .next t ∧ t.clock.source = .locked ∧ t.clock.returnCounter = 0 ∧ Noted t .clockHoldover ∧
      (s.nominal ≤ 2 * s.clock.sinceInstant →
        t.clock.count = s.clock.count + 1 ∧ t.clock.sinceInstant = 0 ∧ t.clock.joining = false ∧
        t = locked.sampleInstant) ∧
      (2 * s.clock.sinceInstant < s.nominal →
        Touches [.clock, .ports] s t ∧ t.clock.count = s.clock.count ∧ t.clock.joining = true ∧
        t = locked.setClock { locked.clock with joining := true })

/-- From R4, R5: the increments the internal reference supplies, each at its own moment: in LOCKED the substituted
one, 9/8 of a nominal period after the previous sample instant where no loss comes first, also where a glitch or an
absorbed edge has come since, and 3/2 of a period while the first house-driven increment after a return is awaited:
the model's choices (logs 41 and 7). In HOLDOVER one a nominal period after the previous one, at once where more has
passed, which is the model's choice (log 49). From R6, R7: four nominal periods without an edge: the loss in LOCKED,
the return counter's clearing in HOLDOVER, each at the moment the fourth period ends. -/
def Obligations.ReferenceIncrementsAndSilence : Prop :=
  (∀ s : State,
    let p := s.prepare
    let due := if p.clock.joining then p.nominal * 3 / 2 else p.nominal * 9 / 8
    let wait := due - p.clock.sinceInstant
    p.clock.source = .locked → (∀ d, p.clock.sinceEdge = some d → wait ≤ 4 * p.nominal - d) →
    ∃ t, exec .substitutedIncrement s = .next t ∧ t.clock.source = .locked ∧ t.clock.count = p.clock.count + 1 ∧
      t.clock.sinceInstant = 0 ∧ t.clock.absorbing = true ∧ t.clock.joining = false ∧
      t.clock.sinceEdge = p.clock.sinceEdge.map (· + wait) ∧
      t = (p.elapse wait).sampleInstant.setClock { t.clock with absorbing := true }) ∧
  (∀ s : State,
     let p := s.prepare
     let wait := p.nominal - p.clock.sinceInstant
     p.clock.source = .holdover →
     ∃ t, exec .holdoverIncrement s = .next t ∧ t.clock.source = .holdover ∧ t.clock.count = p.clock.count + 1 ∧
       t.clock.sinceInstant = 0 ∧ t.clock.sinceEdge = p.clock.sinceEdge.map (· + wait) ∧
       t = (p.elapse wait).sampleInstant) ∧
  (∀ (s : State) (d : Nat),
    let p := s.prepare
    p.clock.source = .locked → p.clock.sinceEdge = some d →
    ∃ t, exec .clockLoss s = .next t ∧ t.clock.source = .holdover ∧ t.clock.returnCounter = 0 ∧ Noted t .clockHoldover ∧
      t.clock.sinceEdge = some (max d (4 * p.nominal)) ∧
      (4 * p.nominal ≤ d → Touches [.clock, .ports] p t ∧ t.clock.count = p.clock.count ∧
        t.clock.sinceInstant = p.clock.sinceInstant)) ∧
  ∀ (s : State) (d : Nat),
    let p := s.prepare
    p.clock.source = .holdover → p.clock.returnCounter ≠ 0 → p.clock.sinceEdge = some d →
    ∃ t, exec .returnCounterTimeout s = .next t ∧ t.clock.source = .holdover ∧ t.clock.returnCounter = 0 ∧
      t.clock.sinceEdge = some (max d (4 * p.nominal)) ∧
      (4 * p.nominal ≤ d → Touches [.clock] p t ∧ t.clock = { p.clock with returnCounter := 0 })

/-! ### The Link Receivers (chapter 1) -/

/-- From R9, R10, R11, R13: a lane frame marker. A missing frame or an absence that stands due of its link is taken
before it: the model's choice (log 2). It opens a window or joins the open one; that a marker of a lane without one in
the open window joins it, also where it cuts short a lane frame of an earlier window, where R9 closes a window at a
marker that cuts a frame short, is the model's choice (log 50). An ABSENT link enters ACQUIRING, with a window still
open too. A second marker on a lane closes the window bad, counts the errors of that lane and of each lane its operand
says was not complete, which is the model's choice (log 9), and opens the next window. The bad frame clears an
acquisition; in LOCKED the first in a row is concealed by a copy with its pilot word 0, the second takes the link to
ACQUIRING. -/
def Obligations.LaneMarkerAndWindow : Prop :=
  ∀ (s : State) (dt : Nat) (r : Rig) (lane : Fin 4) (complete : Table 4 Bool),
    let m := (s.prepare.elapse dt).linkDues r
    let l := m.links.get r
    let only : Table 4 Bool := (Table.fill 4 false).set lane true
    ∃ t, exec (.laneFrameMarker dt r lane complete) s = .next t ∧ (t.links.get r).sinceMarker = 0 ∧
      (l.window = none → Touches [.links] m t ∧ t.links.get r.other = m.links.get r.other ∧
        (t.links.get r).window = some { age := 0, marked := only, frames := noLanes } ∧ (t.links.get r).sinceWindow = 0 ∧
        (l.state = .absent → (t.links.get r).state = .acquiring ∧ (t.links.get r).acquisition = 0) ∧
        (l.state ≠ .absent → t.links.get r = { l with
          sinceMarker := 0, sinceWindow := 0, window := some { age := 0, marked := only, frames := noLanes } })) ∧
      (∀ w, l.window = some w → 2 * w.age ≤ 3 * m.nominal → w.marked.get lane = false → l.state ≠ .absent →
        Touches [.links] m t ∧ t.links.get r.other = m.links.get r.other ∧
        t.links.get r =
          { l with sinceMarker := 0, window := some { w with marked := w.marked.set lane true } }) ∧
      (∀ w, l.window = some w → 2 * w.age ≤ 3 * m.nominal → w.marked.get lane = true → l.state ≠ .absent →
        (t.links.get r).window = some { age := 0, marked := only, frames := noLanes } ∧
        (∀ k : Fin 4, (t.links.get r).laneErrors.get k =
          (if k = lane ∨ complete.get k = false then l.laneErrors.get k + 1 else l.laneErrors.get k)) ∧
        (l.state = .acquiring →
          (t.links.get r).state = .acquiring ∧ (t.links.get r).acquisition = 0 ∧ (t.links.get r).kept = []) ∧
        (l.state = .locked → l.badFrames = 0 → l.store.length < 8 → ∀ f, l.lastWritten = some f →
          (t.links.get r).state = .locked ∧ (t.links.get r).badFrames = 1 ∧
          (t.links.get r).store = l.store ++ [f.set (m.bank.setup.pilot.get r) 0]) ∧
        (l.state = .locked → l.badFrames ≠ 0 →
          (t.links.get r).state = .acquiring ∧ (t.links.get r).acquisition = 0 ∧ (t.links.get r).store = [])) ∧
      (∀ w, l.window = some w → 2 * w.age ≤ 3 * m.nominal → l.state = .absent →
        let woken := { l with state := .acquiring, acquisition := 0, kept := [], sinceMarker := 0 }
        (w.marked.get lane = false → Touches [.links] m t ∧ t.links.get r.other = m.links.get r.other ∧
          t.links.get r = { woken with window := some { w with marked := w.marked.set lane true } }) ∧
        (w.marked.get lane = true →
          t.links.get r =
            { woken with window := some { age := 0, marked := only, frames := noLanes }, sinceWindow := 0 }))

/-- From R9, R11, R12, R15: a window that closes with all four lanes is a good frame: counted and kept while
ACQUIRING, written to the store while LOCKED, an overrun slip where the store is full. -/
def Obligations.GoodFrameArrival : Prop :=
  ∀ (s : State) (dt : Nat) (r : Rig) (lanes : LaneFrames) (w : Window),
    let m := s.prepare.elapse dt
    let l := m.links.get r
    let f := gather lanes
    l.window = some w → m.nominal ≤ 4 * w.age → 2 * w.age ≤ 3 * m.nominal →
    (∀ k, w.marked.get k = true ∧ (lanes.get k).isSome = true) →
    ∃ t, exec (.frameArrival dt r lanes) s = .next t ∧ (t.links.get r).window = none ∧
      (t.links.get r).laneErrors = l.laneErrors ∧
      (l.state = .acquiring → Touches [.links] m t ∧
        (t.links.get r).acquisition = min 64 (l.acquisition + 1) ∧
        (t.links.get r).kept = (l.kept ++ [f]).drop ((l.kept ++ [f]).length - 4)) ∧
      (l.state = .locked → l.store.length < 8 → Touches [.links] m t ∧
        (t.links.get r).store = l.store ++ [f] ∧ (t.links.get r).badFrames = 0 ∧ (t.links.get r).slips = l.slips) ∧
      (l.state = .locked → 8 ≤ l.store.length →
        (t.links.get r).store = l.store.drop 1 ++ [f] ∧ (t.links.get r).badFrames = 0 ∧
        (t.links.get r).slips = l.slips + 1) ∧
      ∀ (lane : Fin 4) (k : Fin 16) (words : Table 16 SlotWord), lanes.get lane = some words →
        f.get ⟨16 * lane.val + k.val, by omega⟩ = (words.get k).setWidth 24

/-- From R10, R12: a missing frame is a bad frame and one error of every lane: it clears an acquisition; in LOCKED the
first in a row is concealed by a copy with its pilot word 0, the second leaves the loss of lock due. From R9: the
lanes deliver frames to an open window. While it is younger than a quarter of a nominal period, or a lane frame whose
marker it holds is still owed and the limit of one and a half periods is not reached, it stays open and keeps what was
delivered; else it closes, and without some lane it is a bad frame and the error of each lane it lacks is counted.
What arrives where no window is open any more is delivered to none. -/
def Obligations.BadFrames : Prop :=
  (∀ (s : State) (r : Rig),
     let p := s.prepare
     let l := p.links.get r
     l.state ≠ .absent → 2 ≤ l.sinceWindow →
     ∃ t, exec (.missingFrame r) s = .next t ∧ (t.links.get r).sinceWindow = 0 ∧
       (∀ k, (t.links.get r).laneErrors.get k = l.laneErrors.get k + 1) ∧
       (l.state = .acquiring → Touches [.links] p t ∧ (t.links.get r).acquisition = 0 ∧ (t.links.get r).kept = []) ∧
       (l.state = .locked → l.badFrames = 0 → l.store.length < 8 → ∀ f, l.lastWritten = some f →
         Touches [.links] p t ∧ (t.links.get r).badFrames = 1 ∧
         (t.links.get r).store = l.store ++ [f.set (p.bank.setup.pilot.get r) 0]) ∧
       (l.state = .locked → l.badFrames ≠ 0 →
         Touches [.links] p t ∧ (t.links.get r).badFrames = 2 ∧ (t.links.get r).store = l.store)) ∧
  (∀ (s : State) (dt : Nat) (r : Rig) (lanes : LaneFrames), ((s.prepare.elapse dt).links.get r).window = none →
    exec (.frameArrival dt r lanes) s = .next (s.prepare.elapse dt)) ∧
  ∀ (s : State) (dt : Nat) (r : Rig) (lanes : LaneFrames) (w : Window),
    let m := s.prepare.elapse dt
    let l := m.links.get r
    let delivered := fun k : Fin 4 =>
      w.marked.get k = true ∧ ((lanes.get k).isSome = true ∨ (w.frames.get k).isSome = true)
    let owed := ∃ k, w.marked.get k = true ∧ ¬ delivered k
    l.window = some w → 2 * w.age ≤ 3 * m.nominal →
    ∃ t, exec (.frameArrival dt r lanes) s = .next t ∧
      (4 * w.age < m.nominal ∨ (owed ∧ 2 * w.age < 3 * m.nominal) →
        Touches [.links] m t ∧ t.links.get r.other = m.links.get r.other ∧
        t.links.get r = { l with window := (t.links.get r).window } ∧
        ∃ v, (t.links.get r).window = some v ∧ v.age = w.age ∧ v.marked = w.marked ∧
          ∀ k, v.frames.get k = if w.marked.get k = true ∧ (lanes.get k).isSome = true then lanes.get k else w.frames.get k) ∧
      (m.nominal ≤ 4 * w.age → (¬ owed ∨ 3 * m.nominal ≤ 2 * w.age) → (∃ k, ¬ delivered k) → l.state ≠ .absent →
        (t.links.get r).window = none ∧
        (∀ k, (delivered k → (t.links.get r).laneErrors.get k = l.laneErrors.get k) ∧
          (¬ delivered k → (t.links.get r).laneErrors.get k = l.laneErrors.get k + 1)) ∧
        (l.state = .acquiring → (t.links.get r).acquisition = 0 ∧ (t.links.get r).kept = []) ∧
        (l.state = .locked → l.badFrames ≠ 0 → (t.links.get r).badFrames = 2))

/-- From R11, R34: lock gained: the store holds the four kept frames, the beacon age is 0 and MISSING ends. From R12,
R24, R29: lock lost: back to ACQUIRING with nothing kept, the beacon in hand abandoned silently, the record absent;
LINK is present and flagged unless the rig is OFFLINE (R17, R40). That the bad-frame count is 0 again once lock is
lost is the model's choice (log 62). -/
def Obligations.LockGainedAndLost : Prop :=
  (∀ (s : State) (r : Rig),
     let l := s.links.get r
     l.state = .acquiring → 64 ≤ l.acquisition →
     ∃ t, exec (.lockGained r) s = .next t ∧ (t.links.get r).state = .locked ∧ (t.links.get r).store = l.kept ∧
       (t.links.get r).badFrames = 0 ∧ (t.links.get r).slips = l.slips ∧ t.links.get r.other = s.links.get r.other ∧
       (t.parsers.get r).age = some 0 ∧ (t.parsers.get r).missing = false) ∧
  ∀ (s : State) (r : Rig),
    let l := s.links.get r
    l.state = .locked → 2 ≤ l.badFrames → (s.parsers.get r).judging = none → s.bank.exchange = none →
    ∃ t, exec (.lockLost r) s = .next t ∧
      t.links.get r = { l with state := .acquiring, store := [], acquisition := 0, kept := [], badFrames := 0 } ∧
      t.links.get r.other = s.links.get r.other ∧
      (t.parsers.get r).assembly = .waiting ∧ (t.parsers.get r).record = none ∧
      (t.parsers.get r).age = (s.parsers.get r).age ∧ (t.parsers.get r).rejected = (s.parsers.get r).rejected ∧
      (t.conditions r).get FaultKind.link.idx = true ∧
      ((s.health.get r).state ≠ .offline → (t.health.get r).flags.get FaultKind.link.idx = true)

/-- From R13, R29, R34, R49: 4096 sample instants without a marker: the link ABSENT, the record absent, the age none
with MISSING present, and the rig OFFLINE with its counters, flags and restore counter cleared. History and failure
count stand over the whole instant, since the rig is OFFLINE before MISSING becomes present: the model's reading (log
14). -/
def Obligations.LinkAbsentTakesRigOffline : Prop :=
  ∀ (s : State) (r : Rig),
    let p := s.prepare
    let l := p.links.get r
    l.state ≠ .absent → 4096 ≤ l.sinceMarker → (p.parsers.get r).judging = none → p.bank.exchange = none →
    ∃ t, exec (.linkAbsent r) s = .next t ∧ (t.links.get r).state = .absent ∧ (t.links.get r).store = [] ∧
      (t.links.get r).slips = l.slips ∧ (t.links.get r).laneErrors = l.laneErrors ∧
      (t.parsers.get r).record = none ∧ (t.parsers.get r).age = none ∧ (t.parsers.get r).missing = true ∧
      (t.health.get r).state = .offline ∧ (t.health.get r).flags = noKinds ∧ (t.health.get r).restore = 0 ∧
      (t.health.get r).counters = Table.fill 11 0 ∧
      (t.health.get r).history = (p.health.get r).history ∧ (t.health.get r).failures = (p.health.get r).failures

/-! ### Beacons (chapter 2) -/

/-- From R26, R37: a complete beacon that fails integrity (its sync bytes, its CRC-16 or a transport above 2), or
carries the wrong identity, is discarded with one event: the rejected count rises, the event is flagged unless the rig
is OFFLINE, record, valid count and age stand. -/
def Obligations.BeaconRejected : Prop :=
  ∀ (s : State) (r : Rig) (order : List BeaconReader) (j : Judging),
    let p := s.prepare
    let b := beaconByte j.bytes
    let corrupt := b 0 ≠ 0x7E ∨ b 1 ≠ 0x81 ∨ crc16 (j.bytes.take 14) ≠ b 14 ++ b 15 ∨ 2 < (b 4).toNat
    (p.parsers.get r).judging = some j → corrupt ∨ b 2 ≠ rigByte r →
    ∃ t, exec (.beaconComplete r order) s = .next t ∧ (t.parsers.get r).judging = none ∧
      (t.parsers.get r).rejected = (p.parsers.get r).rejected + 1 ∧
      (t.parsers.get r).record = (p.parsers.get r).record ∧ (t.parsers.get r).valid = (p.parsers.get r).valid ∧
      (t.parsers.get r).age = (p.parsers.get r).age ∧
      ((p.health.get r).state ≠ .offline →
        (corrupt → (t.health.get r).flags.get FaultKind.corrupt.idx = true) ∧
        (¬ corrupt → (t.health.get r).flags.get FaultKind.identity.idx = true))

/-- From R27, R28, R34, R35: a valid beacon replaces the record with its fields, stamp and anchor; the valid count
rises, MISSING ends, the age is S minus the stamp, at most 65,535. R28: the blocks take the beacon accepted event one
after another, each once, in the order of the list, and the health states this leaves settled are handed on, which are
the model's choices (logs 12 and 40); the event carries the comparisons with the replaced record, each made only where
there was one, but for the handover request: R30 a sequence byte that is not one more; R31 a position more than the
tolerance from the expected one, both records PLAYING in one song; R32 a song boundary; R33 a handover request that
was not raised before; R35 and R36 a SELF or DIVERGED that becomes present; R142 whether an AT_SONG exchange may
re-base the song that ends, by a mark that is the model's own construct (x.rebases: log 45). That the age stops at
65,535 at an acceptance too is the model's deduction (log 29). R43: a record replaced by one that is not PLAYING
clears the playing mark. R36: when DIVERGED is present; a re-examination that finds it newly present flags it, and
leaves all but that parser and that rig's health as they are; the other rig's health is the one last handed on (R55).
R49: the Health Qualifier takes an acceptance while OFFLINE: RECOVERING with the conditions present flagged, or FAILED
where one of them is enabled, with its counter at its delay and its kind in the history; it is handed on at once where
nothing more of the rig stands due at the instant, the model's choice (log 40). -/
def Obligations.BeaconAccepted : Prop :=
  (∀ (s : State) (r : Rig) (order : List BeaconReader) (j : Judging),
     let p := s.prepare
     let b := beaconByte j.bytes
     let old := p.parsers.get r
     let q := p.setParser r { old with judging := none }
     let x := q.acceptance r j
     let u := q.replaceRecord r j
     let new := x.new
     old.judging = some j → integrityOk j.bytes = true → b 2 = rigByte r →
     ∃ t, exec (.beaconComplete r order) s = .next t ∧
       t = ((State.readersTake x (readerOrder order) u).setComing Coming.none).handNew ∧
       Touches [.parsers] p u ∧ u.parsers.get r.other = p.parsers.get r.other ∧
       (t.parsers.get r).record = some new ∧ (u.parsers.get r).record = some new ∧
       (t.parsers.get r).judging = none ∧ (t.parsers.get r).missing = false ∧
       (t.parsers.get r).valid = old.valid + 1 ∧ new.received = old.valid + 1 ∧
       (t.parsers.get r).rejected = old.rejected ∧
       (t.parsers.get r).age = some (min 65535 (p.clock.count - j.stamp).toNat) ∧
       new.stamp = j.stamp ∧ new.sequence = b 3 ∧ transportByte new.transport = b 4 ∧ new.song = b 5 ∧
       new.sectionByte = b 6 ∧ new.flags = { engineFault := (b 7).getLsbD 0, mediaFault := (b 7).getLsbD 1,
                                             handoverRequest := (b 7).getLsbD 2 } ∧
       new.position = b 8 ++ b 9 ++ b 10 ++ b 11 ∧ new.user = b 12 ++ b 13 ∧
       new.anchor = (if b 4 = 2 then some (j.stamp - new.position) else none) ∧
       (t.parsers.get r).selfFault = (new.flags.engineFault || new.flags.mediaFault) ∧
       x.rig = r ∧ x.bytes = j.bytes ∧
       (x.boundary = true ↔ ∃ o, old.record = some o ∧
         (new.song ≠ o.song ∨ (o.transport = .playing ∧ new.transport ≠ .playing))) ∧
       (x.handover = true ↔ new.flags.handoverRequest = true ∧
         ∀ o, old.record = some o → o.flags.handoverRequest = false) ∧
       (∀ k, x.kinds.get k = true ↔
         (k = FaultKind.sequence.idx ∧ ∃ o, old.record = some o ∧ new.sequence ≠ o.sequence + 1) ∨
         (k = FaultKind.position.idx ∧ ∃ o, old.record = some o ∧ o.transport = .playing ∧ new.transport = .playing ∧
           o.song = new.song ∧ p.bank.front.monitor.positionTolerance <
             (new.position - (o.position + (new.stamp - o.stamp))).toInt.natAbs) ∨
         (k = FaultKind.self.idx ∧ old.selfFault = false ∧
           (new.flags.engineFault = true ∨ new.flags.mediaFault = true)) ∨
         (k = FaultKind.diverged.idx ∧ old.diverged = false ∧ new.transport ≠ .playing ∧
           ∃ theirs, (p.parsers.get r.other).record = some theirs ∧ theirs.transport = .playing ∧
             p.handed r.other ≠ .failed ∧ p.handed r.other ≠ .offline)) ∧
       (x.rebases = true ↔ x.boundary = true ∧ p.arbiter.onAir = some r ∧ p.showClock.jumped = false ∧
         ∃ e, p.bank.exchange = some e ∧ e.timing = .atSong)) ∧
  (∀ order : List BeaconReader, (readerOrder order).Nodup ∧ (∀ y, y ∈ readerOrder order) ∧
    (order.Nodup → order <+: readerOrder order)) ∧
  (∀ (x : Acceptance) (s : State), State.readersTake x [] s = s ∧
    ∀ (y : BeaconReader) (rest : List BeaconReader),
      let u := s.setComing (s.comingOf x rest)
      State.readersTake x (y :: rest) s = State.readersTake x rest
        (match y with
          | .health => u.takeAcceptance.healthReads x
          | .guardMonitor => u.takeAcceptance.guardReads x
          | .alignment => u.alignmentReads x
          | .showClock => u.takeAcceptance.clockReads x
          | .matchers => u.takeAcceptance.matchersRead x
          | .arbiter => u.takeAcceptance.arbiterReads x
          | .bankStore => u.takeAcceptance.bankReads x
          | .groupMixer => u.takeAcceptance.groupsRead x
          | .otherParser => u.takeAcceptance.otherReads x)) ∧
  (∀ (s : State) (x : Acceptance),
    Touches [.guards] s (s.guardReads x) ∧
    ∀ r, (s.guardReads x).guards.get r =
      if r = x.rig ∧ x.new.transport ≠ .playing then { s.guards.get r with playing := false } else s.guards.get r) ∧
  (∀ (s : State) (r : Rig),
    let t := s.reDiverged r
    let present := ∃ mine theirs : RigRecord, (s.parsers.get r).record = some mine ∧ mine.transport ≠ .playing ∧
      (s.parsers.get r.other).record = some theirs ∧ theirs.transport = .playing ∧
      s.handed r.other ≠ .failed ∧ s.handed r.other ≠ .offline
    Touches [.parsers, .health] s t ∧ t.health.get r.other = s.health.get r.other ∧
    t.parsers.get r.other = s.parsers.get r.other ∧
    t.parsers.get r = { s.parsers.get r with diverged := (t.parsers.get r).diverged } ∧
    ((t.parsers.get r).diverged = true ↔ present) ∧
    (¬ present → t.health = s.health) ∧
    (present → (s.parsers.get r).diverged = false → (s.health.get r).state ≠ .offline →
      (t.health.get r).flags.get FaultKind.diverged.idx = true)) ∧
  ∀ (s : State) (x : Acceptance),
    let h := s.health.get x.rig
    let f := s.bank.front.fault
    let now := s.conditions x.rig
    let t := s.healthReads x
    let g := t.health.get x.rig
    let failing := fun i => now.get i = true ∧ (f.get i).enabled = true
    h.state = .offline → s.bank.exchange = none → s.handed x.rig.other = (s.health.get x.rig.other).state →
    g.flags = now ∧ g.restore = 0 ∧
    ((∀ i, ¬ failing i) → g.state = .recovering ∧ g.failures = h.failures ∧ g.history = h.history ∧
      g.counters = h.counters) ∧
    ((∃ i, failing i) → g.state = .failed ∧ g.failures = min 255 (h.failures + 1) ∧
      ∀ i, (failing i → g.counters.get i = (f.get i).delay ∧ g.history.get i = true) ∧
        (¬ failing i → g.counters.get i = h.counters.get i ∧ g.history.get i = h.history.get i)) ∧
    (s.bank.front.monitor.restoreTime ≠ 0 → h.qualifying = noKinds → s.instantHealth.unguarded = none →
      s.exchangeDue = false → s.evidenceDue x.rig = false → s.handed x.rig = .offline → Noted t .healthChanged ∧ t.handed x.rig = g.state)

/-- From R21, R22, R23: the assembly takes a pilot word: start, continuing or idle. -/
def Obligations.PilotWordAssembly : Prop :=
  ∀ (p : Parser) (now : Stamp) (w : Sample),
    let marker := w.extractLsb' 16 8
    let b := w.extractLsb' 8 8
    (marker = 0xA5 → (p.word now w).1.assembly = .assembling [b] now ∧
      ((p.word now w).2 = true ↔ p.assembly ≠ .waiting)) ∧
    (marker = 0x5A → (p.word now w).2 = false ∧ (p.assembly = .waiting → (p.word now w).1 = p) ∧
      ∀ buffer stamp, p.assembly = .assembling buffer stamp →
        (buffer.length = 15 → (p.word now w).1 =
          { p with assembly := .waiting, judging := some { bytes := buffer ++ [b], stamp } }) ∧
        (buffer.length < 15 → (p.word now w).1 = { p with assembly := .assembling (buffer ++ [b]) stamp })) ∧
    (marker ≠ 0xA5 → marker ≠ 0x5A → (p.word now w).1.assembly = .waiting ∧
      ((p.word now w).2 = true ↔ p.assembly ≠ .waiting)) ∧
    (p.word now w).1.rejected = (if (p.word now w).2 then p.rejected + 1 else p.rejected)

/-- From R34, R134: an age beyond 2P makes MISSING present, which takes the Show Clock of the on-air rig from RUNNING
or SLEWING into FREEWHEEL with its counter at 0, or with a freewheel limit of 0 through it to HELD (R135), and which
is evidence unless the rig is OFFLINE; for the clock, a MISSING of delay 0 and an arbiter in BLIND or at a completion
are left out here. R127 to R131: the Show Clock takes an accepted beacon of the on-air rig: it leaves IDLE, but not
while the arbiter is STOPPED, makes the correction of CorrectionAndSlewStep toward the target of R125 for a PLAYING
beacon of its own song in RUNNING, SLEWING and FREEWHEEL, changes song, resumes from HELD, or holds; a beacon of
another rig changes nothing. A JUMPED that stands pending stays at a song change, but for the one of an exchange of
the same boundary (R142, log 45). The held value where no record was emitted is the timecode shown, the last emitted
timecode keeps the HELD flag alone where its record merges with a waiting one, and a CUED of the clock's own song in
HELD leaves the held value: the model's choices (logs 18, 46 and 53). That C is absent in HELD is the model's
deduction (log 11: R130 discards it, where R125's table lists it). R132: at a change of the on-air rig the clock
re-evaluates against its record as if that beacon had just been accepted, and then makes the test of R134 on its
MISSING: the model's choice of order (log 47). -/
def Obligations.MissingBecomesPresent : Prop :=
  (∀ (s : State) (r : Rig) (n : Nat),
     let p := s.prepare
     (p.parsers.get r).judging = none → (p.parsers.get r).missing = false → (p.parsers.get r).age = some n →
     2 * p.bank.setup.period.samples < n → p.windowDue r = false →
     ∃ t, exec (.missingPresent r) s = .next t ∧ (t.parsers.get r).missing = true ∧
       (t.parsers.get r).age = some n ∧ (t.parsers.get r).record = (p.parsers.get r).record ∧
       ((p.health.get r).state ≠ .offline → (t.health.get r).flags.get FaultKind.missing.idx = true) ∧
       (p.arbiter.onAir = some r → p.arbiter.state ≠ .blind → p.completionHolds = false →
         (p.bank.front.fault.get FaultKind.missing.idx).delay ≠ 0 →
         (p.health.get r).state = .healthy ∨ (p.health.get r).state = .suspect →
         let follows := p.showClock.state = .running ∨ p.showClock.state = .slewing
         (¬ follows → t.showClock = p.showClock) ∧
         (follows → p.showClock.control.freewheelLimit ≠ 0 → t.showClock =
           { p.showClock with state := .freewheel, slewCounter := none, freewheelCounter := some 0 }) ∧
         (follows → p.showClock.control.freewheelLimit = 0 → t.showClock.state = .held ∧ t.showClock.cadence = some 0 ∧
           t.showClock.heldValue = some (match p.showClock.emitted, p.showClock.lastEmitted with
             | true, some (v, _) => v | _, _ => p.derived.1)))) ∧
  (∀ (s : State) (x : Acceptance), s.arbiter.onAir ≠ some x.rig → s.clockReads x = s) ∧
  (∀ s : State,
    let t := s.clockReevaluate
    (s.arbiter.onAir = none → t = s) ∧
    ∀ r, s.arbiter.onAir = some r →
      let u := match (s.parsers.get r).record with
        | none => s
        | some new => s.clockReads { rig := r, bytes := [], new, boundary := false, handover := false, kinds := noKinds, rebases := false }
      let follows := u.showClock.state = .running ∨ u.showClock.state = .slewing
      ((s.parsers.get r).missing = false ∨ ¬ follows → t = u) ∧
      ((s.parsers.get r).missing = true → follows → u.showClock.control.freewheelLimit ≠ 0 → Touches [.showClock] u t ∧
        t.showClock = { u.showClock with state := .freewheel, slewCounter := none, freewheelCounter := some 0 }) ∧
      ((s.parsers.get r).missing = true → follows → u.showClock.control.freewheelLimit = 0 →
        Touches [.showClock, .tcOutput] u t ∧ t.showClock.state = .held ∧ t.showClock.cadence = some 0 ∧
        t.showClock.heldValue = some (match u.showClock.emitted, u.showClock.lastEmitted with
          | true, some (v, _) => v | _, _ => u.derived.1))) ∧
  ∀ (s : State) (x : Acceptance) (song : Byte),
    let c := s.showClock
    let t := s.clockReads x
    let active := c.state = .running ∨ c.state = .slewing ∨ c.state = .freewheel
    let target := x.new.anchor.getD 0 + BitVec.ofNat 32 (s.lines.get x.rig).delay
    let start := (s.bank.front.song.get (songIndex x.new.song)).start
    let heldAt := fun (u : ShowClock) (v : Timecode) =>
      u.state = .held ∧ u.anchor = none ∧ u.target = c.target ∧ u.slewCounter = none ∧ u.freewheelCounter = none ∧
      u.lastFrame = .absent ∧ u.jumped = false ∧ u.songChanged = false ∧ u.heldValue = some v ∧ u.cadence = some 0 ∧
      u.lastEmitted = some (v, { noTcFlags with held := true })
    s.arbiter.onAir = some x.rig → (c.state ≠ .idle → c.song = some song) →
    Touches [.showClock, .tcOutput, .ports] s t ∧
    (x.new.transport = .playing →
      (c.state = .idle → s.arbiter.state ≠ .stopped → t.showClock = { c with
        state := .running, anchor := some target, target := some target, song := some x.new.song, lastFrame := .absent
        jumped := false, songChanged := true, emitted := false }) ∧
      (c.state = .idle → s.arbiter.state = .stopped → t = s) ∧
      (active → x.new.song = song → t = s.clockCorrect target) ∧
      (active ∨ c.state = .held → x.new.song ≠ song → t.ports = s.ports ∧ t.showClock = { c with
        state := .running, anchor := some target, target := some target, song := some x.new.song, slewCounter := none
        freewheelCounter := none, heldValue := none, cadence := none, cadenceDue := false, lastFrame := .absent
        songChanged := true, jumped := c.jumped && !x.rebases }) ∧
      (c.state = .held → x.new.song = song → t.ports = s.ports ∧ t.showClock = { c with
        state := .running, anchor := some target, target := some target, heldValue := none, cadence := none
        cadenceDue := false, lastFrame := .absent, jumped := true, songChanged := false })) ∧
    (x.new.transport = .stopped →
      (active → t.showClock.song = c.song ∧
        heldAt t.showClock (match c.emitted, c.lastEmitted with | true, some (v, _) => v | _, _ => s.derived.1)) ∧
      (c.state = .held ∨ c.state = .idle → t = s)) ∧
    (x.new.transport = .cued →
      (active → t.showClock.song = some x.new.song ∧ heldAt t.showClock start) ∧
      (c.state = .held → x.new.song ≠ song → t.tcOutput = s.tcOutput ∧
        t.showClock = { c with song := some x.new.song, heldValue := some start }) ∧
      (c.state = .held → x.new.song = song → t = s) ∧
      (c.state = .idle → t = s))

/-! ### Health (chapter 3) -/

/-- From R40, R44, R46, R51, R53, R54: at a tick end each qualify counter steps up to its delay or falls to 0 by the
flag of the ending tick; the kinds left to qualify are exactly the enabled ones whose flag was set and whose counter
steps up to their delay, so none that is disabled, of delay 0 or at its delay before; the flags of the new tick are the conditions present; the Guard Monitor decides SILENT and
FROZEN from the ending tick's marks; a SUSPECT rig becomes HEALTHY and a FAILED one RECOVERING on a clean tick with
nothing new, and a RECOVERING one counts it. Counters and flags of the kinds of the judgement itself are left out
where a relapse they cause moves them (R54). R72, R73: the Alignment Monitor counts the pairless ticks, or in HELD the
hold age, where no changeover that the judged health could bring moves the alignment: in STOPPED, and in MANUAL
outside CHANGING. -/
def Obligations.TickEndCounters : Prop :=
  ∀ (s : State) (first r : Rig) (i : Fin 11),
    let p := s.prepare
    let u := p.closeDueWindows.takeInstantEvidence
    let f := u.bank.front.fault
    let d := (f.get i).delay
    let h := u.health.get r
    let g := u.guards.get r
    let e := u.bank.front.monitor.silenceExponent
    p.tickDue = true → u.bank.exchange = none → u.tickDue = true → h.state ≠ .offline →
    let a := u.alignment
    ∃ t, exec (.healthTickEnd first) s = .next t ∧ t.tickDue = false ∧ t.alignment.pairInTick = false ∧
      (u.arbiter.state = .stopped ∨ (u.arbiter.mode = .manual ∧ u.arbiter.state ≠ .changing) →
        (a.state = .none → t.alignment = { a with pairInTick := false }) ∧
        (a.state = .confirming ∨ a.state = .accepted ∨ a.state = .outOfReach → t.alignment =
          { a with pairInTick := false, pairless := if a.pairInTick then 0 else a.pairless + 1 }) ∧
        (a.state = .held → t.alignment = { a with
          pairInTick := false, holdAge := min 255 (a.holdAge + 1), limitDue := t.alignment.limitDue } ∧
          (t.alignment.limitDue = true ↔ u.bank.front.monitor.holdLimit ≤ min 255 (a.holdAge + 1)))) ∧
      (i ≠ FaultKind.silent.idx → i ≠ FaultKind.frozen.idx → i ≠ FaultKind.diverged.idx →
        (t.health.get r).counters.get i = (if h.flags.get i then min d (h.counters.get i + 1) else 0) ∧
        (t.health.get r).flags.get i = (u.conditions r).get i) ∧
      ((t.health.get r).qualifying.get i = true ↔
        (f.get i).enabled = true ∧ h.flags.get i = true ∧ h.counters.get i + 1 = d) ∧
      ((t.guards.get r).silent = true ↔ g.void = false ∧ g.playing = true ∧
        ∃ ms, g.marks = some ms ∧ ms ≠ [] ∧ ∀ m ∈ ms, m.silent = true) ∧
      ((t.guards.get r).frozen = true ↔ g.void = false ∧
        ∃ ms, g.marks = some ms ∧ ∃ m ∈ ms, m.steady = true ∧ 2 ^ e ≤ m.first.toInt.natAbs) ∧
      (t.guards.get r).marks = none ∧ (t.guards.get r).void = g.voidNext ∧
      (t.health.get r).flags.get FaultKind.silent.idx = (t.guards.get r).silent ∧
      (t.health.get r).flags.get FaultKind.frozen.idx = (t.guards.get r).frozen ∧
      let clean := ∀ k, (f.get k).enabled = true → h.flags.get k = false ∧ (t.health.get r).flags.get k = false
      (h.state = .suspect → clean → (t.health.get r).state = .healthy) ∧
      (h.state = .suspect → ¬ clean → (t.health.get r).state = .suspect ∨ (t.health.get r).state = .failed) ∧
      (h.state = .failed → clean → (t.health.get r).state = .recovering ∧ (t.health.get r).restore = 0) ∧
      (h.state = .failed → ¬ clean → (t.health.get r).state = .failed) ∧
      (h.state = .recovering → (t.health.get r).state = .recovering →
        (t.health.get r).restore = min u.bank.front.monitor.restoreTime (h.restore + 1))

/-- From R50, R52, R53, R54: what evidence of a set of kinds does to a health state: nothing while OFFLINE, SUSPECT or
FAILED from HEALTHY, a relapse from RECOVERING, which the evidence that follows it at the same instant belongs to.
From R47, R56: a kind of delay 0 that is evidence qualifies at once: in HEALTHY and SUSPECT the rig fails by it, and
there as in FAILED it joins the fault history, the other kinds standing as they did and every counter too, its own at
its delay of 0; in a relapse every enabled kind joins the history with its counter at its delay, and the other kinds
and counters stand. -/
def Obligations.EvidenceMovesHealth : Prop :=
  ∀ (h : Health) (f : Table 11 FaultEntry) (time : Nat) (kinds : KindSet),
    let appears := fun i => kinds.get i = true ∧ (f.get i).enabled = true
    let qualifies := fun i => appears i ∧ (f.get i).delay = 0
    let enabled := ∃ i, appears i
    let atOnce := ∃ i, qualifies i
    let g := h.evidence f time kinds
    let joins := fun new : Fin 11 → Prop => ∀ i, g.history.get i = true ↔ h.history.get i = true ∨ new i
    let relapses := g.state = .failed ∧ joins appears ∧
      ∀ i, g.counters.get i = if kinds.get i = true ∧ (f.get i).enabled = true then (f.get i).delay else h.counters.get i
    let up := h.state = .healthy ∨ h.state = .suspect
    let restored := h.state = .recovering ∧ time ≤ h.restore
    (h.state = .offline → g = h) ∧
    (h.state ≠ .offline → ∀ i, g.flags.get i = (h.flags.get i || kinds.get i)) ∧
    (¬ enabled → g.state = h.state ∧ g.counters = h.counters ∧ g.failures = h.failures ∧ g.history = h.history) ∧
    (up ∨ restored → atOnce →
      g.state = .failed ∧ g.failures = min 255 (h.failures + 1) ∧ joins qualifies ∧ g.counters = h.counters) ∧
    (up ∨ restored → enabled → ¬ atOnce →
      g.state = .suspect ∧ g.failures = h.failures ∧ g.history = h.history ∧ g.counters = h.counters) ∧
    (h.state = .failed → g.state = .failed ∧ g.failures = h.failures) ∧
    (h.state = .failed → h.relapsed = false → joins qualifies ∧ g.counters = h.counters) ∧
    (h.state = .failed → h.relapsed = true → relapses) ∧
    (h.state = .recovering → h.restore < time → enabled →
      relapses ∧ g.restore = 0 ∧ g.failures = min 255 (h.failures + 1) ∧ g.relapsed = true) ∧
    (h.state ≠ .offline → ∀ i, qualifies i → h.counters.get i ≤ (f.get i).delay →
      g.state = .failed ∧ g.counters.get i = (f.get i).delay ∧ g.history.get i = true)

/-- From R52, R55, R56: a kind that steps up to its delay qualifies: HEALTHY or SUSPECT becomes FAILED, the failure
count rises, the kinds join the history; HEALTH_CHANGED is raised once the rig is settled, at once where no tick end,
absence or guard decision of the instant stands open, which is the model's choice (log 40). From R54: the restore
counter at the restore time makes a RECOVERING rig HEALTHY. R95: where that rig is on air in BLIND its coming up,
handed on, returns the arbiter to STEADY on it, with no history entry, and the FOLLOW groups target it. -/
def Obligations.QualificationAndRestore : Prop :=
  (∀ (s : State) (r : Rig),
     let h := s.health.get r
     h.qualifying.nonempty = true → s.bank.exchange = none → (h.state = .healthy ∨ h.state = .suspect) →
     s.handed r.other = (s.health.get r.other).state →
     ∃ t, exec (.qualification r) s = .next t ∧ (t.health.get r).state = .failed ∧
       (t.health.get r).failures = min 255 (h.failures + 1) ∧ (t.health.get r).qualifying = noKinds ∧
       (∀ i, (t.health.get r).history.get i = (h.history.get i || h.qualifying.get i)) ∧
       (t.health.get r).counters = h.counters ∧
       (s.tickDue = false → (s.links.get r).absenceDue = false → s.instantHealth.unguarded = none → s.handed r ≠ .failed →
         Noted t .healthChanged ∧ t.handed r = .failed)) ∧
  ∀ (s : State) (r : Rig),
    let h := s.health.get r
    h.state = .recovering → s.bank.front.monitor.restoreTime ≤ h.restore → s.bank.exchange = none →
    s.handed r.other = (s.health.get r.other).state →
    ∃ t, exec (.restoreComplete r) s = .next t ∧ t.health.get r = { h with state := .healthy } ∧
      (s.evidenceDue r = false → s.exchangeDue = false → s.instantHealth.unguarded = none → h.qualifying = noKinds →
        s.handed r ≠ .healthy → Noted t .healthChanged ∧ t.handed r = .healthy ∧
        (s.arbiter.state = .blind → s.arbiter.onAir = some r →
          t.arbiter = { s.arbiter with state := .steady, eligible := t.arbiter.eligible } ∧
          ∀ i, (t.mixer.groups.get i).mode = (s.mixer.groups.get i).mode ∧
            ((s.mixer.groups.get i).mode = .follow → (t.mixer.groups.get i).target = Source.ofRig r)))

/-- From R86, R93: the on-air rig goes down in STEADY: an automatic changeover where auto is permitted and the standby
is eligible; else it stays on air, in BLIND. R90, R91: where it goes down in CHANGING the changeover reverses at once
when the outgoing rig is HEALTHY, and else goes on as it stands. R87: the arbiter takes an accepted beacon of the
on-air rig: the song in force, and a handover request, which starts a changeover under the same terms or is refused; a
beacon of another rig changes nothing. R82, R94: in BLIND an accepted beacon of the on-air rig whose song has auto
permitted starts a late failover to an eligible standby. Each of these changeovers and the reversal does what every
entry to CHANGING does: the FOLLOW groups toward the incoming rig (R88, R91, R106 to R109; a production that has
reached N has landed first, the model's deduction, log 31), the song in force (R82), the standby delay settled and
deferred (R68, R75), and the Show Clock re-evaluated (R132); the last required delay kept as of the settling and the
clock's MISSING tested last are deductions too (logs 35 and 47). In BLIND every group takes its target under its blind
policy (R93). Eligibility and the outgoing rig's health are read from the health states as last handed on, and a
request is judged on the auto permission of the new song: the model's choices (logs 40, 44 and 37). -/
def Obligations.FailureOnAirChangesOverOrBlinds : Prop :=
  (∀ (s : State) (r : Rig),
     let h := s.health.get r
     let before := s.instantHealth.handing.get r
     s.arbiter.state = .steady → s.arbiter.onAir = some r → h.qualifying.nonempty = true →
     (h.state = .healthy ∨ h.state = .suspect) → before.before.down = false → before.handed.down = false →
     s.bank.exchange = none → (s.parsers.get r.other).diverged = false → s.tickDue = false →
     (s.links.get r).absenceDue = false → s.instantHealth.unguarded = none →
     s.handed r.other = (s.health.get r.other).state →
     ∃ t, exec (.qualification r) s = .next t ∧
       (s.autoPermitted = true → s.eligibleNow = true →
         ChangeoverBegun s t r.other ∧
         ∃ e, t.arbiter.history.getLast? = some e ∧ e.cause = .autoFailure ∧ e.fromRig = r ∧ e.toRig = r.other ∧
           e.stamp = s.clock.count ∧ e.failing = t.qualified r) ∧
       (s.autoPermitted = false ∨ s.eligibleNow = false →
         t.arbiter.onAir = some r ∧ t.arbiter.history = s.arbiter.history ∧
         t.arbiter.state = .blind ∧ Noted t .blindEntered ∧ GroupsRetargeted s.bank.front t.arbiter s t)) ∧
  (∀ (s : State) (r : Rig),
     let h := s.health.get r
     let before := s.instantHealth.handing.get r
     let kept := if s.arbiter.history.length < 16 then s.arbiter.history else s.arbiter.history.drop 1
     s.arbiter.state = .changing → s.arbiter.onAir = some r → h.qualifying.nonempty = true →
     (h.state = .healthy ∨ h.state = .suspect) → before.before.down = false → before.handed.down = false →
     s.bank.exchange = none → (s.parsers.get r.other).diverged = false → s.tickDue = false →
     (s.links.get r).absenceDue = false → s.instantHealth.unguarded = none →
     s.handed r.other = (s.health.get r.other).state →
     ∃ t, exec (.qualification r) s = .next t ∧
       (s.handed r.other = .healthy →
         ChangeoverBegun s t r.other ∧
         ((t.arbiter.state = .changing ∧ t.arbiter.outgoing = some r) ∨
           (t.arbiter.state = .steady ∧ t.arbiter.outgoing = none ∧ Noted t .changeDone)) ∧
         t.arbiter.history.dropLast =
           (kept.map fun e => if e.ending = .inFlight then { e with ending := .reversed } else e) ∧
         ∃ e, t.arbiter.history.getLast? = some e ∧ e.sequence = s.arbiter.nextSequence ∧ e.cause = .reversal ∧
           e.fromRig = r ∧ e.toRig = r.other ∧ e.stamp = s.clock.count ∧ e.failing = t.qualified r ∧
           e.ending = (if t.arbiter.state = .changing then .inFlight else .completed)) ∧
       (s.handed r.other ≠ .healthy → s.completionHolds = false →
         Touches [.health, .arbiter, .ports] s t ∧ t.arbiter = { s.arbiter with eligible := t.arbiter.eligible })) ∧
  (∀ (s : State) (x : Acceptance), s.arbiter.onAir ≠ some x.rig → s.arbiterReads x = s) ∧
  ∀ (s : State) (x : Acceptance),
    let t := s.arbiterReads x
    let auto := s.arbiter.mode = .auto ∧ s.arbiter.inhibit = false ∧
      (s.bank.front.song.get (songIndex x.new.song)).auto = true
    let song := { s.arbiter with song := x.new.song }
    s.arbiter.onAir = some x.rig → s.bank.exchange = none → s.completionHolds = false →
    (s.arbiter.state ≠ .blind ∨ ¬ (auto ∧ s.arbiter.eligible = true) → x.handover = false → t = s.setArbiter song) ∧
    (s.arbiter.state = .blind → auto → s.arbiter.eligible = true → (s.handed x.rig.other).down = false →
      LateFailover (s.setArbiter song) t x.rig.other) ∧
    (s.arbiter.state = .steady → x.handover = true → auto → s.arbiter.eligible = true →
      (s.handed x.rig.other).down = false →
      ChangeoverBegun (s.setArbiter song) t x.rig.other ∧
      ∃ e, t.arbiter.history.getLast? = some e ∧ e.cause = .handover ∧ e.fromRig = x.rig ∧ e.toRig = x.rig.other) ∧
    (x.handover = true → (s.arbiter.state = .steady ∧ ¬ (auto ∧ s.arbiter.eligible = true)) ∨ s.arbiter.state = .changing ∨
        (s.arbiter.state = .blind ∧ ¬ (auto ∧ s.arbiter.eligible = true)) →
      Touches [.arbiter, .ports] s t ∧ t.arbiter = song ∧ Noted t .handoverRefused)

/-- From R155 (with R57): CLEAR_HISTORY from Port P, in every state: fire counts 0, memories, results and stamps as
they were, both fault histories empty and both failure counts 0, and nothing else. -/
def Obligations.ClearHistoryClearsCounts : Prop :=
  (∀ s : State,
    let p := s.opened .p 1
    ∃ t, exec (.clearHistory .p (withCheck 0x31 [])) s = .next t ∧ Touches [.health, .matchers, .ports] p t ∧
      DoneOn t .p ∧ (∀ q, (t.ports.get q).notices = (p.ports.get q).notices) ∧
      (∀ k, t.matchers.get k = { p.matchers.get k with fires := 0 }) ∧
      ∀ r, t.health.get r = { p.health.get r with history := noKinds, failures := 0 }) ∧
  ∀ (s : State) (q : Port), q ≠ .p →
    ∃ t, exec (.clearHistory q (withCheck 0x31 [])) s = .next t ∧ RefusedWith (s.opened q 1) t q .denied

/-! ### Alignment (chapter 4) -/

/-- From R67, R68, R70: acceptance of the candidate: in reach the standby delay is set at once, or deferred while
CHANGING; out of reach the delays stand. R201: once the on-air rig is down a test that held lapses and the alignment
does not advance, the model's reading (log 12). R64, R65, R69, R71: the Alignment Monitor takes an accepted beacon:
whether it forms a pair, its measurement, and what the pair does to the candidate or the accepted offset. Both rigs'
health, for a pair and for the on-air rig being down, is the state last handed on, where R64 reads both as they stand:
the model's choice (log 40). -/
def Obligations.OffsetAcceptance : Prop :=
  (∀ (s : State) (c : Candidate),
     let d := s.requiredDelay c.offset
     s.alignment.state = .confirming → s.alignment.candidate = some c → s.alignment.acceptDue = true →
     s.onAirDown = false → s.arbiter.state ≠ .blind → s.completionHolds = false →
     ∃ t, exec .offsetAcceptance s = .next t ∧ Touches [.lines, .alignment, .arbiter, .ports] s t ∧
       t.alignment.accepted = some c.offset ∧ t.alignment.candidate = none ∧ t.alignment.pairless = 0 ∧
       t.alignment.lastRequired = some d ∧ Noted t .alignmentChanged ∧
       t.arbiter = { s.arbiter with eligible := t.eligibleNow } ∧
       (inReach d = true → t.alignment.state = .accepted ∧
         (s.arbiter.state ≠ .changing → (t.lines.a.delay : Int) - t.lines.b.delay = c.offset ∧
           (t.lines.get s.arbiter.reference).delay = (s.lines.get s.arbiter.reference).delay) ∧
         (s.arbiter.state = .changing → t.lines = s.lines ∧
           t.alignment.deferred = some { link := s.arbiter.standby, delay := d.toNat })) ∧
       (inReach d = false → t.alignment.state = .outOfReach ∧ t.lines = s.lines ∧ t.alignment.deferred = none)) ∧
  (∀ s : State, s.alignment.state = .confirming → s.onAirDown = true →
    ∃ t, exec .offsetAcceptance s = .next t ∧ Touches [.alignment] s t ∧
      t.alignment = { s.alignment with acceptDue := t.alignment.acceptDue } ∧
      (s.alignment.candidate.isSome = true → t.alignment.acceptDue = false)) ∧
  ∀ (s : State) (x : Acceptance),
    let r := x.rig
    let t := s.alignmentReads x
    let a := s.alignment
    let p := s.bank.front.monitor
    let pair := fun m : Int => ∃ (o : RigRecord) (mine theirs : Stamp),
      (s.parsers.get r.other).record = some o ∧ x.new.anchor = some mine ∧ o.anchor = some theirs ∧
      x.new.song = o.song ∧ 0 ≤ stampDiff x.new.stamp o.stamp ∧
      stampDiff x.new.stamp o.stamp ≤ 2 * s.bank.setup.period.samples ∧
      (s.handed r).down = false ∧ (s.handed r.other).down = false ∧
      m = (match r with | .a => stampDiff theirs mine | .b => stampDiff mine theirs)
    let confirms := fun c : Candidate => t.alignment.state = .confirming ∧ t.alignment.candidate = some c ∧
      t.alignment.pairless = 0 ∧ (t.alignment.acceptDue = true ↔ p.confirm ≤ c.count)
    ((∀ m, ¬ pair m) → t = s) ∧
    ∀ m, pair m → s.arbiter.state ≠ .blind → s.completionHolds = false →
      Touches [.alignment, .arbiter, .ports] s t ∧ t.alignment.pairInTick = true ∧
      t.alignment.lastMeasurement = some { offset := m, instant := s.clock.count, rig := r } ∧
      t.arbiter = { s.arbiter with eligible := t.eligibleNow } ∧
      (a.state = .none → confirms { offset := m, count := 1 } ∧ t.ports = s.ports) ∧
      (∀ c, a.state = .confirming → a.candidate = some c → t.ports = s.ports ∧
        ((m - c.offset).natAbs ≤ p.tolerance → confirms { c with count := min 15 (c.count + 1) }) ∧
        (p.tolerance < (m - c.offset).natAbs → confirms { offset := m, count := 1 })) ∧
      ∀ d, a.accepted = some d → a.state = .accepted ∨ a.state = .outOfReach ∨ a.state = .held →
        ((m - d).natAbs ≤ p.tolerance → t.ports = s.ports ∧ t.alignment.accepted = some d ∧ t.alignment.pairless = 0 ∧
          t.alignment.state = (if a.state = .held then .accepted else a.state)) ∧
        (p.tolerance < (m - d).natAbs → confirms { offset := m, count := 1 } ∧ t.alignment.accepted = none ∧
          t.alignment.deferred = none ∧ Noted t .alignmentChanged)

/-- From R72, R73: two pairless ticks, and the hold limit. R201: the hold limit ends HELD in every arbiter state,
BLIND too, and starts no late failover, since the standby is not eligible any more. -/
def Obligations.AlignmentHeldAndHoldLimit : Prop :=
  (∀ s : State, 2 ≤ s.alignment.pairless → s.alignment.state ≠ .none → s.alignment.state ≠ .held →
    ∃ t, exec .alignmentHeld s = .next t ∧ Touches [.alignment, .ports] s t ∧ t.alignment.pairless = 0 ∧
      (s.alignment.state = .accepted → t.ports = s.ports ∧ t.alignment.state = .held ∧ t.alignment.holdAge = 0 ∧
        t.alignment.accepted = s.alignment.accepted ∧
        (t.alignment.limitDue = true ↔ s.bank.front.monitor.holdLimit = 0)) ∧
      (s.alignment.state = .confirming → t.ports = s.ports ∧ t.alignment.state = .none ∧ t.alignment.candidate = none) ∧
      (s.alignment.state = .outOfReach → t.alignment.state = .none ∧ t.alignment.accepted = none ∧
        Noted t .alignmentChanged)) ∧
  ∀ s : State, s.alignment.state = .held → s.alignment.limitDue = true → s.completionHolds = false →
    ∃ t, exec .holdLimit s = .next t ∧ Touches [.alignment, .arbiter, .ports] s t ∧ t.alignment.state = .none ∧
      t.alignment.accepted = none ∧ t.alignment.deferred = none ∧ t.alignment.holdAge = 0 ∧
      t.arbiter = { s.arbiter with eligible := false } ∧ Noted t .alignmentChanged

/-! ### Banks (chapter 9) -/

/-- From R189, R193, R160: an entry written in its layout is read back as it was, for every banked table and live
setting, each field in its range. -/
def Obligations.EntryLayoutsRoundTrip : Prop :=
  (∀ e, readRoute (writeRoute e) = some e) ∧
  (∀ e, e.fadeLength ≤ 4095 → readGroup (writeGroup e) = some e) ∧
  (∀ e, e.start.h ≤ 23 → e.start.m ≤ 59 → e.start.s ≤ 59 → e.start.fr ≤ 29 → readSong (writeSong e) = some e) ∧
  (∀ e, readMatcher (writeMatcher e) = some e) ∧
  (∀ e, e.delay ≤ 255 → readFault (writeFault e) = some e) ∧
  (∀ e, e.positionTolerance ≤ 255 → 4 ≤ e.silenceExponent → e.silenceExponent ≤ 20 → e.tolerance ≤ 15 →
    1 ≤ e.confirm → e.confirm ≤ 15 → e.holdLimit ≤ 255 → e.restoreTime ≤ 4095 →
    readMonitor (writeMonitor e) = some e) ∧
  (∀ e, e.baseDelay ≤ 1023 → readSetup (writeSetup e) = some e) ∧
  (∀ e, e.slewWindow ≤ 48000 → 100 ≤ e.slewRate → e.slewRate ≤ 10000 → e.freewheelLimit ≤ 255 →
    readControl (writeControl e) = some e) ∧
  (∀ x : BitVec 16, readPattern (be16 x.toNat) = some x) ∧
  ∀ x : NoticeSet, readNotices (be16 (noticesNat x)) = some x

/-- From R164, R165: a WRITE to a banked table: CLAIMED, BUSY, INVALID, or every entry stored in the editable bank
with the claim taken; the other bank and Show Setup stand. R41, R58: both rigs take a changed FRONT Fault Policy or
restore time, written in STOPPED; here no guard decision of this instant stands open, which the write of a changed
silence exponent would undo, and a DIVERGED that the new health states could call for is present already. R45: a FRONT
Route table or silence exponent that changes restarts both Guard Monitors, and no other WRITE does. R154: a FRONT
Matcher table that changes makes every previous-match memory not matched, and no other WRITE moves a matcher. R106: a
WRITE to the FRONT Group table makes every group evaluate its target afresh (a production that has reached N has
landed first, the model's deduction, log 31), and no other WRITE touches the Group Mixer. From R160, R164: what a
WRITE stores. It is refused exactly where in some entry a field that the table of R160 refuses is out of its range: in
the Route table each field, in the Group table the blind policy, in the Song table each field, in the Matcher table
source, action, lamp and pattern, in the Fault Policy table the enable. Else each entry stands at its index, field by
field, every clamped field at the nearer end of its range: the Group fade length, and in the Monitor Policy silence
exponent, T, K and restore time; the other entries and tables are as they were. -/
def Obligations.WriteBankedTable : Prop :=
  (∀ (s : State) (q : Port) (k : BankedTable) (first count n len : Nat) (data : List Byte),
     let p := s.opened q (4 + data.length)
     let w : WriteRequest := { id := bankedId k, first, count, data }
     tableShape (bankedId k) = some (n, len) → 1 ≤ count → count ≤ 255 → first + count ≤ n → data.length = count * len →
     ∃ t, exec (.writeBankedTable q k (writeBody (bankedId k) first count data)) s = .next t ∧
       ((∃ c, p.bank.claim = some c ∧ c ≠ q) → RefusedWith p t q .claimed) ∧
       (p.bank.claim = none ∨ p.bank.claim = some q →
         (p.bank.exchange ≠ none → RefusedWith p t q .busy) ∧
         (p.bank.exchange = none → p.editable.written k w = none → RefusedWith p t q .invalid) ∧
         ∀ b, p.bank.exchange = none → p.editable.written k w = some b → DoneOn t q ∧
           (p.arbiter.state ≠ .stopped → OnlyPort q { p with bank := t.bank } t ∧
             t.bank = { p.bank with back := b, claim := some q }) ∧
           (p.arbiter.state = .stopped → t.bank = { p.bank with front := b, claim := some q } ∧
             (let restarts := b.route ≠ p.bank.front.route ∨
                b.monitor.silenceExponent ≠ p.bank.front.monitor.silenceExponent
              (restarts → ∀ r, let g := t.guards.get r
                g.marks = none ∧ g.playing = false ∧ g.void = true ∧ g.voidNext = p.tickDue ∧ g.silent = false ∧
                g.frozen = false) ∧
              (¬ restarts → t.guards = p.guards)) ∧
             (b.matcher ≠ p.bank.front.matcher →
               ∀ m, t.matchers.get m = { p.matchers.get m with matched := false }) ∧
             (b.matcher = p.bank.front.matcher → t.matchers = p.matchers) ∧
             (k = .group → GroupsRetargeted b p.arbiter p t) ∧ (k ≠ .group → t.mixer = p.mixer) ∧
             ((∀ r mine theirs, (p.parsers.get r).record = some mine → mine.transport ≠ .playing →
                 (p.parsers.get r.other).record = some theirs → theirs.transport = .playing →
                 (p.parsers.get r).diverged = true) →
               ∀ r, (k = .faultPolicy → PolicyTaken p.bank.front.fault b.fault (p.health.get r) (t.health.get r)) ∧
                 (k = .monitorPolicy → p.instantHealth.unguarded = none →
                   RestoreTaken b.monitor.restoreTime (p.health.get r) (t.health.get r)))))) ∧
  ∀ (b : Bank) (k : BankedTable) (first count n len : Nat) (data : List Byte),
    let e := fun j x : Nat => data.getD (len * j + x) 0
    let w : WriteRequest := { id := bankedId k, first, count, data }
    tableShape (bankedId k) = some (n, len) → 1 ≤ count → first + count ≤ n → data.length = count * len →
    (b.written k w = none ↔ ∃ j < count, EntryRefused k (e j)) ∧
    ∀ c, b.written k w = some c → SameOutside b c first count k ∧ ∀ j < count, EntryHeld c (first + j) k (e j)

/-- From R161, R162, R8: a WRITE to Show Setup: WRONG_STATE unless STOPPED; then INVALID where sample rate, beacon
period, frame rate, a pilot slot or a right is out of its range, and else the entry that its bytes say is stored, the
base delay clamped to 1023; a changed sample rate puts the Clock Input in HOLDOVER; neither delay moves. From R34,
R39: a changed beacon period: MISSING of each rig is judged afresh at once on the age against twice the new period,
becoming present, with its flag set unless the rig is OFFLINE, or ending; every later sample instant ends a tick
exactly where S is a multiple of the new period. That a tick end due at the instant of the WRITE stays due is the
model's choice (log 54). That CLOCK_HOLDOVER is raised by the change of rate in LOCKED, as R8 says, where R162 says
that no notice is raised by a Show Setup write, is the model's choice (log 64). -/
def Obligations.WriteShowSetup : Prop :=
  ∀ (s : State) (rate period frames slotA slotB dh dl rightsA rightsB : Byte),
    let data := [rate, period, frames, slotA, slotB, dh, dl, rightsA, rightsB]
    let e := fun k => data.getD k 0
    let p := s.opened .p 13
    ∃ t, exec (.writeShowSetup .p (writeBody 24 0 1 data)) s = .next t ∧
      (p.arbiter.state ≠ .stopped → RefusedWith p t .p .wrongState) ∧
      (p.arbiter.state = .stopped → SetupRefused e → RefusedWith p t .p .invalid) ∧
      (p.arbiter.state = .stopped → ¬ SetupRefused e → ∃ u, SetupHeld u e ∧
        DoneOn t .p ∧ t.bank = { p.bank with setup := u } ∧ t.lines = p.lines ∧
        (u.rate = p.bank.setup.rate → t.clock = p.clock) ∧
        (u.rate ≠ p.bank.setup.rate → t.clock.source = .holdover ∧ t.clock.returnCounter = 0 ∧
          t.clock.count = p.clock.count ∧ (p.clock.source = .locked → Noted t .clockHoldover)) ∧
        (u.rate = p.bank.setup.rate → u.pilot = p.bank.setup.pilot → u.period = p.bank.setup.period →
          Touches [.bank, .ports] p t) ∧
        (u.period = p.bank.setup.period → ∀ r, u.pilot.get r ≠ p.bank.setup.pilot.get r →
          (t.parsers.get r).assembly = .waiting ∧ (t.parsers.get r).rejected = (p.parsers.get r).rejected) ∧
        t.tickDue = p.tickDue ∧
        (t.instant.tickDue = true ↔ (p.clock.count + 1).toNat % (256 * 2 ^ period.toNat) = 0) ∧
        (u.period ≠ p.bank.setup.period → ∀ r,
          let x := p.parsers.get r
          let y := t.parsers.get r
          let present := x.age = none ∨ ∃ n, x.age = some n ∧ 2 * (256 * 2 ^ period.toNat) < n
          y.age = x.age ∧ y.record = x.record ∧ (¬ present → y.missing = false) ∧
          (present → x.missing = true → y.missing = true) ∧
          (present → x.missing = false → x.judging = none → (p.links.get r).window = none → y.missing = true ∧
            ((p.health.get r).state ≠ .offline → (t.health.get r).flags.get FaultKind.missing.idx = true))))

/-- From R166, R167: RELEASE_CLAIM and COPY_BANK. -/
def Obligations.ReleaseClaimAndCopyBank : Prop :=
  (∀ (s : State) (q : Port),
    let p := s.opened q 1
    ∃ t, exec (.releaseClaim q (withCheck 0x23 [])) s = .next t ∧
      (p.bank.claim = none → DoneOnly p t q) ∧
      (p.bank.claim = some q → DoneOn t q ∧ OnlyPort q { p with bank := { p.bank with claim := none } } t) ∧
      ∀ c, p.bank.claim = some c → c ≠ q →
        (q ≠ .p → RefusedWith p t q .claimed) ∧
        (q = .p → DoneOn t q ∧ t.bank = { p.bank with claim := none } ∧ Touches [.bank, .ports] p t ∧
          (t.ports.get c).notices.get Notice.claimLost.idx = true)) ∧
  ∀ (s : State) (q : Port),
    let p := s.opened q 1
    ∃ t, exec (.copyBank q (withCheck 0x22 [])) s = .next t ∧
      (p.arbiter.state = .stopped → RefusedWith p t q .wrongState) ∧
      (p.arbiter.state ≠ .stopped → (∃ c, p.bank.claim = some c ∧ c ≠ q) → RefusedWith p t q .claimed) ∧
      (p.arbiter.state ≠ .stopped → p.bank.claim = none ∨ p.bank.claim = some q →
        (p.bank.exchange ≠ none → RefusedWith p t q .busy) ∧
        (p.bank.exchange = none → DoneOn t q ∧
          OnlyPort q { p with bank := { p.bank with back := p.bank.front, claim := some q } } t))

/-- From R169, R170, R172: EXCHANGE: its refusals; a NOW request taken at once in STEADY and BLIND, waiting due while
CHANGING; an AT_SONG request pending with the claim kept; a NOW request over a pending AT_SONG, which falls due
without a new validation. R41, R58, R141: what an exchange taken in MANUAL does to both rigs' health, the restore time
before the Fault Policy, which is the model's choice (log 16), where no guard decision of this instant stands open and
a DIVERGED that the new states could call for is present already; and the Show Clock re-based on a changed start
timecode. R106, R172: an exchange taken outside CHANGING, by a command or at a song boundary, makes every group
evaluate its target under the new policies and fade lengths, its modes and flag as they were (a production that has
reached N has landed first, the model's deduction, log 31); in BLIND after the arbiter's standing tests, the model's
choice (log 16). From R171: CANCEL_EXCHANGE makes a pending exchange absent and keeps the claim; another port's claim
refuses it. The check of the claim stands first even where nothing is pending, the model's reading (log 34). R170,
R121: a song boundary of the on-air rig makes a pending AT_SONG exchange fall due, taken at once unless CHANGING, and
reverts every one-song override; any other acceptance does neither. R142, in MANUAL outside CHANGING: where the
exchange is taken before the clock's song change, SONG_CHANGED pends and JUMPED only if it did before, which is the
model's choice (log 45); where the song change is taken first, JUMPED pends too if the two banks give the new song
different start timecodes. -/
def Obligations.ExchangeAndCancel : Prop :=
  (∀ (s : State) (q : Port) (b : Byte),
     let p := s.opened q 2
     let free := p.bank.claim = none ∨ p.bank.claim = some q
     let taken := fun t : State =>
       t.bank = { p.bank with front := p.bank.back, back := p.bank.front, claim := none, exchange := none } ∧
       Noted t .bankExchanged ∧ (∀ k, (t.matchers.get k).matched = false) ∧
       (∀ r, (t.guards.get r).void = true ∧ (t.guards.get r).silent = false ∧ (t.guards.get r).frozen = false) ∧
       ExchangeRegroups p t ∧
       (p.arbiter.mode = .manual →
         (p.instantHealth.unguarded = none →
           (∀ r mine theirs, (p.parsers.get r).record = some mine → mine.transport ≠ .playing →
             (p.parsers.get r.other).record = some theirs → theirs.transport = .playing →
             (p.parsers.get r).diverged = true) →
           ∀ r, ∃ h, RestoreTaken p.bank.back.monitor.restoreTime (p.health.get r) h ∧
             PolicyTaken p.bank.front.fault p.bank.back.fault h (t.health.get r)) ∧
         ∀ song, p.showClock.song = some song →
           let rebased := (p.showClock.state = .running ∨ p.showClock.state = .slewing ∨ p.showClock.state = .freewheel) ∧
             (p.bank.front.song.get (songIndex song)).start ≠ (p.bank.back.song.get (songIndex song)).start
           t.tcOutput = p.tcOutput ∧
           (rebased → t.showClock = { p.showClock with jumped := true, lastFrame := .absent }) ∧
           (¬ rebased → t.showClock = p.showClock))
     p.operates q = true ∨ p.bank.claim = some q →
     ∃ t, exec (.exchange q (withCheck 0x20 [b])) s = .next t ∧
       (2 ≤ b.toNat → RefusedWith p t q .invalid) ∧
       (b.toNat < 2 → p.arbiter.state = .stopped → RefusedWith p t q .wrongState) ∧
       (b.toNat < 2 → p.arbiter.state ≠ .stopped →
         (¬ free → RefusedWith p t q .claimed) ∧
         (free → p.bank.exchange = none → p.bank.back.valid p.bank.setup = false → RefusedWith p t q .invalid) ∧
         (free → p.bank.exchange = none → p.bank.back.valid p.bank.setup = true → DoneOn t q ∧
           (b = 1 → OnlyPort q { p with bank := { p.bank with exchange := some { timing := .atSong, due := false } } } t) ∧
           (b = 0 → p.arbiter.state = .changing →
             OnlyPort q { p with bank := { p.bank with exchange := some { timing := .now, due := true } } } t) ∧
           (b = 0 → p.arbiter.state ≠ .changing → taken t)) ∧
         (free → ∀ e, p.bank.exchange = some e → e.timing = .now ∨ b = 1 → DoneOnly p t q) ∧
         (free → ∀ e, p.bank.exchange = some e → e.timing = .atSong → b = 0 → DoneOn t q ∧
           (p.arbiter.state = .changing →
             OnlyPort q { p with bank := { p.bank with exchange := some { timing := .now, due := true } } } t) ∧
           (p.arbiter.state ≠ .changing → taken t)))) ∧
  (∀ (s : State) (q : Port),
    let p := s.opened q 1
    p.operates q = true ∨ p.bank.claim = some q →
    ∃ t, exec (.cancelExchange q (withCheck 0x21 [])) s = .next t ∧
      ((∃ c, p.bank.claim = some c ∧ c ≠ q) → RefusedWith p t q .claimed) ∧
      (p.bank.claim = none ∨ p.bank.claim = some q →
        DoneOn t q ∧ OnlyPort q { p with bank := { p.bank with exchange := none } } t)) ∧
  (∀ (s : State) (x : Acceptance), x.boundary = false ∨ s.arbiter.onAir ≠ some x.rig →
    s.bankReads x = s ∧ s.groupsRead x = s) ∧
  (∀ (s : State) (x : Acceptance) (due : Bool),
    let t := s.bankReads x
    x.boundary = true → s.arbiter.onAir = some x.rig → s.bank.exchange = some { timing := .atSong, due } →
    (s.arbiter.state = .changing →
      t = s.setBank { s.bank with exchange := some { timing := .atSong, due := true } }) ∧
    (s.arbiter.state ≠ .changing →
      t.bank = { s.bank with front := s.bank.back, back := s.bank.front, claim := none, exchange := none } ∧
      Noted t .bankExchanged ∧ ExchangeRegroups s t)) ∧
  (∀ (s : State) (x : Acceptance) (song : Byte) (due : Bool),
    let c := s.showClock
    let t := (s.bankReads x).clockReads x
    let v := (s.clockReads x).bankReads x
    let start := fun b : Bank => (b.song.get (songIndex x.new.song)).start
    x.boundary = true → s.arbiter.onAir = some x.rig → s.bank.exchange = some { timing := .atSong, due } →
    s.arbiter.state ≠ .changing → s.arbiter.mode = .manual → x.rebases = !c.jumped →
    (c.state = .running ∨ c.state = .slewing ∨ c.state = .freewheel) → c.song = some song →
    x.new.transport = .playing → x.new.song ≠ song →
    t.showClock.song = some x.new.song ∧ t.showClock.songChanged = true ∧ t.showClock.jumped = c.jumped ∧
    t.startOf x.new.song = start s.bank.back ∧
    v.showClock.song = some x.new.song ∧ v.showClock.songChanged = true ∧
    (v.showClock.jumped = true ↔ c.jumped = true ∨ start s.bank.front ≠ start s.bank.back) ∧
    v.startOf x.new.song = start s.bank.back) ∧
  ∀ (s : State) (x : Acceptance) (i : Fin 8),
    let t := s.groupsRead x
    let g := s.mixer.groups.get i
    let h := t.mixer.groups.get i
    let e := s.bank.front.group.get i
    let target := targetOf s.arbiter e.policy g.base
    x.boundary = true → s.arbiter.onAir = some x.rig → s.arbiter.state = .steady →
    Touches [.mixer] s t ∧ t.mixer = { s.mixer with groups := t.mixer.groups } ∧
    (g.oneSong = false → h = g) ∧
    (g.oneSong = true → h.mode = g.base ∧ h.base = g.base ∧ h.oneSong = false ∧
      (g.mode = g.base → h = { g with oneSong := false }) ∧
      (g.mode ≠ g.base → h.target = target ∧
        (g.transition = none → target ≠ g.current → e.fadeLength ≠ 0 →
          h.transition = some { src := g.current, dst := target, k := 0, n := e.fadeLength })))

/-! ### Event Matchers (chapter 8) -/

/-- From R147 to R151, R153: the matchers examine a beacon together against the old memories; with no EXCHANGE among
the actions the new memory of each examining matcher is its match, its fire count counts its firings, and the inhibit
flag is as the last INHIBIT action leaves it. R99: clearing it in BLIND with AUTO mode and an eligible standby starts
a late failover. R152: the Bank Store's answers to the EXCHANGE action in the order of its checks, and what it does on
DONE, to the Group Mixer too (R106, R172; in BLIND after the standing tests, the model's choice, log 16; a production
at N landing first, its deduction, log 31); a firing matcher of that action carries the answer as its result, and the
other firings on the same beacon are performed all the same. -/
def Obligations.MatchersExamineTogether : Prop :=
  (∀ (s : State) (x : Acceptance) (k : Fin 8),
     let action := fun j : Fin 8 => (s.bank.front.matcher.get j).action
     let e := s.bank.front.matcher.get k
     let m := s.matchers.get k
     let xs := ((List.range 14).filter fun i => e.mask.getLsbD i).map (beaconByte x.bytes)
     let pass := e.enable = true ∧ xs ≠ [] ∧ crc16 xs = e.crc ∧ xs.getLast? = some e.lastByte
     let chained := e.chain = true → ∃ j : Fin 8, j.val + 1 = k.val ∧
       (s.bank.front.matcher.get j).source = e.source ∧ (s.matchers.get j).matched = true
     let examined := e.source = .rigA ∧ x.rig = .a ∨ e.source = .rigB ∧ x.rig = .b ∨
       e.source = .onAir ∧ s.arbiter.onAir = some x.rig
     let fires := examined ∧ pass ∧ chained ∧ (e.edge = true → m.matched = false)
     let quiet := s.arbiter.state ≠ .blind ∧ s.completionHolds = false
     let inhibits := ∃ j, action j = .inhibitOn ∨ action j = .inhibitOff
     let t := s.matchersRead x
     (∀ j, action j ≠ .exchange) → (quiet ∨ s.bank.exchange = none ∨ ¬ inhibits) →
       (¬ inhibits → Touches [.matchers, .ports, .lamps] s t) ∧
       (quiet → Touches [.arbiter, .matchers, .ports, .lamps] s t ∧
         t.arbiter = { s.arbiter with inhibit := t.arbiter.inhibit }) ∧
       ((t.matchers.get k).matched = true ↔ (if examined then pass ∧ chained else m.matched = true)) ∧
       (fires → (t.matchers.get k).fires = min 255 (m.fires + 1) ∧ (t.matchers.get k).lastStamp = some x.new.stamp ∧
         (t.matchers.get k).lastResult = some .done ∧ Noted t .matcherFired ∧
         (e.action = .lamp → (∀ j, k.val < j.val → (s.bank.front.matcher.get j).lamp ≠ e.lamp) →
           t.lamps.override.get e.lamp = some e.pattern) ∧
         (e.action = .inhibitOn → (∀ j, k.val < j.val → action j ≠ .inhibitOff) → t.arbiter.inhibit = true) ∧
         (e.action = .inhibitOff → (∀ j, k.val < j.val → action j ≠ .inhibitOn) → t.arbiter.inhibit = false ∧
           ∀ r : Rig, s.arbiter.state = .blind → s.arbiter.onAir = some r.other → s.arbiter.mode = .auto →
             (s.bank.front.song.get (songIndex s.arbiter.song)).auto = true → s.arbiter.eligible = true →
             (s.handed r).down = false → s.bank.exchange = none → t.arbiter.onAir = some r)) ∧
       (¬ fires → (t.matchers.get k).fires = m.fires ∧ (t.matchers.get k).lastStamp = m.lastStamp ∧
         (t.matchers.get k).lastResult = m.lastResult)) ∧
  (∀ s : State,
    let a := s.matcherExchange
    a.2 = (if s.arbiter.state = .stopped then .wrongState
      else if s.bank.claim.isSome then .claimed
      else if s.bank.exchange.isNone && !s.bank.back.valid s.bank.setup then .invalid
      else .done) ∧
    (a.2 ≠ .done → a.1 = s) ∧
    (∀ due, s.bank.exchange = some { timing := .now, due } → a.1 = s) ∧
    (a.2 = .done → (∀ e, s.bank.exchange = some e → e.timing = .atSong) →
      (s.arbiter.state = .changing → a.1 = s.setBank { s.bank with exchange := some { timing := .now, due := true } }) ∧
      (s.arbiter.state ≠ .changing → Noted a.1 .bankExchanged ∧ ExchangeRegroups s a.1 ∧
        (∀ k, (a.1.matchers.get k).matched = false) ∧
        a.1.bank = { s.bank with front := s.bank.back, back := s.bank.front, claim := none, exchange := none }))) ∧
  ∀ (s : State) (x : Acceptance) (k : Fin 8),
    let action := fun j : Fin 8 => (s.bank.front.matcher.get j).action
    let t := s.matchersRead x
    examines (s.bank.front.matcher.get k).source s.arbiter.onAir x.rig = true → s.matcherFires k x.bytes = true →
    action k = .exchange → (∀ j, j ≠ k → action j = .notice ∨ action j = .lamp) →
    t.bank = s.matcherExchange.1.bank ∧ (t.matchers.get k).lastResult = some s.matcherExchange.2 ∧
    (t.matchers.get k).fires = min 255 ((s.matchers.get k).fires + 1) ∧ Noted t .matcherFired ∧
    ∀ j, j ≠ k → examines (s.bank.front.matcher.get j).source s.arbiter.onAir x.rig = true →
      s.matcherFires j x.bytes = true →
      (t.matchers.get j).fires = min 255 ((s.matchers.get j).fires + 1) ∧ (t.matchers.get j).lastResult = some .done

/-! ### Lamps (chapter 11) -/

/-- From R197, R198: a step boundary: the common step moves on and every lamp takes its bit of the pattern in force,
step 0 in bit 15; the automatic choice of each lamp from the health states as last handed on and the arbiter,
alignment and clock states. -/
def Obligations.LampStepBoundary : Prop :=
  ∀ s : State,
    let p := s.prepare
    let step := (p.lamps.step + 1) % 16
    let rig : Rig → Fin 8 := fun r => match p.handed r with
      | .healthy => 1 | .suspect => 2 | .failed => 3 | .recovering => 4 | .offline => 0
    let air : Rig → Fin 8 := fun r => if p.arbiter.onAir = some r then
      (match p.arbiter.state with | .steady => 1 | .changing => 3 | .blind => 5 | .stopped => 0) else 0
    let sync : Fin 8 := match p.alignment.state with
      | .accepted => 1 | .held => 2 | .confirming => 3 | .none => 0 | .outOfReach => 0
    let clock : Fin 8 := match p.showClock.state with
      | .running => 1 | .freewheel => 2 | .slewing => 3 | .held => 5 | .idle => 0
    p.lamps.due = true →
    ∃ t, exec .lampStepBoundary s = .next t ∧ Touches [.lamps] p t ∧ t.lamps.step = step ∧ t.lamps.timer = 0 ∧
      t.lamps.due = false ∧ t.lamps.override = p.lamps.override ∧ t.lamps.patterns = p.lamps.patterns ∧
      ∀ i : Fin 6, t.lamps.lit.get i = (p.lamps.patterns.get ((p.lamps.override.get i).getD
        (match i with | 0 => rig .a | 1 => rig .b | 2 => air .a | 3 => air .b | 4 => sync | 5 => clock))).getLsbD (15 - step)

/-- From R199: SET_LAMP sets or clears one override and nothing else; a lamp or a pattern out of range is refused.
From R197: a WRITE to id 26 stores one pattern, the lamps staying as they are until the next step boundary. -/
def Obligations.LampOverridesAndPatterns : Prop :=
  (∀ (s : State) (x y : Byte),
     let p := s.opened .p 3
     ∃ t, exec (.setLamp .p (withCheck 0x33 [x, y])) s = .next t ∧
       (6 ≤ x.toNat ∨ (8 ≤ y.toNat ∧ y ≠ 0xFF) → RefusedWith p t .p .invalid) ∧
       ∀ i : Fin 6, x.toNat = i.val → (y.toNat < 8 ∨ y = 0xFF) → DoneOn t .p ∧ Touches [.lamps, .ports] p t ∧
         t.lamps = { p.lamps with override := t.lamps.override } ∧
         (∀ j, j ≠ i → t.lamps.override.get j = p.lamps.override.get j) ∧
         (y = 0xFF → t.lamps.override.get i = none) ∧
         ∀ k : Fin 8, y.toNat = k.val → t.lamps.override.get i = some k) ∧
  ∀ (s : State) (i : Fin 8) (x : BitVec 16),
    let p := s.opened .p 6
    ∃ t, exec (.writeLampPatterns .p (writeBody 26 i.val 1 (be16 x.toNat))) s = .next t ∧ DoneOn t .p ∧
      Touches [.lamps, .ports] p t ∧ t.lamps = { p.lamps with patterns := t.lamps.patterns } ∧
      t.lamps.patterns.get i = x ∧ ∀ j, j ≠ i → t.lamps.patterns.get j = p.lamps.patterns.get j

/-! ### Resets (R200, R187 and the reset tables of the chapters) -/

/-- From R8, R19, R37, R59, R63, R79, R103, R123, R143, R146, R159, R173, R187, R197, R199, R200: what a full reset
leaves: every item of the reset tables of the Clock Input and the links, the parsers, the Health Qualifiers and Guard
Monitors, the delay lines, the Alignment Monitor, the arbiter, the groups, the Show Clock and the Timecode Output, the
matchers, the Bank Store with the defaults of every banked table and of Show Setup, the ports, the lamps with their
patterns, and Device Status. -/
def Obligations.FullResetValues : Prop :=
  ∀ (s : State) (cause : ResetCause), ∃ t, exec (.fullReset cause) s = .next t ∧
    t.device.cause = (match cause with | .powerOn => .power | .resetLine => .line) ∧ t.device.restarts = 0 ∧
    t.clock.source = .holdover ∧ t.clock.returnCounter = 0 ∧ t.clock.count = 0 ∧
    (∀ r, (t.links.get r).state = .absent ∧ (t.links.get r).acquisition = 0 ∧ (t.links.get r).kept = [] ∧
      (t.links.get r).badFrames = 0 ∧ (t.links.get r).store = [] ∧ (t.links.get r).slips = 0 ∧
      (∀ k, (t.links.get r).laneErrors.get k = 0) ∧ (t.links.get r).lastRead = none) ∧
    (∀ r, (t.parsers.get r).assembly = .waiting ∧ (t.parsers.get r).record = none ∧ (t.parsers.get r).age = none ∧
      (t.parsers.get r).missing = true ∧ (t.parsers.get r).selfFault = false ∧ (t.parsers.get r).diverged = false ∧
      (t.parsers.get r).valid = 0 ∧ (t.parsers.get r).rejected = 0) ∧
    (∀ r, (t.health.get r).state = .offline ∧ (∀ i, (t.health.get r).counters.get i = 0 ∧
        (t.health.get r).flags.get i = false ∧ (t.qualified r).get i = false ∧ (t.health.get r).history.get i = false) ∧
      (t.health.get r).restore = 0 ∧ (t.health.get r).failures = 0 ∧ (t.guards.get r).marks = none ∧
      (t.guards.get r).playing = false ∧ (t.guards.get r).void = true ∧ (t.guards.get r).silent = false ∧
      (t.guards.get r).frozen = false ∧ t.lines.get r = { delay := 512, rings := [] }) ∧
    t.alignment.state = .none ∧ t.alignment.candidate = none ∧ t.alignment.accepted = none ∧
    t.alignment.pairless = 0 ∧ t.alignment.holdAge = 0 ∧ t.alignment.deferred = none ∧
    t.alignment.lastMeasurement = none ∧ t.alignment.lastRequired = none ∧
    t.arbiter.reference = .a ∧ t.arbiter.standby = .b ∧
    t.arbiter.state = .stopped ∧ t.arbiter.mode = .manual ∧ t.arbiter.inhibit = false ∧ t.arbiter.onAir = none ∧
    t.arbiter.outgoing = none ∧ t.arbiter.song = 0 ∧ t.arbiter.eligible = false ∧ t.arbiter.history = [] ∧
    t.arbiter.nextSequence = 0 ∧
    (∀ i, t.mixer.groups.get i = { mode := .follow, base := .follow, oneSong := false, current := .silent,
                                   transition := none, target := .silent }) ∧
    t.showClock.state = .idle ∧ t.showClock.anchor = none ∧ t.showClock.target = none ∧ t.showClock.song = none ∧
    t.showClock.slewCounter = none ∧ t.showClock.freewheelCounter = none ∧ t.showClock.heldValue = none ∧
    t.showClock.cadence = none ∧ t.showClock.lastFrame = .absent ∧ t.showClock.jumped = false ∧
    t.showClock.songChanged = false ∧ t.showClock.lastError = none ∧ t.showClock.lastEmitted = none ∧
    t.showClock.control = { slewWindow := 4800, slewRate := 1000, freewheelLimit := 50 } ∧
    t.tcOutput.sending = none ∧ t.tcOutput.waiting = none ∧ t.tcOutput.line = true ∧
    (∀ k, t.matchers.get k = { matched := false, fires := 0, lastResult := none, lastStamp := none }) ∧
    t.bank.claim = none ∧ t.bank.exchange = none ∧ t.bank.back = t.bank.front ∧
    t.bank.setup = { rate := .r48k, period := .p512, frameRate := .f30, pilot := ⟨63, 63⟩, baseDelay := 512,
                     rights := ⟨.none, .none⟩ } ∧
    (∀ i : Fin 64, t.bank.front.route.get i = { enable := i != 63, guardFlag := false, slotA := i, slotB := i,
                                                group := ⟨i.val / 8, by omega⟩ }) ∧
    (∀ i, (t.bank.front.group.get i) = { fadeLength := 480, policy := .stay }) ∧
    (∀ n : Fin 256, t.bank.front.song.get n = { start := { h := n.val % 24, m := 0, s := 0, fr := 0 }, auto := true }) ∧
    (∀ k, t.bank.front.matcher.get k = { enable := false, chain := false, edge := false, source := .onAir, mask := 0, crc := 0,
                                         lastByte := 0, action := .notice, lamp := 0, pattern := 0 }) ∧
    (∀ i, t.bank.front.fault.get i = { enabled := i != FaultKind.slip.idx && i != FaultKind.sequence.idx
                                       delay := [2, 1, 4, 3, 1, 1, 0, 24, 8, 0, 32].getD i.val 0 }) ∧
    t.bank.front.monitor = { positionTolerance := 4, silenceExponent := 8, tolerance := 2, confirm := 4, holdLimit := 255,
                             restoreTime := 960 } ∧
    (∀ q, (t.ports.get q).tx = .idle ∧ (t.ports.get q).lastResult = .done ∧ (t.ports.get q).attention = true ∧
      (∀ k, (t.ports.get q).notices.get k = (k == Notice.engineRestarted.idx)) ∧
      ∀ k, (t.ports.get q).mask.get k = false) ∧
    t.lamps.timer = 0 ∧ t.lamps.step = 0 ∧ (∀ i, t.lamps.lit.get i = false ∧ t.lamps.override.get i = none) ∧
    ∀ i : Fin 8, t.lamps.patterns.get i = [0, 0xFFFF, 0xFF00, 0xCCCC, 0xCC00, 0x8000, 0, 0].getD i.val 0

/-- From R187, R200 and the engine-restart columns of R37, R59, R63, R79, R103, R123, R146, R173, R199: what RESTART
changes and what it keeps. The changeover history is kept, an entry in flight closed ABORTED; the fault histories are
kept, without what a guard condition decided at this very instant added, which the restart undoes (R45, logs 30 and
40). -/
def Obligations.EngineRestart : Prop :=
  ∀ s : State,
    let p := s.opened .p 1
    let kept := fun r : Rig => match p.instantHealth.unguarded with
      | none => p.health.get r
      | some u => (u.get r).health
    ∃ t, exec (.restart .p (withCheck 0x3F [])) s = .next t ∧ DoneOn t .p ∧ Noted t .engineRestarted ∧
      t.clock = p.clock ∧ t.links = p.links ∧ t.tickDue = p.tickDue ∧
      t.device = { cause := .restart, restarts := min 255 (p.device.restarts + 1) } ∧
      (∀ r, (t.parsers.get r).assembly = .waiting ∧ (t.parsers.get r).record = none ∧
        (t.parsers.get r).valid = (p.parsers.get r).valid ∧ (t.parsers.get r).rejected = (p.parsers.get r).rejected ∧
        (t.parsers.get r).age = (if (p.links.get r).state = .locked then some 0 else none) ∧
        (t.parsers.get r).missing = decide ((p.links.get r).state ≠ .locked)) ∧
      (∀ r, (t.health.get r).state = .offline ∧ (t.health.get r).flags = noKinds ∧ (t.health.get r).restore = 0 ∧
        (t.health.get r).counters = Table.fill 11 0 ∧ (t.health.get r).history = (kept r).history ∧
        (t.health.get r).failures = (kept r).failures ∧
        (t.guards.get r).void = true ∧ (t.guards.get r).silent = false ∧ (t.guards.get r).frozen = false ∧
        t.lines.get r = { delay := p.bank.setup.baseDelay, rings := [] }) ∧
      t.alignment.state = .none ∧ t.alignment.accepted = none ∧ t.alignment.deferred = none ∧
      t.arbiter.state = .stopped ∧ t.arbiter.onAir = none ∧ t.arbiter.outgoing = none ∧ t.arbiter.inhibit = false ∧
      t.arbiter.eligible = false ∧ t.arbiter.mode = p.arbiter.mode ∧ t.arbiter.song = p.arbiter.song ∧
      t.arbiter.nextSequence = p.arbiter.nextSequence ∧
      t.arbiter.history = (if p.arbiter.state = .changing then
        p.arbiter.history.map fun e => if e.ending = .inFlight then { e with ending := .aborted } else e
        else p.arbiter.history) ∧
      (∀ i, (t.mixer.groups.get i).mode = (p.mixer.groups.get i).base ∧
        (t.mixer.groups.get i).base = (p.mixer.groups.get i).base ∧ (t.mixer.groups.get i).oneSong = false ∧
        ((p.mixer.groups.get i).base = .follow ∨ (p.mixer.groups.get i).base = .mute →
          (t.mixer.groups.get i).current = .silent ∧ (t.mixer.groups.get i).transition = none)) ∧
      t.showClock.state = .idle ∧ t.showClock.control = p.showClock.control ∧
      t.showClock.lastEmitted = p.showClock.lastEmitted ∧ t.tcOutput.waiting = none ∧
      (∀ k, t.matchers.get k = { p.matchers.get k with matched := false }) ∧
      t.bank = { p.bank with claim := none, exchange := none } ∧
      (∀ q, (t.ports.get q).mask = (p.ports.get q).mask) ∧
      t.lamps = { p.lamps with override := Table.fill 6 none }
end

