-- ==== Sys2Proof/Laws/Word.lean ====
section
/-! SUPPORT. Reading a table, a pair or a triple after an update of it. -/

namespace Sys2Proof

variable {α β : Type} {n : Nat}

@[simp] theorem Table.get_set_same (t : Table n α) (i : Fin n) (x : α) : (t.set i x).get i = x := by
  simp [Table.get, Table.set]

@[simp] theorem Table.get_set_ne (t : Table n α) (i j : Fin n) (x : α) (h : i ≠ j) : (t.set i x).get j = t.get j := by
  have : i.val ≠ j.val := fun e => h (Fin.ext e)
  simp [Table.get, Table.set, List.getElem_set_ne this]

@[simp] theorem Table.get_tab (f : Fin n → α) (i : Fin n) : (Table.tab f).get i = f i := by
  simp [Table.get, Table.tab]

@[simp] theorem Table.get_fill (x : α) (i : Fin n) : (Table.fill n x).get i = x := by
  simp [Table.get, Table.fill]

@[simp] theorem Table.get_map (f : α → β) (t : Table n α) (i : Fin n) : (t.map f).get i = f (t.get i) := by
  simp [Table.get, Table.map]

@[simp] theorem Table.get_update (f : Fin n → α → β) (t : Table n α) (i : Fin n) :
    (t.update f).get i = f i (t.get i) := by
  simp [Table.get, Table.update]

/-- Tables are equal when their entries are. -/
theorem Table.ext_get {t u : Table n α} (h : ∀ i, t.get i = u.get i) : t = u := by
  obtain ⟨l, hl⟩ := t
  obtain ⟨m, hm⟩ := u
  have : l = m := List.ext_getElem (by omega) fun i h1 h2 => h ⟨i, by omega⟩
  subst this
  rfl

@[simp] theorem PerRig.get_set_same (p : PerRig α) (r : Rig) (x : α) : (p.set r x).get r = x := by cases r <;> rfl

@[simp] theorem PerRig.get_set_other (p : PerRig α) (r : Rig) (x : α) : (p.set r x).get r.other = p.get r.other := by
  cases r <;> rfl

@[simp] theorem PerRig.get_other_set (p : PerRig α) (r : Rig) (x : α) : (p.set r.other x).get r = p.get r := by
  cases r <;> rfl

@[simp] theorem PerRig.set_set (p : PerRig α) (r : Rig) (x y : α) : (p.set r x).set r y = p.set r y := by
  cases r <;> rfl

@[simp] theorem Rig.other_other (r : Rig) : r.other.other = r := by cases r <;> rfl

theorem PerRig.get_set (p : PerRig α) (r q : Rig) (x : α) : (p.set r x).get q = if q = r then x else p.get q := by
  cases r <;> cases q <;> rfl

@[simp] theorem PerPort.get_set_same (t : PerPort α) (q : Port) (x : α) : (t.set q x).get q = x := by cases q <;> rfl

theorem PerPort.get_set (t : PerPort α) (q k : Port) (x : α) : (t.set q x).get k = if k = q then x else t.get k := by
  cases q <;> cases k <;> rfl

@[simp] theorem PerPort.set_set (t : PerPort α) (q : Port) (x y : α) : (t.set q x).set q y = t.set q y := by
  cases q <;> rfl

@[simp] theorem PerPort.get_map (t : PerPort α) (f : α → β) (q : Port) : (t.map f).get q = f (t.get q) := by
  cases q <;> rfl

end Sys2Proof
end

