-- ==== Sys2Proof/Laws/Entries.lean ====
section
/-! SUPPORT. The bytes of table entries: numbers and sets in big-endian bytes, the items of an entry one after the other, and the
entries of a WRITE read and stored one by one. -/

namespace Sys2Proof.Machine

open Sys2Proof

/-! ### Sets as numbers (R189) -/

/-- The number `n` has bit `i` as `f i` says, for each `i` below `k`, and no further bit. -/
def Codes (f : Nat → Bool) (k n : Nat) : Prop := n < 2 ^ k ∧ ∀ i, i < k → n.testBit i = f i

theorem Codes.step {f : Nat → Bool} {k n : Nat} {b : Bool} (h : Codes f k n) (hb : b = f k) :
    Codes f (k + 1) (if b = true then n + 2 ^ k else n) := by
  obtain ⟨hlt, hbits⟩ := h
  have e : 2 ^ (k + 1) = 2 ^ k + 2 ^ k := by omega
  refine ⟨by split <;> omega, fun i hi => ?_⟩
  by_cases hk : i = k
  · subst hk hb
    split
    · rename_i h; rw [Nat.add_comm, Nat.testBit_two_pow_add_eq]; simp [Nat.testBit_lt_two_pow hlt, h]
    · rename_i h; simp only [Nat.testBit_lt_two_pow hlt]; simpa using h
  · have hi' : i < k := by omega
    split
    · rw [Nat.add_comm, Nat.testBit_two_pow_add_gt hi', hbits i hi']
    · exact hbits i hi'

/-- The number of a set is below 2^m and has the bits of its members. -/
theorem codes_fold (m : Nat) (g : Fin m → Bool) :
    Codes (fun i => if h : i < m then g ⟨i, h⟩ else false) m
      ((List.finRange m).foldl (fun n i => if g i = true then n + 2 ^ i.val else n) 0) := by
  have key : ∀ k (_ : k ≤ m), Codes (fun i => if h : i < m then g ⟨i, h⟩ else false) k
      (((List.finRange m).take k).foldl (fun n i => if g i = true then n + 2 ^ i.val else n) 0) := by
    intro k
    induction k with
    | zero => intro _; simp [Codes]
    | succ k ih =>
      intro hk
      rw [List.take_add_one, List.getElem?_eq_getElem (by simp; omega)]
      simp only [Option.toList_some, List.foldl_append, List.foldl_cons, List.foldl_nil, List.getElem_finRange]
      refine Codes.step (ih (by omega)) ?_
      rw [dif_pos (by omega)]; rfl
  have := key m (le_refl _)
  rwa [List.take_of_length_le (by simp)] at this

theorem kindsNat_lt (x : KindSet) : kindsNat x < 2048 := (codes_fold 11 x.get).1

theorem kindsNat_testBit (x : KindSet) (i : Fin 11) : (kindsNat x).testBit i.val = x.get i := by
  simpa [kindsNat, i.isLt] using (codes_fold 11 x.get).2 i.val i.isLt

theorem noticesNat_lt (x : NoticeSet) : noticesNat x < 8192 := (codes_fold 13 x.get).1

theorem noticesNat_testBit (x : NoticeSet) (i : Fin 13) : (noticesNat x).testBit i.val = x.get i := by
  simpa [noticesNat, i.isLt] using (codes_fold 13 x.get).2 i.val i.isLt

theorem kindsShown_kindsNat {x : KindSet} {p : Fin 11 → Prop} (h : ∀ i, x.get i = true ↔ p i) :
    KindsShown (BitVec.ofNat 16 (kindsNat x)) p := by
  have := kindsNat_lt x
  refine ⟨by simp; omega, fun i => ?_⟩
  have := i.isLt
  rw [← h i, ← kindsNat_testBit x i, BitVec.getLsbD_ofNat]
  simp; intro; omega

theorem noticesShown_noticesNat (x : NoticeSet) : NoticesShown (BitVec.ofNat 16 (noticesNat x)) x := by
  have := noticesNat_lt x
  refine ⟨by simp; omega, fun i => ?_⟩
  have := i.isLt
  rw [← noticesNat_testBit x i, BitVec.getLsbD_ofNat]
  simp; intro; omega

/-! ### Items one after the other -/

/-- The bytes of `l` stand in the entry `e` from byte `k` on. -/
def Spells (e : Nat → Byte) (k : Nat) (l : List Byte) : Prop := ∀ j, j < l.length → e (k + j) = l.getD j 0

variable {α : Type} {e : Nat → Byte} {k n : Nat} {l m : List Byte} {b : Byte}

@[simp] theorem spells_nil : Spells e k [] ↔ True := by simp [Spells]

@[simp] theorem spells_append : Spells e k (l ++ m) ↔ Spells e k l ∧ Spells e (k + l.length) m := by
  unfold Spells
  constructor
  · refine fun h => ⟨fun j hj => ?_, fun j hj => ?_⟩
    · rw [h j (by simp; omega), List.getD_append _ _ _ _ hj]
    · rw [Nat.add_assoc, h _ (by simp; omega), List.getD_append_right _ _ _ _ (by omega)]; simp
  · rintro ⟨h1, h2⟩ j hj
    by_cases hl : j < l.length
    · rw [h1 j hl, List.getD_append _ _ _ _ hl]
    · have := h2 (j - l.length) (by simp at hj; omega)
      rw [List.getD_append_right _ _ _ _ (by omega), ← this]; congr 1; omega

@[simp] theorem spells_cons : Spells e k (b :: l) ↔ e k = b ∧ Spells e (k + 1) l := by
  rw [← List.singleton_append, spells_append]
  simp [Spells]

theorem spells_of (h : ∀ k, e k = l.getD k 0) : Spells e 0 l := fun j _ => by rw [Nat.zero_add, h]

/-- After its last item an entry holds 0 (R189). -/
theorem zero_after (h : ∀ k, e k = l.getD k 0) (hl : l.length ≤ n) : ∀ k, n ≤ k → e k = 0 := by
  intro k hk; rw [h]; exact List.getD_eq_default _ _ (by omega)

/-- R189: the fill changes no byte of an entry read with 0 beyond its end. -/
@[simp] theorem getD_padTo : (padTo n l).getD k 0 = l.getD k 0 := by
  unfold padTo
  by_cases h : k < l.length
  · simp [List.getD, List.getElem?_append_left h]
  · simp only [List.getD, List.getElem?_append_right (Nat.le_of_not_lt h), List.getElem?_replicate]
    split <;> simp [List.getElem?_eq_none (Nat.le_of_not_lt h)]

/-! ### Numbers, high byte first (R189, R195) -/

@[simp] theorem length_be16 : (be16 n).length = 2 := rfl
@[simp] theorem length_be32 : (be32 n).length = 4 := rfl
@[simp] theorem length_be32s {x : Int} : (be32s x).length = 4 := rfl
@[simp] theorem length_be64s {x : Int} : (be64s x).length = 8 := rfl
@[simp] theorem length_stampBytes {x : Stamp} : (stampBytes x).length = 4 := rfl

theorem append_bytes (n : Nat) : (BitVec.ofNat 8 (n / 256) ++ BitVec.ofNat 8 n : BitVec 16) = BitVec.ofNat 16 n := by
  apply BitVec.eq_of_toNat_eq
  have : n % 2 ^ 8 < 2 ^ 8 := Nat.mod_lt _ (by decide)
  simp only [BitVec.toNat_append, BitVec.toNat_ofNat]
  rw [← Nat.shiftLeft_add_eq_or_of_lt this, Nat.shiftLeft_eq]; omega

theorem append_words (n : Nat) : (BitVec.ofNat 16 (n / 65536) ++ BitVec.ofNat 16 n : BitVec 32) = BitVec.ofNat 32 n := by
  apply BitVec.eq_of_toNat_eq
  have : n % 2 ^ 16 < 2 ^ 16 := Nat.mod_lt _ (by decide)
  simp only [BitVec.toNat_append, BitVec.toNat_ofNat]
  rw [← Nat.shiftLeft_add_eq_or_of_lt this, Nat.shiftLeft_eq]; omega

theorem append_longs (n : Nat) (h : n < 2 ^ 64) :
    (BitVec.ofNat 32 (n / 4294967296) ++ BitVec.ofNat 32 n : BitVec 64) = BitVec.ofNat 64 n := by
  apply BitVec.eq_of_toNat_eq
  have : n % 2 ^ 32 < 2 ^ 32 := Nat.mod_lt _ (by decide)
  simp only [BitVec.toNat_append, BitVec.toNat_ofNat]
  rw [← Nat.shiftLeft_add_eq_or_of_lt this, Nat.shiftLeft_eq]; omega

/-- The value of two bytes, as a number and as a word. -/
theorem toNat_append_bytes (x y : Byte) : (x ++ y : BitVec 16).toNat = nat16 x y := by
  have : y.toNat < 2 ^ 8 := y.isLt
  simp only [BitVec.toNat_append, nat16]
  rw [← Nat.shiftLeft_add_eq_or_of_lt this, Nat.shiftLeft_eq]

theorem word32_eq : word32 e k = word16 e k ++ word16 e (k + 2) := by
  unfold word32 word16
  rw [BitVec.append_assoc]; simp

theorem spells_be16 (h : Spells e k (be16 n)) : word16 e k = BitVec.ofNat 16 n := by
  simp only [be16, spells_cons, spells_nil, and_true] at h
  rw [word16, h.1, h.2, append_bytes]

theorem spells_be32 (h : Spells e k (be32 n)) : word32 e k = BitVec.ofNat 32 n := by
  simp only [be32, spells_append, length_be16] at h
  rw [word32_eq, spells_be16 h.1, spells_be16 h.2, append_words]

theorem spells_be32s {x : Int} (h : Spells e k (be32s x)) : word32 e k = BitVec.ofInt 32 x := by
  rw [spells_be32 h, BitVec.ofNat_toNat, BitVec.setWidth_eq]

theorem spells_stampBytes {x : Stamp} (h : Spells e k (stampBytes x)) : word32 e k = x := by
  rw [spells_be32 h, BitVec.ofNat_toNat, BitVec.setWidth_eq]

theorem spells_be64s {x : Int} (h : Spells e k (be64s x)) : word64 e k = BitVec.ofInt 64 x := by
  simp only [be64s, spells_append, length_be32] at h
  rw [word64, spells_be32 h.1, spells_be32 h.2, append_longs _ (BitVec.isLt _), BitVec.ofNat_toNat, BitVec.setWidth_eq]

/-! ### Optional items (R189) -/

theorem length_optional {f : α → List Byte} {x : Option α} (h : ∀ y, (f y).length = n) : (optional n f x).length = n + 1 := by
  cases x <;> simp [optional, h]

theorem spells_optional {f : α → List Byte} {x : Option α} (h : Spells e k (optional n f x)) :
    OptionShown e k n x fun y => Spells e (k + 1) (f y) := by
  refine ⟨?_, ?_⟩
  · rintro rfl j hj
    rw [h j (by simp [optional]; omega)]
    cases j with
    | zero => rfl
    | succ j => simp [optional, List.getElem?_replicate]; split <;> rfl
  · rintro y rfl
    simpa [optional] using h

theorem OptionShown.mono {x : Option α} {p q : α → Prop} (h : OptionShown e k n x p) (hpq : ∀ y, p y → q y) :
    OptionShown e k n x q :=
  ⟨h.1, fun y hy => ⟨(h.2 y hy).1, hpq y (h.2 y hy).2⟩⟩

/-! ### The entries of a WRITE (R160, R164, R179) -/

theorem readAll_none {f : List Byte → Option α} {ps : List (List Byte)} :
    readAll f ps = none ↔ ∃ x ∈ ps, f x = none := by
  induction ps with
  | nil => simp [readAll]
  | cons a ps ih =>
    simp only [readAll, List.mem_cons, exists_eq_or_imp]
    cases ha : f a <;> cases hp : readAll f ps <;> simp [← ih, hp]

theorem readAll_some {f : List Byte → Option α} {ps : List (List Byte)} {ys : List α} (h : readAll f ps = some ys) :
    ps.map f = ys.map some := by
  induction ps generalizing ys with
  | nil => simp [readAll] at h; subst h; rfl
  | cons a ps ih =>
    simp only [readAll] at h
    cases ha : f a with
    | none => simp [ha] at h
    | some y =>
      cases hp : readAll f ps with
      | none => simp [ha, hp] at h
      | some zs => simp [ha, hp] at h; subst h; simp [ha, ih hp]

theorem pieces_eq (len : Nat) : ∀ (n : Nat) (l : List Byte),
    pieces len n l = (List.range n).map fun j => (l.drop (len * j)).take len
  | 0, _ => rfl
  | n + 1, l => by
    rw [pieces, pieces_eq len n, List.range_succ_eq_map, List.map_cons, List.map_map]
    congr 1
    exact List.map_congr_left fun j _ => by simp [Function.comp, List.drop_drop, Nat.mul_succ, Nat.add_comm]

/-- The bytes of entry `j` of a WRITE whose entries are `len` bytes long. -/
def entryPiece (data : List Byte) (len j : Nat) : List Byte := (List.range len).map fun x => data.getD (len * j + x) 0

theorem entryPiece_eq {data : List Byte} {len j count : Nat} (h : data.length = count * len) (hj : j < count) :
    (data.drop (len * j)).take len = entryPiece data len j := by
  have hb : len * j + len ≤ data.length := by
    rw [h, Nat.mul_comm count, ← Nat.mul_succ]; exact Nat.mul_le_mul_left _ hj
  refine List.ext_getElem (by simp [entryPiece]; omega) fun i _ h2 => ?_
  simp [entryPiece] at h2
  simp only [entryPiece, List.getD, List.getElem_take, List.getElem_drop, List.getElem_map, List.getElem_range]
  rw [List.getElem?_eq_getElem (by omega)]; rfl

/-- R179: a WRITE is refused exactly where one of its entries is. -/
theorem entries_none {w : WriteRequest} {len : Nat} {f : List Byte → Option α} (h : w.data.length = w.count * len) :
    w.entries len f = none ↔ ∃ j < w.count, f (entryPiece w.data len j) = none := by
  rw [WriteRequest.entries, readAll_none, pieces_eq]
  simp only [List.mem_map, List.mem_range]
  constructor
  · rintro ⟨x, ⟨j, hj, rfl⟩, hx⟩; exact ⟨j, hj, by rwa [← entryPiece_eq h hj]⟩
  · rintro ⟨j, hj, hx⟩; exact ⟨_, ⟨j, hj, rfl⟩, by rwa [entryPiece_eq h hj]⟩

theorem entries_some {w : WriteRequest} {len : Nat} {f : List Byte → Option α} {ys : List α}
    (h : w.data.length = w.count * len) (he : w.entries len f = some ys) :
    ys.length = w.count ∧ ∀ j < w.count, ∀ hy : j < ys.length, f (entryPiece w.data len j) = some ys[j] := by
  have hm := readAll_some he
  rw [pieces_eq, List.map_map] at hm
  refine ⟨by simpa using (congrArg List.length hm).symm, fun j hj hy => ?_⟩
  have := congrArg (fun l : List (Option α) => l[j]?) hm
  simp [hj, hy, entryPiece_eq h hj] at this
  exact this

/-- R164: entries stored from an index upward, and the others as they were. -/
theorem storeFrom_get {n : Nat} (t : Table n α) (first : Nat) (l : List α) (i : Fin n) :
    (storeFrom t first l).get i =
      if h : first ≤ i.val ∧ i.val < first + l.length then l[i.val - first]'(by omega) else t.get i := by
  induction l generalizing t first with
  | nil => rw [storeFrom, dif_neg (by simp)]
  | cons a l ih =>
    have hi := i.isLt
    rw [storeFrom, ih]
    by_cases h1 : first + 1 ≤ i.val ∧ i.val < first + 1 + l.length
    · rw [dif_pos h1, dif_pos ⟨by omega, by simp only [List.length_cons]; omega⟩]
      have : i.val - first = (i.val - (first + 1)) + 1 := by omega
      simp [this]
    · rw [dif_neg h1]
      by_cases h2 : i.val = first
      · rw [dif_pos (show first < n by omega), dif_pos ⟨by omega, by simp only [List.length_cons]; omega⟩]
        have : (⟨first, by omega⟩ : Fin n) = i := Fin.ext h2.symm
        simp [h2, this]
      · rw [dif_neg (c := first ≤ i.val ∧ i.val < first + (a :: l).length) (by simp only [List.length_cons]; omega)]
        split
        · exact Table.get_set_ne _ _ _ _ fun h => h2 (congrArg Fin.val h).symm
        · rfl

/-- R164: a table after a WRITE of which every entry was read: each stands at its index, and the others are as they were. -/
theorem table_written {n : Nat} (t : Table n α) {len : Nat} {f : List Byte → Option α} {w : WriteRequest} {ys : List α}
    (h : w.data.length = w.count * len) (hn : w.first + w.count ≤ n) (he : w.entries len f = some ys) :
    (∀ j : Fin n, j.val < w.first ∨ w.first + w.count ≤ j.val → (storeFrom t w.first ys).get j = t.get j) ∧
    ∀ j (hj : j < w.count), f (entryPiece w.data len j) = some ((storeFrom t w.first ys).get ⟨w.first + j, by omega⟩) := by
  obtain ⟨hl, hy⟩ := entries_some h he
  refine ⟨fun j hj => ?_, fun j hj => ?_⟩
  · rw [storeFrom_get, dif_neg (by omega)]
  · rw [storeFrom_get, dif_pos (by simp; omega), hy j hj (by omega)]
    simp

end Sys2Proof.Machine
end

