-- ==== Sys2Proof/Laws/State.lean ====
section
/-! SUPPORT. What each update of State leaves in each field: one lemma for each update and each field. -/

namespace Sys2Proof.Machine

open Sys2Proof

variable (s : State)

@[simp] theorem setClock_clock (x : ClockInput) : (s.setClock x).clock = x := rfl
@[simp] theorem setClock_links (x : ClockInput) : (s.setClock x).links = s.links := rfl
@[simp] theorem setClock_parsers (x : ClockInput) : (s.setClock x).parsers = s.parsers := rfl
@[simp] theorem setClock_guards (x : ClockInput) : (s.setClock x).guards = s.guards := rfl
@[simp] theorem setClock_health (x : ClockInput) : (s.setClock x).health = s.health := rfl
@[simp] theorem setClock_instantHealth (x : ClockInput) : (s.setClock x).instantHealth = s.instantHealth := rfl
@[simp] theorem setClock_lines (x : ClockInput) : (s.setClock x).lines = s.lines := rfl
@[simp] theorem setClock_alignment (x : ClockInput) : (s.setClock x).alignment = s.alignment := rfl
@[simp] theorem setClock_arbiter (x : ClockInput) : (s.setClock x).arbiter = s.arbiter := rfl
@[simp] theorem setClock_mixer (x : ClockInput) : (s.setClock x).mixer = s.mixer := rfl
@[simp] theorem setClock_showClock (x : ClockInput) : (s.setClock x).showClock = s.showClock := rfl
@[simp] theorem setClock_tcOutput (x : ClockInput) : (s.setClock x).tcOutput = s.tcOutput := rfl
@[simp] theorem setClock_matchers (x : ClockInput) : (s.setClock x).matchers = s.matchers := rfl
@[simp] theorem setClock_bank (x : ClockInput) : (s.setClock x).bank = s.bank := rfl
@[simp] theorem setClock_ports (x : ClockInput) : (s.setClock x).ports = s.ports := rfl
@[simp] theorem setClock_lamps (x : ClockInput) : (s.setClock x).lamps = s.lamps := rfl
@[simp] theorem setClock_device (x : ClockInput) : (s.setClock x).device = s.device := rfl
@[simp] theorem setClock_tickDue (x : ClockInput) : (s.setClock x).tickDue = s.tickDue := rfl
@[simp] theorem setClock_pending (x : ClockInput) : (s.setClock x).pending = s.pending := rfl
@[simp] theorem setClock_self : s.setClock s.clock = s := rfl
@[simp] theorem setClock_setClock (x y : ClockInput) : (s.setClock x).setClock y = s.setClock y := rfl

@[simp] theorem setLinks_clock (x : PerRig LinkRx) : (s.setLinks x).clock = s.clock := rfl
@[simp] theorem setLinks_links (x : PerRig LinkRx) : (s.setLinks x).links = x := rfl
@[simp] theorem setLinks_parsers (x : PerRig LinkRx) : (s.setLinks x).parsers = s.parsers := rfl
@[simp] theorem setLinks_guards (x : PerRig LinkRx) : (s.setLinks x).guards = s.guards := rfl
@[simp] theorem setLinks_health (x : PerRig LinkRx) : (s.setLinks x).health = s.health := rfl
@[simp] theorem setLinks_instantHealth (x : PerRig LinkRx) : (s.setLinks x).instantHealth = s.instantHealth := rfl
@[simp] theorem setLinks_lines (x : PerRig LinkRx) : (s.setLinks x).lines = s.lines := rfl
@[simp] theorem setLinks_alignment (x : PerRig LinkRx) : (s.setLinks x).alignment = s.alignment := rfl
@[simp] theorem setLinks_arbiter (x : PerRig LinkRx) : (s.setLinks x).arbiter = s.arbiter := rfl
@[simp] theorem setLinks_mixer (x : PerRig LinkRx) : (s.setLinks x).mixer = s.mixer := rfl
@[simp] theorem setLinks_showClock (x : PerRig LinkRx) : (s.setLinks x).showClock = s.showClock := rfl
@[simp] theorem setLinks_tcOutput (x : PerRig LinkRx) : (s.setLinks x).tcOutput = s.tcOutput := rfl
@[simp] theorem setLinks_matchers (x : PerRig LinkRx) : (s.setLinks x).matchers = s.matchers := rfl
@[simp] theorem setLinks_bank (x : PerRig LinkRx) : (s.setLinks x).bank = s.bank := rfl
@[simp] theorem setLinks_ports (x : PerRig LinkRx) : (s.setLinks x).ports = s.ports := rfl
@[simp] theorem setLinks_lamps (x : PerRig LinkRx) : (s.setLinks x).lamps = s.lamps := rfl
@[simp] theorem setLinks_device (x : PerRig LinkRx) : (s.setLinks x).device = s.device := rfl
@[simp] theorem setLinks_tickDue (x : PerRig LinkRx) : (s.setLinks x).tickDue = s.tickDue := rfl
@[simp] theorem setLinks_pending (x : PerRig LinkRx) : (s.setLinks x).pending = s.pending := rfl
@[simp] theorem setLinks_self : s.setLinks s.links = s := rfl
@[simp] theorem setLinks_setLinks (x y : PerRig LinkRx) : (s.setLinks x).setLinks y = s.setLinks y := rfl

@[simp] theorem setParsers_clock (x : PerRig Parser) : (s.setParsers x).clock = s.clock := rfl
@[simp] theorem setParsers_links (x : PerRig Parser) : (s.setParsers x).links = s.links := rfl
@[simp] theorem setParsers_parsers (x : PerRig Parser) : (s.setParsers x).parsers = x := rfl
@[simp] theorem setParsers_guards (x : PerRig Parser) : (s.setParsers x).guards = s.guards := rfl
@[simp] theorem setParsers_health (x : PerRig Parser) : (s.setParsers x).health = s.health := rfl
@[simp] theorem setParsers_instantHealth (x : PerRig Parser) : (s.setParsers x).instantHealth = s.instantHealth := rfl
@[simp] theorem setParsers_lines (x : PerRig Parser) : (s.setParsers x).lines = s.lines := rfl
@[simp] theorem setParsers_alignment (x : PerRig Parser) : (s.setParsers x).alignment = s.alignment := rfl
@[simp] theorem setParsers_arbiter (x : PerRig Parser) : (s.setParsers x).arbiter = s.arbiter := rfl
@[simp] theorem setParsers_mixer (x : PerRig Parser) : (s.setParsers x).mixer = s.mixer := rfl
@[simp] theorem setParsers_showClock (x : PerRig Parser) : (s.setParsers x).showClock = s.showClock := rfl
@[simp] theorem setParsers_tcOutput (x : PerRig Parser) : (s.setParsers x).tcOutput = s.tcOutput := rfl
@[simp] theorem setParsers_matchers (x : PerRig Parser) : (s.setParsers x).matchers = s.matchers := rfl
@[simp] theorem setParsers_bank (x : PerRig Parser) : (s.setParsers x).bank = s.bank := rfl
@[simp] theorem setParsers_ports (x : PerRig Parser) : (s.setParsers x).ports = s.ports := rfl
@[simp] theorem setParsers_lamps (x : PerRig Parser) : (s.setParsers x).lamps = s.lamps := rfl
@[simp] theorem setParsers_device (x : PerRig Parser) : (s.setParsers x).device = s.device := rfl
@[simp] theorem setParsers_tickDue (x : PerRig Parser) : (s.setParsers x).tickDue = s.tickDue := rfl
@[simp] theorem setParsers_pending (x : PerRig Parser) : (s.setParsers x).pending = s.pending := rfl
@[simp] theorem setParsers_self : s.setParsers s.parsers = s := rfl
@[simp] theorem setParsers_setParsers (x y : PerRig Parser) : (s.setParsers x).setParsers y = s.setParsers y := rfl

@[simp] theorem setGuards_clock (x : PerRig Guard) : (s.setGuards x).clock = s.clock := rfl
@[simp] theorem setGuards_links (x : PerRig Guard) : (s.setGuards x).links = s.links := rfl
@[simp] theorem setGuards_parsers (x : PerRig Guard) : (s.setGuards x).parsers = s.parsers := rfl
@[simp] theorem setGuards_guards (x : PerRig Guard) : (s.setGuards x).guards = x := rfl
@[simp] theorem setGuards_health (x : PerRig Guard) : (s.setGuards x).health = s.health := rfl
@[simp] theorem setGuards_instantHealth (x : PerRig Guard) : (s.setGuards x).instantHealth = s.instantHealth := rfl
@[simp] theorem setGuards_lines (x : PerRig Guard) : (s.setGuards x).lines = s.lines := rfl
@[simp] theorem setGuards_alignment (x : PerRig Guard) : (s.setGuards x).alignment = s.alignment := rfl
@[simp] theorem setGuards_arbiter (x : PerRig Guard) : (s.setGuards x).arbiter = s.arbiter := rfl
@[simp] theorem setGuards_mixer (x : PerRig Guard) : (s.setGuards x).mixer = s.mixer := rfl
@[simp] theorem setGuards_showClock (x : PerRig Guard) : (s.setGuards x).showClock = s.showClock := rfl
@[simp] theorem setGuards_tcOutput (x : PerRig Guard) : (s.setGuards x).tcOutput = s.tcOutput := rfl
@[simp] theorem setGuards_matchers (x : PerRig Guard) : (s.setGuards x).matchers = s.matchers := rfl
@[simp] theorem setGuards_bank (x : PerRig Guard) : (s.setGuards x).bank = s.bank := rfl
@[simp] theorem setGuards_ports (x : PerRig Guard) : (s.setGuards x).ports = s.ports := rfl
@[simp] theorem setGuards_lamps (x : PerRig Guard) : (s.setGuards x).lamps = s.lamps := rfl
@[simp] theorem setGuards_device (x : PerRig Guard) : (s.setGuards x).device = s.device := rfl
@[simp] theorem setGuards_tickDue (x : PerRig Guard) : (s.setGuards x).tickDue = s.tickDue := rfl
@[simp] theorem setGuards_pending (x : PerRig Guard) : (s.setGuards x).pending = s.pending := rfl
@[simp] theorem setGuards_self : s.setGuards s.guards = s := rfl
@[simp] theorem setGuards_setGuards (x y : PerRig Guard) : (s.setGuards x).setGuards y = s.setGuards y := rfl

@[simp] theorem setHealth_clock (x : PerRig Health) : (s.setHealth x).clock = s.clock := rfl
@[simp] theorem setHealth_links (x : PerRig Health) : (s.setHealth x).links = s.links := rfl
@[simp] theorem setHealth_parsers (x : PerRig Health) : (s.setHealth x).parsers = s.parsers := rfl
@[simp] theorem setHealth_guards (x : PerRig Health) : (s.setHealth x).guards = s.guards := rfl
@[simp] theorem setHealth_health (x : PerRig Health) : (s.setHealth x).health = x := rfl
@[simp] theorem setHealth_instantHealth (x : PerRig Health) : (s.setHealth x).instantHealth = s.instantHealth := rfl
@[simp] theorem setHealth_lines (x : PerRig Health) : (s.setHealth x).lines = s.lines := rfl
@[simp] theorem setHealth_alignment (x : PerRig Health) : (s.setHealth x).alignment = s.alignment := rfl
@[simp] theorem setHealth_arbiter (x : PerRig Health) : (s.setHealth x).arbiter = s.arbiter := rfl
@[simp] theorem setHealth_mixer (x : PerRig Health) : (s.setHealth x).mixer = s.mixer := rfl
@[simp] theorem setHealth_showClock (x : PerRig Health) : (s.setHealth x).showClock = s.showClock := rfl
@[simp] theorem setHealth_tcOutput (x : PerRig Health) : (s.setHealth x).tcOutput = s.tcOutput := rfl
@[simp] theorem setHealth_matchers (x : PerRig Health) : (s.setHealth x).matchers = s.matchers := rfl
@[simp] theorem setHealth_bank (x : PerRig Health) : (s.setHealth x).bank = s.bank := rfl
@[simp] theorem setHealth_ports (x : PerRig Health) : (s.setHealth x).ports = s.ports := rfl
@[simp] theorem setHealth_lamps (x : PerRig Health) : (s.setHealth x).lamps = s.lamps := rfl
@[simp] theorem setHealth_device (x : PerRig Health) : (s.setHealth x).device = s.device := rfl
@[simp] theorem setHealth_tickDue (x : PerRig Health) : (s.setHealth x).tickDue = s.tickDue := rfl
@[simp] theorem setHealth_pending (x : PerRig Health) : (s.setHealth x).pending = s.pending := rfl
@[simp] theorem setHealth_self : s.setHealth s.health = s := rfl
@[simp] theorem setHealth_setHealth (x y : PerRig Health) : (s.setHealth x).setHealth y = s.setHealth y := rfl

@[simp] theorem setInstantHealth_clock (x : HealthInstant) : (s.setInstantHealth x).clock = s.clock := rfl
@[simp] theorem setInstantHealth_links (x : HealthInstant) : (s.setInstantHealth x).links = s.links := rfl
@[simp] theorem setInstantHealth_parsers (x : HealthInstant) : (s.setInstantHealth x).parsers = s.parsers := rfl
@[simp] theorem setInstantHealth_guards (x : HealthInstant) : (s.setInstantHealth x).guards = s.guards := rfl
@[simp] theorem setInstantHealth_health (x : HealthInstant) : (s.setInstantHealth x).health = s.health := rfl
@[simp] theorem setInstantHealth_instantHealth (x : HealthInstant) : (s.setInstantHealth x).instantHealth = x := rfl
@[simp] theorem setInstantHealth_lines (x : HealthInstant) : (s.setInstantHealth x).lines = s.lines := rfl
@[simp] theorem setInstantHealth_alignment (x : HealthInstant) : (s.setInstantHealth x).alignment = s.alignment := rfl
@[simp] theorem setInstantHealth_arbiter (x : HealthInstant) : (s.setInstantHealth x).arbiter = s.arbiter := rfl
@[simp] theorem setInstantHealth_mixer (x : HealthInstant) : (s.setInstantHealth x).mixer = s.mixer := rfl
@[simp] theorem setInstantHealth_showClock (x : HealthInstant) : (s.setInstantHealth x).showClock = s.showClock := rfl
@[simp] theorem setInstantHealth_tcOutput (x : HealthInstant) : (s.setInstantHealth x).tcOutput = s.tcOutput := rfl
@[simp] theorem setInstantHealth_matchers (x : HealthInstant) : (s.setInstantHealth x).matchers = s.matchers := rfl
@[simp] theorem setInstantHealth_bank (x : HealthInstant) : (s.setInstantHealth x).bank = s.bank := rfl
@[simp] theorem setInstantHealth_ports (x : HealthInstant) : (s.setInstantHealth x).ports = s.ports := rfl
@[simp] theorem setInstantHealth_lamps (x : HealthInstant) : (s.setInstantHealth x).lamps = s.lamps := rfl
@[simp] theorem setInstantHealth_device (x : HealthInstant) : (s.setInstantHealth x).device = s.device := rfl
@[simp] theorem setInstantHealth_tickDue (x : HealthInstant) : (s.setInstantHealth x).tickDue = s.tickDue := rfl
@[simp] theorem setInstantHealth_pending (x : HealthInstant) : (s.setInstantHealth x).pending = s.pending := rfl
@[simp] theorem setInstantHealth_self : s.setInstantHealth s.instantHealth = s := rfl
@[simp] theorem setInstantHealth_setInstantHealth (x y : HealthInstant) : (s.setInstantHealth x).setInstantHealth y = s.setInstantHealth y := rfl

@[simp] theorem setLines_clock (x : PerRig TrimLine) : (s.setLines x).clock = s.clock := rfl
@[simp] theorem setLines_links (x : PerRig TrimLine) : (s.setLines x).links = s.links := rfl
@[simp] theorem setLines_parsers (x : PerRig TrimLine) : (s.setLines x).parsers = s.parsers := rfl
@[simp] theorem setLines_guards (x : PerRig TrimLine) : (s.setLines x).guards = s.guards := rfl
@[simp] theorem setLines_health (x : PerRig TrimLine) : (s.setLines x).health = s.health := rfl
@[simp] theorem setLines_instantHealth (x : PerRig TrimLine) : (s.setLines x).instantHealth = s.instantHealth := rfl
@[simp] theorem setLines_lines (x : PerRig TrimLine) : (s.setLines x).lines = x := rfl
@[simp] theorem setLines_alignment (x : PerRig TrimLine) : (s.setLines x).alignment = s.alignment := rfl
@[simp] theorem setLines_arbiter (x : PerRig TrimLine) : (s.setLines x).arbiter = s.arbiter := rfl
@[simp] theorem setLines_mixer (x : PerRig TrimLine) : (s.setLines x).mixer = s.mixer := rfl
@[simp] theorem setLines_showClock (x : PerRig TrimLine) : (s.setLines x).showClock = s.showClock := rfl
@[simp] theorem setLines_tcOutput (x : PerRig TrimLine) : (s.setLines x).tcOutput = s.tcOutput := rfl
@[simp] theorem setLines_matchers (x : PerRig TrimLine) : (s.setLines x).matchers = s.matchers := rfl
@[simp] theorem setLines_bank (x : PerRig TrimLine) : (s.setLines x).bank = s.bank := rfl
@[simp] theorem setLines_ports (x : PerRig TrimLine) : (s.setLines x).ports = s.ports := rfl
@[simp] theorem setLines_lamps (x : PerRig TrimLine) : (s.setLines x).lamps = s.lamps := rfl
@[simp] theorem setLines_device (x : PerRig TrimLine) : (s.setLines x).device = s.device := rfl
@[simp] theorem setLines_tickDue (x : PerRig TrimLine) : (s.setLines x).tickDue = s.tickDue := rfl
@[simp] theorem setLines_pending (x : PerRig TrimLine) : (s.setLines x).pending = s.pending := rfl
@[simp] theorem setLines_self : s.setLines s.lines = s := rfl
@[simp] theorem setLines_setLines (x y : PerRig TrimLine) : (s.setLines x).setLines y = s.setLines y := rfl

@[simp] theorem setAlignment_clock (x : Alignment) : (s.setAlignment x).clock = s.clock := rfl
@[simp] theorem setAlignment_links (x : Alignment) : (s.setAlignment x).links = s.links := rfl
@[simp] theorem setAlignment_parsers (x : Alignment) : (s.setAlignment x).parsers = s.parsers := rfl
@[simp] theorem setAlignment_guards (x : Alignment) : (s.setAlignment x).guards = s.guards := rfl
@[simp] theorem setAlignment_health (x : Alignment) : (s.setAlignment x).health = s.health := rfl
@[simp] theorem setAlignment_instantHealth (x : Alignment) : (s.setAlignment x).instantHealth = s.instantHealth := rfl
@[simp] theorem setAlignment_lines (x : Alignment) : (s.setAlignment x).lines = s.lines := rfl
@[simp] theorem setAlignment_alignment (x : Alignment) : (s.setAlignment x).alignment = x := rfl
@[simp] theorem setAlignment_arbiter (x : Alignment) : (s.setAlignment x).arbiter = s.arbiter := rfl
@[simp] theorem setAlignment_mixer (x : Alignment) : (s.setAlignment x).mixer = s.mixer := rfl
@[simp] theorem setAlignment_showClock (x : Alignment) : (s.setAlignment x).showClock = s.showClock := rfl
@[simp] theorem setAlignment_tcOutput (x : Alignment) : (s.setAlignment x).tcOutput = s.tcOutput := rfl
@[simp] theorem setAlignment_matchers (x : Alignment) : (s.setAlignment x).matchers = s.matchers := rfl
@[simp] theorem setAlignment_bank (x : Alignment) : (s.setAlignment x).bank = s.bank := rfl
@[simp] theorem setAlignment_ports (x : Alignment) : (s.setAlignment x).ports = s.ports := rfl
@[simp] theorem setAlignment_lamps (x : Alignment) : (s.setAlignment x).lamps = s.lamps := rfl
@[simp] theorem setAlignment_device (x : Alignment) : (s.setAlignment x).device = s.device := rfl
@[simp] theorem setAlignment_tickDue (x : Alignment) : (s.setAlignment x).tickDue = s.tickDue := rfl
@[simp] theorem setAlignment_pending (x : Alignment) : (s.setAlignment x).pending = s.pending := rfl
@[simp] theorem setAlignment_self : s.setAlignment s.alignment = s := rfl
@[simp] theorem setAlignment_setAlignment (x y : Alignment) : (s.setAlignment x).setAlignment y = s.setAlignment y := rfl

@[simp] theorem setArbiter_clock (x : Arbiter) : (s.setArbiter x).clock = s.clock := rfl
@[simp] theorem setArbiter_links (x : Arbiter) : (s.setArbiter x).links = s.links := rfl
@[simp] theorem setArbiter_parsers (x : Arbiter) : (s.setArbiter x).parsers = s.parsers := rfl
@[simp] theorem setArbiter_guards (x : Arbiter) : (s.setArbiter x).guards = s.guards := rfl
@[simp] theorem setArbiter_health (x : Arbiter) : (s.setArbiter x).health = s.health := rfl
@[simp] theorem setArbiter_instantHealth (x : Arbiter) : (s.setArbiter x).instantHealth = s.instantHealth := rfl
@[simp] theorem setArbiter_lines (x : Arbiter) : (s.setArbiter x).lines = s.lines := rfl
@[simp] theorem setArbiter_alignment (x : Arbiter) : (s.setArbiter x).alignment = s.alignment := rfl
@[simp] theorem setArbiter_arbiter (x : Arbiter) : (s.setArbiter x).arbiter = x := rfl
@[simp] theorem setArbiter_mixer (x : Arbiter) : (s.setArbiter x).mixer = s.mixer := rfl
@[simp] theorem setArbiter_showClock (x : Arbiter) : (s.setArbiter x).showClock = s.showClock := rfl
@[simp] theorem setArbiter_tcOutput (x : Arbiter) : (s.setArbiter x).tcOutput = s.tcOutput := rfl
@[simp] theorem setArbiter_matchers (x : Arbiter) : (s.setArbiter x).matchers = s.matchers := rfl
@[simp] theorem setArbiter_bank (x : Arbiter) : (s.setArbiter x).bank = s.bank := rfl
@[simp] theorem setArbiter_ports (x : Arbiter) : (s.setArbiter x).ports = s.ports := rfl
@[simp] theorem setArbiter_lamps (x : Arbiter) : (s.setArbiter x).lamps = s.lamps := rfl
@[simp] theorem setArbiter_device (x : Arbiter) : (s.setArbiter x).device = s.device := rfl
@[simp] theorem setArbiter_tickDue (x : Arbiter) : (s.setArbiter x).tickDue = s.tickDue := rfl
@[simp] theorem setArbiter_pending (x : Arbiter) : (s.setArbiter x).pending = s.pending := rfl
@[simp] theorem setArbiter_self : s.setArbiter s.arbiter = s := rfl
@[simp] theorem setArbiter_setArbiter (x y : Arbiter) : (s.setArbiter x).setArbiter y = s.setArbiter y := rfl

@[simp] theorem setMixer_clock (x : Mixer) : (s.setMixer x).clock = s.clock := rfl
@[simp] theorem setMixer_links (x : Mixer) : (s.setMixer x).links = s.links := rfl
@[simp] theorem setMixer_parsers (x : Mixer) : (s.setMixer x).parsers = s.parsers := rfl
@[simp] theorem setMixer_guards (x : Mixer) : (s.setMixer x).guards = s.guards := rfl
@[simp] theorem setMixer_health (x : Mixer) : (s.setMixer x).health = s.health := rfl
@[simp] theorem setMixer_instantHealth (x : Mixer) : (s.setMixer x).instantHealth = s.instantHealth := rfl
@[simp] theorem setMixer_lines (x : Mixer) : (s.setMixer x).lines = s.lines := rfl
@[simp] theorem setMixer_alignment (x : Mixer) : (s.setMixer x).alignment = s.alignment := rfl
@[simp] theorem setMixer_arbiter (x : Mixer) : (s.setMixer x).arbiter = s.arbiter := rfl
@[simp] theorem setMixer_mixer (x : Mixer) : (s.setMixer x).mixer = x := rfl
@[simp] theorem setMixer_showClock (x : Mixer) : (s.setMixer x).showClock = s.showClock := rfl
@[simp] theorem setMixer_tcOutput (x : Mixer) : (s.setMixer x).tcOutput = s.tcOutput := rfl
@[simp] theorem setMixer_matchers (x : Mixer) : (s.setMixer x).matchers = s.matchers := rfl
@[simp] theorem setMixer_bank (x : Mixer) : (s.setMixer x).bank = s.bank := rfl
@[simp] theorem setMixer_ports (x : Mixer) : (s.setMixer x).ports = s.ports := rfl
@[simp] theorem setMixer_lamps (x : Mixer) : (s.setMixer x).lamps = s.lamps := rfl
@[simp] theorem setMixer_device (x : Mixer) : (s.setMixer x).device = s.device := rfl
@[simp] theorem setMixer_tickDue (x : Mixer) : (s.setMixer x).tickDue = s.tickDue := rfl
@[simp] theorem setMixer_pending (x : Mixer) : (s.setMixer x).pending = s.pending := rfl
@[simp] theorem setMixer_self : s.setMixer s.mixer = s := rfl
@[simp] theorem setMixer_setMixer (x y : Mixer) : (s.setMixer x).setMixer y = s.setMixer y := rfl

@[simp] theorem setShowClock_clock (x : ShowClock) : (s.setShowClock x).clock = s.clock := rfl
@[simp] theorem setShowClock_links (x : ShowClock) : (s.setShowClock x).links = s.links := rfl
@[simp] theorem setShowClock_parsers (x : ShowClock) : (s.setShowClock x).parsers = s.parsers := rfl
@[simp] theorem setShowClock_guards (x : ShowClock) : (s.setShowClock x).guards = s.guards := rfl
@[simp] theorem setShowClock_health (x : ShowClock) : (s.setShowClock x).health = s.health := rfl
@[simp] theorem setShowClock_instantHealth (x : ShowClock) : (s.setShowClock x).instantHealth = s.instantHealth := rfl
@[simp] theorem setShowClock_lines (x : ShowClock) : (s.setShowClock x).lines = s.lines := rfl
@[simp] theorem setShowClock_alignment (x : ShowClock) : (s.setShowClock x).alignment = s.alignment := rfl
@[simp] theorem setShowClock_arbiter (x : ShowClock) : (s.setShowClock x).arbiter = s.arbiter := rfl
@[simp] theorem setShowClock_mixer (x : ShowClock) : (s.setShowClock x).mixer = s.mixer := rfl
@[simp] theorem setShowClock_showClock (x : ShowClock) : (s.setShowClock x).showClock = x := rfl
@[simp] theorem setShowClock_tcOutput (x : ShowClock) : (s.setShowClock x).tcOutput = s.tcOutput := rfl
@[simp] theorem setShowClock_matchers (x : ShowClock) : (s.setShowClock x).matchers = s.matchers := rfl
@[simp] theorem setShowClock_bank (x : ShowClock) : (s.setShowClock x).bank = s.bank := rfl
@[simp] theorem setShowClock_ports (x : ShowClock) : (s.setShowClock x).ports = s.ports := rfl
@[simp] theorem setShowClock_lamps (x : ShowClock) : (s.setShowClock x).lamps = s.lamps := rfl
@[simp] theorem setShowClock_device (x : ShowClock) : (s.setShowClock x).device = s.device := rfl
@[simp] theorem setShowClock_tickDue (x : ShowClock) : (s.setShowClock x).tickDue = s.tickDue := rfl
@[simp] theorem setShowClock_pending (x : ShowClock) : (s.setShowClock x).pending = s.pending := rfl
@[simp] theorem setShowClock_self : s.setShowClock s.showClock = s := rfl
@[simp] theorem setShowClock_setShowClock (x y : ShowClock) : (s.setShowClock x).setShowClock y = s.setShowClock y := rfl

@[simp] theorem setTcOutput_clock (x : TcOutput) : (s.setTcOutput x).clock = s.clock := rfl
@[simp] theorem setTcOutput_links (x : TcOutput) : (s.setTcOutput x).links = s.links := rfl
@[simp] theorem setTcOutput_parsers (x : TcOutput) : (s.setTcOutput x).parsers = s.parsers := rfl
@[simp] theorem setTcOutput_guards (x : TcOutput) : (s.setTcOutput x).guards = s.guards := rfl
@[simp] theorem setTcOutput_health (x : TcOutput) : (s.setTcOutput x).health = s.health := rfl
@[simp] theorem setTcOutput_instantHealth (x : TcOutput) : (s.setTcOutput x).instantHealth = s.instantHealth := rfl
@[simp] theorem setTcOutput_lines (x : TcOutput) : (s.setTcOutput x).lines = s.lines := rfl
@[simp] theorem setTcOutput_alignment (x : TcOutput) : (s.setTcOutput x).alignment = s.alignment := rfl
@[simp] theorem setTcOutput_arbiter (x : TcOutput) : (s.setTcOutput x).arbiter = s.arbiter := rfl
@[simp] theorem setTcOutput_mixer (x : TcOutput) : (s.setTcOutput x).mixer = s.mixer := rfl
@[simp] theorem setTcOutput_showClock (x : TcOutput) : (s.setTcOutput x).showClock = s.showClock := rfl
@[simp] theorem setTcOutput_tcOutput (x : TcOutput) : (s.setTcOutput x).tcOutput = x := rfl
@[simp] theorem setTcOutput_matchers (x : TcOutput) : (s.setTcOutput x).matchers = s.matchers := rfl
@[simp] theorem setTcOutput_bank (x : TcOutput) : (s.setTcOutput x).bank = s.bank := rfl
@[simp] theorem setTcOutput_ports (x : TcOutput) : (s.setTcOutput x).ports = s.ports := rfl
@[simp] theorem setTcOutput_lamps (x : TcOutput) : (s.setTcOutput x).lamps = s.lamps := rfl
@[simp] theorem setTcOutput_device (x : TcOutput) : (s.setTcOutput x).device = s.device := rfl
@[simp] theorem setTcOutput_tickDue (x : TcOutput) : (s.setTcOutput x).tickDue = s.tickDue := rfl
@[simp] theorem setTcOutput_pending (x : TcOutput) : (s.setTcOutput x).pending = s.pending := rfl
@[simp] theorem setTcOutput_self : s.setTcOutput s.tcOutput = s := rfl
@[simp] theorem setTcOutput_setTcOutput (x y : TcOutput) : (s.setTcOutput x).setTcOutput y = s.setTcOutput y := rfl

@[simp] theorem setMatchers_clock (x : Table 8 MatcherState) : (s.setMatchers x).clock = s.clock := rfl
@[simp] theorem setMatchers_links (x : Table 8 MatcherState) : (s.setMatchers x).links = s.links := rfl
@[simp] theorem setMatchers_parsers (x : Table 8 MatcherState) : (s.setMatchers x).parsers = s.parsers := rfl
@[simp] theorem setMatchers_guards (x : Table 8 MatcherState) : (s.setMatchers x).guards = s.guards := rfl
@[simp] theorem setMatchers_health (x : Table 8 MatcherState) : (s.setMatchers x).health = s.health := rfl
@[simp] theorem setMatchers_instantHealth (x : Table 8 MatcherState) : (s.setMatchers x).instantHealth = s.instantHealth := rfl
@[simp] theorem setMatchers_lines (x : Table 8 MatcherState) : (s.setMatchers x).lines = s.lines := rfl
@[simp] theorem setMatchers_alignment (x : Table 8 MatcherState) : (s.setMatchers x).alignment = s.alignment := rfl
@[simp] theorem setMatchers_arbiter (x : Table 8 MatcherState) : (s.setMatchers x).arbiter = s.arbiter := rfl
@[simp] theorem setMatchers_mixer (x : Table 8 MatcherState) : (s.setMatchers x).mixer = s.mixer := rfl
@[simp] theorem setMatchers_showClock (x : Table 8 MatcherState) : (s.setMatchers x).showClock = s.showClock := rfl
@[simp] theorem setMatchers_tcOutput (x : Table 8 MatcherState) : (s.setMatchers x).tcOutput = s.tcOutput := rfl
@[simp] theorem setMatchers_matchers (x : Table 8 MatcherState) : (s.setMatchers x).matchers = x := rfl
@[simp] theorem setMatchers_bank (x : Table 8 MatcherState) : (s.setMatchers x).bank = s.bank := rfl
@[simp] theorem setMatchers_ports (x : Table 8 MatcherState) : (s.setMatchers x).ports = s.ports := rfl
@[simp] theorem setMatchers_lamps (x : Table 8 MatcherState) : (s.setMatchers x).lamps = s.lamps := rfl
@[simp] theorem setMatchers_device (x : Table 8 MatcherState) : (s.setMatchers x).device = s.device := rfl
@[simp] theorem setMatchers_tickDue (x : Table 8 MatcherState) : (s.setMatchers x).tickDue = s.tickDue := rfl
@[simp] theorem setMatchers_pending (x : Table 8 MatcherState) : (s.setMatchers x).pending = s.pending := rfl
@[simp] theorem setMatchers_self : s.setMatchers s.matchers = s := rfl
@[simp] theorem setMatchers_setMatchers (x y : Table 8 MatcherState) : (s.setMatchers x).setMatchers y = s.setMatchers y := rfl

@[simp] theorem setBank_clock (x : BankStore) : (s.setBank x).clock = s.clock := rfl
@[simp] theorem setBank_links (x : BankStore) : (s.setBank x).links = s.links := rfl
@[simp] theorem setBank_parsers (x : BankStore) : (s.setBank x).parsers = s.parsers := rfl
@[simp] theorem setBank_guards (x : BankStore) : (s.setBank x).guards = s.guards := rfl
@[simp] theorem setBank_health (x : BankStore) : (s.setBank x).health = s.health := rfl
@[simp] theorem setBank_instantHealth (x : BankStore) : (s.setBank x).instantHealth = s.instantHealth := rfl
@[simp] theorem setBank_lines (x : BankStore) : (s.setBank x).lines = s.lines := rfl
@[simp] theorem setBank_alignment (x : BankStore) : (s.setBank x).alignment = s.alignment := rfl
@[simp] theorem setBank_arbiter (x : BankStore) : (s.setBank x).arbiter = s.arbiter := rfl
@[simp] theorem setBank_mixer (x : BankStore) : (s.setBank x).mixer = s.mixer := rfl
@[simp] theorem setBank_showClock (x : BankStore) : (s.setBank x).showClock = s.showClock := rfl
@[simp] theorem setBank_tcOutput (x : BankStore) : (s.setBank x).tcOutput = s.tcOutput := rfl
@[simp] theorem setBank_matchers (x : BankStore) : (s.setBank x).matchers = s.matchers := rfl
@[simp] theorem setBank_bank (x : BankStore) : (s.setBank x).bank = x := rfl
@[simp] theorem setBank_ports (x : BankStore) : (s.setBank x).ports = s.ports := rfl
@[simp] theorem setBank_lamps (x : BankStore) : (s.setBank x).lamps = s.lamps := rfl
@[simp] theorem setBank_device (x : BankStore) : (s.setBank x).device = s.device := rfl
@[simp] theorem setBank_tickDue (x : BankStore) : (s.setBank x).tickDue = s.tickDue := rfl
@[simp] theorem setBank_pending (x : BankStore) : (s.setBank x).pending = s.pending := rfl
@[simp] theorem setBank_self : s.setBank s.bank = s := rfl
@[simp] theorem setBank_setBank (x y : BankStore) : (s.setBank x).setBank y = s.setBank y := rfl

@[simp] theorem setPorts_clock (x : PerPort ControlPort) : (s.setPorts x).clock = s.clock := rfl
@[simp] theorem setPorts_links (x : PerPort ControlPort) : (s.setPorts x).links = s.links := rfl
@[simp] theorem setPorts_parsers (x : PerPort ControlPort) : (s.setPorts x).parsers = s.parsers := rfl
@[simp] theorem setPorts_guards (x : PerPort ControlPort) : (s.setPorts x).guards = s.guards := rfl
@[simp] theorem setPorts_health (x : PerPort ControlPort) : (s.setPorts x).health = s.health := rfl
@[simp] theorem setPorts_instantHealth (x : PerPort ControlPort) : (s.setPorts x).instantHealth = s.instantHealth := rfl
@[simp] theorem setPorts_lines (x : PerPort ControlPort) : (s.setPorts x).lines = s.lines := rfl
@[simp] theorem setPorts_alignment (x : PerPort ControlPort) : (s.setPorts x).alignment = s.alignment := rfl
@[simp] theorem setPorts_arbiter (x : PerPort ControlPort) : (s.setPorts x).arbiter = s.arbiter := rfl
@[simp] theorem setPorts_mixer (x : PerPort ControlPort) : (s.setPorts x).mixer = s.mixer := rfl
@[simp] theorem setPorts_showClock (x : PerPort ControlPort) : (s.setPorts x).showClock = s.showClock := rfl
@[simp] theorem setPorts_tcOutput (x : PerPort ControlPort) : (s.setPorts x).tcOutput = s.tcOutput := rfl
@[simp] theorem setPorts_matchers (x : PerPort ControlPort) : (s.setPorts x).matchers = s.matchers := rfl
@[simp] theorem setPorts_bank (x : PerPort ControlPort) : (s.setPorts x).bank = s.bank := rfl
@[simp] theorem setPorts_ports (x : PerPort ControlPort) : (s.setPorts x).ports = x := rfl
@[simp] theorem setPorts_lamps (x : PerPort ControlPort) : (s.setPorts x).lamps = s.lamps := rfl
@[simp] theorem setPorts_device (x : PerPort ControlPort) : (s.setPorts x).device = s.device := rfl
@[simp] theorem setPorts_tickDue (x : PerPort ControlPort) : (s.setPorts x).tickDue = s.tickDue := rfl
@[simp] theorem setPorts_pending (x : PerPort ControlPort) : (s.setPorts x).pending = s.pending := rfl
@[simp] theorem setPorts_self : s.setPorts s.ports = s := rfl
@[simp] theorem setPorts_setPorts (x y : PerPort ControlPort) : (s.setPorts x).setPorts y = s.setPorts y := rfl

@[simp] theorem setLamps_clock (x : Lamps) : (s.setLamps x).clock = s.clock := rfl
@[simp] theorem setLamps_links (x : Lamps) : (s.setLamps x).links = s.links := rfl
@[simp] theorem setLamps_parsers (x : Lamps) : (s.setLamps x).parsers = s.parsers := rfl
@[simp] theorem setLamps_guards (x : Lamps) : (s.setLamps x).guards = s.guards := rfl
@[simp] theorem setLamps_health (x : Lamps) : (s.setLamps x).health = s.health := rfl
@[simp] theorem setLamps_instantHealth (x : Lamps) : (s.setLamps x).instantHealth = s.instantHealth := rfl
@[simp] theorem setLamps_lines (x : Lamps) : (s.setLamps x).lines = s.lines := rfl
@[simp] theorem setLamps_alignment (x : Lamps) : (s.setLamps x).alignment = s.alignment := rfl
@[simp] theorem setLamps_arbiter (x : Lamps) : (s.setLamps x).arbiter = s.arbiter := rfl
@[simp] theorem setLamps_mixer (x : Lamps) : (s.setLamps x).mixer = s.mixer := rfl
@[simp] theorem setLamps_showClock (x : Lamps) : (s.setLamps x).showClock = s.showClock := rfl
@[simp] theorem setLamps_tcOutput (x : Lamps) : (s.setLamps x).tcOutput = s.tcOutput := rfl
@[simp] theorem setLamps_matchers (x : Lamps) : (s.setLamps x).matchers = s.matchers := rfl
@[simp] theorem setLamps_bank (x : Lamps) : (s.setLamps x).bank = s.bank := rfl
@[simp] theorem setLamps_ports (x : Lamps) : (s.setLamps x).ports = s.ports := rfl
@[simp] theorem setLamps_lamps (x : Lamps) : (s.setLamps x).lamps = x := rfl
@[simp] theorem setLamps_device (x : Lamps) : (s.setLamps x).device = s.device := rfl
@[simp] theorem setLamps_tickDue (x : Lamps) : (s.setLamps x).tickDue = s.tickDue := rfl
@[simp] theorem setLamps_pending (x : Lamps) : (s.setLamps x).pending = s.pending := rfl
@[simp] theorem setLamps_self : s.setLamps s.lamps = s := rfl
@[simp] theorem setLamps_setLamps (x y : Lamps) : (s.setLamps x).setLamps y = s.setLamps y := rfl

@[simp] theorem setDevice_clock (x : Device) : (s.setDevice x).clock = s.clock := rfl
@[simp] theorem setDevice_links (x : Device) : (s.setDevice x).links = s.links := rfl
@[simp] theorem setDevice_parsers (x : Device) : (s.setDevice x).parsers = s.parsers := rfl
@[simp] theorem setDevice_guards (x : Device) : (s.setDevice x).guards = s.guards := rfl
@[simp] theorem setDevice_health (x : Device) : (s.setDevice x).health = s.health := rfl
@[simp] theorem setDevice_instantHealth (x : Device) : (s.setDevice x).instantHealth = s.instantHealth := rfl
@[simp] theorem setDevice_lines (x : Device) : (s.setDevice x).lines = s.lines := rfl
@[simp] theorem setDevice_alignment (x : Device) : (s.setDevice x).alignment = s.alignment := rfl
@[simp] theorem setDevice_arbiter (x : Device) : (s.setDevice x).arbiter = s.arbiter := rfl
@[simp] theorem setDevice_mixer (x : Device) : (s.setDevice x).mixer = s.mixer := rfl
@[simp] theorem setDevice_showClock (x : Device) : (s.setDevice x).showClock = s.showClock := rfl
@[simp] theorem setDevice_tcOutput (x : Device) : (s.setDevice x).tcOutput = s.tcOutput := rfl
@[simp] theorem setDevice_matchers (x : Device) : (s.setDevice x).matchers = s.matchers := rfl
@[simp] theorem setDevice_bank (x : Device) : (s.setDevice x).bank = s.bank := rfl
@[simp] theorem setDevice_ports (x : Device) : (s.setDevice x).ports = s.ports := rfl
@[simp] theorem setDevice_lamps (x : Device) : (s.setDevice x).lamps = s.lamps := rfl
@[simp] theorem setDevice_device (x : Device) : (s.setDevice x).device = x := rfl
@[simp] theorem setDevice_tickDue (x : Device) : (s.setDevice x).tickDue = s.tickDue := rfl
@[simp] theorem setDevice_pending (x : Device) : (s.setDevice x).pending = s.pending := rfl
@[simp] theorem setDevice_self : s.setDevice s.device = s := rfl
@[simp] theorem setDevice_setDevice (x y : Device) : (s.setDevice x).setDevice y = s.setDevice y := rfl

@[simp] theorem setTickDue_clock (x : Bool) : (s.setTickDue x).clock = s.clock := rfl
@[simp] theorem setTickDue_links (x : Bool) : (s.setTickDue x).links = s.links := rfl
@[simp] theorem setTickDue_parsers (x : Bool) : (s.setTickDue x).parsers = s.parsers := rfl
@[simp] theorem setTickDue_guards (x : Bool) : (s.setTickDue x).guards = s.guards := rfl
@[simp] theorem setTickDue_health (x : Bool) : (s.setTickDue x).health = s.health := rfl
@[simp] theorem setTickDue_instantHealth (x : Bool) : (s.setTickDue x).instantHealth = s.instantHealth := rfl
@[simp] theorem setTickDue_lines (x : Bool) : (s.setTickDue x).lines = s.lines := rfl
@[simp] theorem setTickDue_alignment (x : Bool) : (s.setTickDue x).alignment = s.alignment := rfl
@[simp] theorem setTickDue_arbiter (x : Bool) : (s.setTickDue x).arbiter = s.arbiter := rfl
@[simp] theorem setTickDue_mixer (x : Bool) : (s.setTickDue x).mixer = s.mixer := rfl
@[simp] theorem setTickDue_showClock (x : Bool) : (s.setTickDue x).showClock = s.showClock := rfl
@[simp] theorem setTickDue_tcOutput (x : Bool) : (s.setTickDue x).tcOutput = s.tcOutput := rfl
@[simp] theorem setTickDue_matchers (x : Bool) : (s.setTickDue x).matchers = s.matchers := rfl
@[simp] theorem setTickDue_bank (x : Bool) : (s.setTickDue x).bank = s.bank := rfl
@[simp] theorem setTickDue_ports (x : Bool) : (s.setTickDue x).ports = s.ports := rfl
@[simp] theorem setTickDue_lamps (x : Bool) : (s.setTickDue x).lamps = s.lamps := rfl
@[simp] theorem setTickDue_device (x : Bool) : (s.setTickDue x).device = s.device := rfl
@[simp] theorem setTickDue_tickDue (x : Bool) : (s.setTickDue x).tickDue = x := rfl
@[simp] theorem setTickDue_pending (x : Bool) : (s.setTickDue x).pending = s.pending := rfl
@[simp] theorem setTickDue_self : s.setTickDue s.tickDue = s := rfl
@[simp] theorem setTickDue_setTickDue (x y : Bool) : (s.setTickDue x).setTickDue y = s.setTickDue y := rfl

@[simp] theorem setPending_clock (x : List Instr) : (s.setPending x).clock = s.clock := rfl
@[simp] theorem setPending_links (x : List Instr) : (s.setPending x).links = s.links := rfl
@[simp] theorem setPending_parsers (x : List Instr) : (s.setPending x).parsers = s.parsers := rfl
@[simp] theorem setPending_guards (x : List Instr) : (s.setPending x).guards = s.guards := rfl
@[simp] theorem setPending_health (x : List Instr) : (s.setPending x).health = s.health := rfl
@[simp] theorem setPending_instantHealth (x : List Instr) : (s.setPending x).instantHealth = s.instantHealth := rfl
@[simp] theorem setPending_lines (x : List Instr) : (s.setPending x).lines = s.lines := rfl
@[simp] theorem setPending_alignment (x : List Instr) : (s.setPending x).alignment = s.alignment := rfl
@[simp] theorem setPending_arbiter (x : List Instr) : (s.setPending x).arbiter = s.arbiter := rfl
@[simp] theorem setPending_mixer (x : List Instr) : (s.setPending x).mixer = s.mixer := rfl
@[simp] theorem setPending_showClock (x : List Instr) : (s.setPending x).showClock = s.showClock := rfl
@[simp] theorem setPending_tcOutput (x : List Instr) : (s.setPending x).tcOutput = s.tcOutput := rfl
@[simp] theorem setPending_matchers (x : List Instr) : (s.setPending x).matchers = s.matchers := rfl
@[simp] theorem setPending_bank (x : List Instr) : (s.setPending x).bank = s.bank := rfl
@[simp] theorem setPending_ports (x : List Instr) : (s.setPending x).ports = s.ports := rfl
@[simp] theorem setPending_lamps (x : List Instr) : (s.setPending x).lamps = s.lamps := rfl
@[simp] theorem setPending_device (x : List Instr) : (s.setPending x).device = s.device := rfl
@[simp] theorem setPending_tickDue (x : List Instr) : (s.setPending x).tickDue = s.tickDue := rfl
@[simp] theorem setPending_pending (x : List Instr) : (s.setPending x).pending = x := rfl
@[simp] theorem setPending_self : s.setPending s.pending = s := rfl
@[simp] theorem setPending_setPending (x y : List Instr) : (s.setPending x).setPending y = s.setPending y := rfl

/-- A state is its fields. -/
theorem state_ext {s t : State} (h0 : s.clock = t.clock) (h1 : s.links = t.links) (h2 : s.parsers = t.parsers)
    (h3 : s.guards = t.guards) (h4 : s.health = t.health) (h5 : s.instantHealth = t.instantHealth)
    (h6 : s.lines = t.lines) (h7 : s.alignment = t.alignment) (h8 : s.arbiter = t.arbiter) (h9 : s.mixer = t.mixer)
    (h10 : s.showClock = t.showClock) (h11 : s.tcOutput = t.tcOutput) (h12 : s.matchers = t.matchers)
    (h13 : s.bank = t.bank) (h14 : s.ports = t.ports) (h15 : s.lamps = t.lamps) (h16 : s.device = t.device)
    (h17 : s.tickDue = t.tickDue) (h18 : s.pending = t.pending) : s = t := by
  cases s; cases t; simp_all

end Sys2Proof.Machine
end

