-- ==== Sys2Proof/Laws/Frames.lean ====
section
/-! SUPPORT. What each shared operation can touch: one lemma for each operation, in a form that chains. -/

namespace Sys2Proof.Machine

open Sys2Proof

variable {bs : List Block} {s t u : State}

theorem Touches.refl : Touches bs s s := by
  intro b _; cases b <;> first | rfl | exact ⟨rfl, rfl⟩

theorem Block.same_trans {b : Block} (h : b.same s t) (k : b.same t u) : b.same s u := by
  cases b <;> first | exact Eq.trans k h | exact ⟨k.1.trans h.1, k.2.trans h.2⟩

theorem Touches.trans (h : Touches bs s t) (k : Touches bs t u) : Touches bs s u :=
  fun b m => Block.same_trans (h b m) (k b m)

theorem Touches.mono {cs : List Block} (h : Touches bs s t) (sub : bs ⊆ cs) : Touches cs s t :=
  fun b m => h b (fun n => m (sub n))

/-- A chain of operations goes on with one that touches no more than the list allows. -/
theorem Touches.andThen {cs : List Block} (h : Touches bs s t) (k : Touches cs t u) (sub : cs ⊆ bs) :
    Touches bs s u := h.trans (k.mono sub)

theorem Touches.setClock {x : ClockInput} (h : Touches bs s t) (m : Block.clock ∈ bs) : Touches bs s (t.setClock x) :=
  h.trans fun b n => by cases b <;> first | rfl | exact ⟨rfl, rfl⟩ | exact absurd m n

theorem Touches.setLinks {x : PerRig LinkRx} (h : Touches bs s t) (m : Block.links ∈ bs) : Touches bs s (t.setLinks x) :=
  h.trans fun b n => by cases b <;> first | rfl | exact ⟨rfl, rfl⟩ | exact absurd m n

theorem Touches.setParsers {x : PerRig Parser} (h : Touches bs s t) (m : Block.parsers ∈ bs) : Touches bs s (t.setParsers x) :=
  h.trans fun b n => by cases b <;> first | rfl | exact ⟨rfl, rfl⟩ | exact absurd m n

theorem Touches.setGuards {x : PerRig Guard} (h : Touches bs s t) (m : Block.guards ∈ bs) : Touches bs s (t.setGuards x) :=
  h.trans fun b n => by cases b <;> first | rfl | exact ⟨rfl, rfl⟩ | exact absurd m n

theorem Touches.setHealth {x : PerRig Health} (h : Touches bs s t) (m : Block.health ∈ bs) : Touches bs s (t.setHealth x) :=
  h.trans fun b n => by cases b <;> first | rfl | exact ⟨rfl, rfl⟩ | exact absurd m n

theorem Touches.setInstantHealth {x : HealthInstant} (h : Touches bs s t) (m : Block.health ∈ bs) : Touches bs s (t.setInstantHealth x) :=
  h.trans fun b n => by cases b <;> first | rfl | exact ⟨rfl, rfl⟩ | exact absurd m n

theorem Touches.setLines {x : PerRig TrimLine} (h : Touches bs s t) (m : Block.lines ∈ bs) : Touches bs s (t.setLines x) :=
  h.trans fun b n => by cases b <;> first | rfl | exact ⟨rfl, rfl⟩ | exact absurd m n

theorem Touches.setAlignment {x : Alignment} (h : Touches bs s t) (m : Block.alignment ∈ bs) : Touches bs s (t.setAlignment x) :=
  h.trans fun b n => by cases b <;> first | rfl | exact ⟨rfl, rfl⟩ | exact absurd m n

theorem Touches.setArbiter {x : Arbiter} (h : Touches bs s t) (m : Block.arbiter ∈ bs) : Touches bs s (t.setArbiter x) :=
  h.trans fun b n => by cases b <;> first | rfl | exact ⟨rfl, rfl⟩ | exact absurd m n

theorem Touches.setMixer {x : Mixer} (h : Touches bs s t) (m : Block.mixer ∈ bs) : Touches bs s (t.setMixer x) :=
  h.trans fun b n => by cases b <;> first | rfl | exact ⟨rfl, rfl⟩ | exact absurd m n

theorem Touches.setShowClock {x : ShowClock} (h : Touches bs s t) (m : Block.showClock ∈ bs) : Touches bs s (t.setShowClock x) :=
  h.trans fun b n => by cases b <;> first | rfl | exact ⟨rfl, rfl⟩ | exact absurd m n

theorem Touches.setTcOutput {x : TcOutput} (h : Touches bs s t) (m : Block.tcOutput ∈ bs) : Touches bs s (t.setTcOutput x) :=
  h.trans fun b n => by cases b <;> first | rfl | exact ⟨rfl, rfl⟩ | exact absurd m n

theorem Touches.setMatchers {x : Table 8 MatcherState} (h : Touches bs s t) (m : Block.matchers ∈ bs) : Touches bs s (t.setMatchers x) :=
  h.trans fun b n => by cases b <;> first | rfl | exact ⟨rfl, rfl⟩ | exact absurd m n

theorem Touches.setBank {x : BankStore} (h : Touches bs s t) (m : Block.bank ∈ bs) : Touches bs s (t.setBank x) :=
  h.trans fun b n => by cases b <;> first | rfl | exact ⟨rfl, rfl⟩ | exact absurd m n

theorem Touches.setPorts {x : PerPort ControlPort} (h : Touches bs s t) (m : Block.ports ∈ bs) : Touches bs s (t.setPorts x) :=
  h.trans fun b n => by cases b <;> first | rfl | exact ⟨rfl, rfl⟩ | exact absurd m n

theorem Touches.setLamps {x : Lamps} (h : Touches bs s t) (m : Block.lamps ∈ bs) : Touches bs s (t.setLamps x) :=
  h.trans fun b n => by cases b <;> first | rfl | exact ⟨rfl, rfl⟩ | exact absurd m n

theorem Touches.setDevice {x : Device} (h : Touches bs s t) (m : Block.device ∈ bs) : Touches bs s (t.setDevice x) :=
  h.trans fun b n => by cases b <;> first | rfl | exact ⟨rfl, rfl⟩ | exact absurd m n

theorem Touches.setTickDue {x : Bool} (h : Touches bs s t) (m : Block.tickDue ∈ bs) : Touches bs s (t.setTickDue x) :=
  h.trans fun b n => by cases b <;> first | rfl | exact ⟨rfl, rfl⟩ | exact absurd m n

theorem Touches.setPending {x : List Instr} (h : Touches bs s t) (m : Block.pending ∈ bs) : Touches bs s (t.setPending x) :=
  h.trans fun b n => by cases b <;> first | rfl | exact ⟨rfl, rfl⟩ | exact absurd m n

theorem Touches.clock (h : Touches bs s t) (m : Block.clock ∉ bs := by decide) : t.clock = s.clock := h .clock m

theorem Touches.links (h : Touches bs s t) (m : Block.links ∉ bs := by decide) : t.links = s.links := h .links m

theorem Touches.parsers (h : Touches bs s t) (m : Block.parsers ∉ bs := by decide) : t.parsers = s.parsers := h .parsers m

theorem Touches.guards (h : Touches bs s t) (m : Block.guards ∉ bs := by decide) : t.guards = s.guards := h .guards m

theorem Touches.health (h : Touches bs s t) (m : Block.health ∉ bs := by decide) : t.health = s.health := (h .health m).1

theorem Touches.instantHealth (h : Touches bs s t) (m : Block.health ∉ bs := by decide) : t.instantHealth = s.instantHealth := (h .health m).2

theorem Touches.lines (h : Touches bs s t) (m : Block.lines ∉ bs := by decide) : t.lines = s.lines := h .lines m

theorem Touches.alignment (h : Touches bs s t) (m : Block.alignment ∉ bs := by decide) : t.alignment = s.alignment := h .alignment m

theorem Touches.arbiter (h : Touches bs s t) (m : Block.arbiter ∉ bs := by decide) : t.arbiter = s.arbiter := h .arbiter m

theorem Touches.mixer (h : Touches bs s t) (m : Block.mixer ∉ bs := by decide) : t.mixer = s.mixer := h .mixer m

theorem Touches.showClock (h : Touches bs s t) (m : Block.showClock ∉ bs := by decide) : t.showClock = s.showClock := h .showClock m

theorem Touches.tcOutput (h : Touches bs s t) (m : Block.tcOutput ∉ bs := by decide) : t.tcOutput = s.tcOutput := h .tcOutput m

theorem Touches.matchers (h : Touches bs s t) (m : Block.matchers ∉ bs := by decide) : t.matchers = s.matchers := h .matchers m

theorem Touches.bank (h : Touches bs s t) (m : Block.bank ∉ bs := by decide) : t.bank = s.bank := h .bank m

theorem Touches.ports (h : Touches bs s t) (m : Block.ports ∉ bs := by decide) : t.ports = s.ports := h .ports m

theorem Touches.lamps (h : Touches bs s t) (m : Block.lamps ∉ bs := by decide) : t.lamps = s.lamps := h .lamps m

theorem Touches.device (h : Touches bs s t) (m : Block.device ∉ bs := by decide) : t.device = s.device := h .device m

theorem Touches.tickDue (h : Touches bs s t) (m : Block.tickDue ∉ bs := by decide) : t.tickDue = s.tickDue := h .tickDue m

theorem Touches.pending (h : Touches bs s t) (m : Block.pending ∉ bs := by decide) : t.pending = s.pending := h .pending m

theorem Touches.raiseOn {q : Port} {n : Notice} (h : Touches bs s t)
    (m : ([.ports] : List Block) ⊆ bs) : Touches bs s (t.raiseOn q n) := by
  refine h.andThen (t := t) (cs := [.ports]) ?_ m
  clear h m
  unfold State.raiseOn
  dsimp only
  repeat' first
    | with_reducible exact Touches.refl
    | with_reducible refine Touches.setPorts ?_ ?_
    | decide

theorem Touches.raiseAll {n : Notice} (h : Touches bs s t)
    (m : ([.ports] : List Block) ⊆ bs) : Touches bs s (t.raiseAll n) := by
  refine h.andThen (t := t) (cs := [.ports]) ?_ m
  clear h m
  unfold State.raiseAll
  repeat' first
    | with_reducible exact Touches.refl
    | with_reducible refine Touches.setPorts ?_ ?_
    | decide

theorem Touches.retargetGroup {i : Fin 8} (h : Touches bs s t)
    (m : ([.mixer] : List Block) ⊆ bs) : Touches bs s (t.retargetGroup i) := by
  refine h.andThen (t := t) (cs := [.mixer]) ?_ m
  clear h m
  unfold State.retargetGroup
  dsimp only
  repeat' first
    | with_reducible exact Touches.refl
    | with_reducible refine Touches.setMixer ?_ ?_
    | decide

theorem Touches.retargetAll (h : Touches bs s t) (m : ([.mixer] : List Block) ⊆ bs) : Touches bs s (t.retargetAll) := by
  refine h.andThen (t := t) (cs := [.mixer]) ?_ m
  clear h m
  unfold State.retargetAll
  repeat' first
    | with_reducible exact Touches.refl
    | with_reducible refine Touches.setMixer ?_ ?_
    | decide

theorem Touches.produce (h : Touches bs s t) (m : ([.mixer] : List Block) ⊆ bs) : Touches bs s (t.produce) := by
  refine h.andThen (t := t) (cs := [.mixer]) ?_ m
  clear h m
  unfold State.produce
  dsimp only
  repeat' first
    | with_reducible exact Touches.refl
    | with_reducible refine Touches.setMixer ?_ ?_
    | decide

theorem Touches.handRecord {x : Timecode} {f : TcFlags} (h : Touches bs s t)
    (m : ([.showClock, .tcOutput] : List Block) ⊆ bs) : Touches bs s (t.handRecord x f) := by
  refine h.andThen (t := t) (cs := [.showClock, .tcOutput]) ?_ m
  clear h m
  unfold State.handRecord
  dsimp only
  repeat' first
    | with_reducible exact Touches.refl
    | with_reducible refine Touches.setShowClock ?_ ?_
    | with_reducible refine Touches.setTcOutput ?_ ?_
    | decide

theorem Touches.clockIdle (h : Touches bs s t) (m : ([.showClock, .tcOutput] : List Block) ⊆ bs) : Touches bs s (t.clockIdle) := by
  refine h.andThen (t := t) (cs := [.showClock, .tcOutput]) ?_ m
  clear h m
  unfold State.clockIdle
  repeat' first
    | with_reducible exact Touches.refl
    | with_reducible refine Touches.setShowClock ?_ ?_
    | with_reducible refine Touches.setTcOutput ?_ ?_
    | decide

theorem Touches.enterHeld {x : Timecode} (h : Touches bs s t)
    (m : ([.showClock, .tcOutput] : List Block) ⊆ bs) : Touches bs s (t.enterHeld x) := by
  refine h.andThen (t := t) (cs := [.showClock, .tcOutput]) ?_ m
  clear h m
  unfold State.enterHeld
  repeat' first
    | with_reducible exact Touches.refl
    | with_reducible refine Touches.setShowClock ?_ ?_
    | with_reducible refine Touches.handRecord ?_ ?_
    | decide

theorem Touches.takeFreewheelLimit (h : Touches bs s t) (m : ([.showClock, .tcOutput] : List Block) ⊆ bs) : Touches bs s (t.takeFreewheelLimit) := by
  refine h.andThen (t := t) (cs := [.showClock, .tcOutput]) ?_ m
  clear h m
  unfold State.takeFreewheelLimit
  repeat' first
    | with_reducible exact Touches.refl
    | with_reducible refine Touches.enterHeld ?_ ?_
    | decide
    | split

theorem Touches.enterFreewheel (h : Touches bs s t) (m : ([.showClock, .tcOutput] : List Block) ⊆ bs) : Touches bs s (t.enterFreewheel) := by
  refine h.andThen (t := t) (cs := [.showClock, .tcOutput]) ?_ m
  clear h m
  unfold State.enterFreewheel
  repeat' first
    | with_reducible exact Touches.refl
    | with_reducible refine Touches.setShowClock ?_ ?_
    | with_reducible refine Touches.takeFreewheelLimit ?_ ?_
    | decide
    | split

theorem Touches.clockLeaveIdle {x : Stamp} {y : Byte} (h : Touches bs s t)
    (m : ([.showClock] : List Block) ⊆ bs) : Touches bs s (t.clockLeaveIdle x y) := by
  refine h.andThen (t := t) (cs := [.showClock]) ?_ m
  clear h m
  unfold State.clockLeaveIdle
  repeat' first
    | with_reducible exact Touches.refl
    | with_reducible refine Touches.setShowClock ?_ ?_
    | decide

theorem Touches.clockSongChange {x : Stamp} {y : Byte} (h : Touches bs s t)
    (m : ([.showClock] : List Block) ⊆ bs) : Touches bs s (t.clockSongChange x y) := by
  refine h.andThen (t := t) (cs := [.showClock]) ?_ m
  clear h m
  unfold State.clockSongChange
  repeat' first
    | with_reducible exact Touches.refl
    | with_reducible refine Touches.setShowClock ?_ ?_
    | decide

theorem Touches.clockResume {x : Stamp} (h : Touches bs s t)
    (m : ([.showClock] : List Block) ⊆ bs) : Touches bs s (t.clockResume x) := by
  refine h.andThen (t := t) (cs := [.showClock]) ?_ m
  clear h m
  unfold State.clockResume
  repeat' first
    | with_reducible exact Touches.refl
    | with_reducible refine Touches.setShowClock ?_ ?_
    | decide

theorem Touches.clockCorrect {x : Stamp} (h : Touches bs s t)
    (m : ([.showClock, .ports] : List Block) ⊆ bs) : Touches bs s (t.clockCorrect x) := by
  refine h.andThen (t := t) (cs := [.showClock, .ports]) ?_ m
  clear h m
  unfold State.clockCorrect
  dsimp only
  repeat' first
    | with_reducible exact Touches.refl
    | with_reducible refine Touches.setShowClock ?_ ?_
    | with_reducible refine Touches.raiseAll ?_ ?_
    | decide
    | split

theorem Touches.clockFollow {r : Rig} {x : RigRecord} (h : Touches bs s t)
    (m : ([.showClock, .tcOutput, .ports] : List Block) ⊆ bs) : Touches bs s (t.clockFollow r x) := by
  refine h.andThen (t := t) (cs := [.showClock, .tcOutput, .ports]) ?_ m
  clear h m
  unfold State.clockFollow
  dsimp only
  repeat' first
    | with_reducible exact Touches.refl
    | with_reducible refine Touches.setShowClock ?_ ?_
    | with_reducible refine Touches.enterHeld ?_ ?_
    | with_reducible refine Touches.clockLeaveIdle ?_ ?_
    | with_reducible refine Touches.clockSongChange ?_ ?_
    | with_reducible refine Touches.clockResume ?_ ?_
    | with_reducible refine Touches.clockCorrect ?_ ?_
    | decide
    | split

theorem Touches.clockReevaluate (h : Touches bs s t) (m : ([.showClock, .tcOutput, .ports] : List Block) ⊆ bs) : Touches bs s (t.clockReevaluate) := by
  refine h.andThen (t := t) (cs := [.showClock, .tcOutput, .ports]) ?_ m
  clear h m
  unfold State.clockReevaluate
  dsimp only
  repeat' first
    | with_reducible exact Touches.refl
    | with_reducible refine Touches.enterFreewheel ?_ ?_
    | with_reducible refine Touches.clockFollow ?_ ?_
    | decide
    | split

theorem Touches.setDelay {r : Rig} {d : Nat} (h : Touches bs s t)
    (m : ([.lines] : List Block) ⊆ bs) : Touches bs s (t.setDelay r d) := by
  refine h.andThen (t := t) (cs := [.lines]) ?_ m
  clear h m
  unfold State.setDelay
  repeat' first
    | with_reducible exact Touches.refl
    | with_reducible refine Touches.setLines ?_ ?_
    | decide

theorem Touches.placeDelay {d : Int} (h : Touches bs s t)
    (m : ([.lines, .alignment] : List Block) ⊆ bs) : Touches bs s (t.placeDelay d) := by
  refine h.andThen (t := t) (cs := [.lines, .alignment]) ?_ m
  clear h m
  unfold State.placeDelay
  dsimp only
  repeat' first
    | with_reducible exact Touches.refl
    | with_reducible refine Touches.setAlignment ?_ ?_
    | with_reducible refine Touches.setDelay ?_ ?_
    | decide
    | split

theorem Touches.settleDelay (h : Touches bs s t) (m : ([.lines, .alignment, .ports] : List Block) ⊆ bs) : Touches bs s (t.settleDelay) := by
  refine h.andThen (t := t) (cs := [.lines, .alignment, .ports]) ?_ m
  clear h m
  unfold State.settleDelay
  dsimp only
  repeat' first
    | with_reducible exact Touches.refl
    | with_reducible refine Touches.setAlignment ?_ ?_
    | with_reducible refine Touches.raiseAll ?_ ?_
    | with_reducible refine Touches.placeDelay ?_ ?_
    | decide
    | split

theorem Touches.reEligible (h : Touches bs s t) (m : ([.arbiter] : List Block) ⊆ bs) : Touches bs s (t.reEligible) := by
  refine h.andThen (t := t) (cs := [.arbiter]) ?_ m
  clear h m
  unfold State.reEligible
  repeat' first
    | with_reducible exact Touches.refl
    | with_reducible refine Touches.setArbiter ?_ ?_
    | decide

theorem Touches.updateSong (h : Touches bs s t) (m : ([.arbiter] : List Block) ⊆ bs) : Touches bs s (t.updateSong) := by
  refine h.andThen (t := t) (cs := [.arbiter]) ?_ m
  clear h m
  unfold State.updateSong
  repeat' first
    | with_reducible exact Touches.refl
    | with_reducible refine Touches.setArbiter ?_ ?_
    | decide
    | split

theorem Touches.openEntry {x y : Rig} {c : Cause} (h : Touches bs s t)
    (m : ([.arbiter] : List Block) ⊆ bs) : Touches bs s (t.openEntry x y c) := by
  refine h.andThen (t := t) (cs := [.arbiter]) ?_ m
  clear h m
  unfold State.openEntry
  dsimp only
  repeat' first
    | with_reducible exact Touches.refl
    | with_reducible refine Touches.setArbiter ?_ ?_
    | decide

theorem Touches.closeEntry {e : Ending} (h : Touches bs s t)
    (m : ([.arbiter] : List Block) ⊆ bs) : Touches bs s (t.closeEntry e) := by
  refine h.andThen (t := t) (cs := [.arbiter]) ?_ m
  clear h m
  unfold State.closeEntry
  repeat' first
    | with_reducible exact Touches.refl
    | with_reducible refine Touches.setArbiter ?_ ?_
    | decide

theorem Touches.handTargets (h : Touches bs s t) (m : ([.mixer] : List Block) ⊆ bs) : Touches bs s (t.handTargets) := by
  refine h.andThen (t := t) (cs := [.mixer]) ?_ m
  clear h m
  unfold State.handTargets
  repeat' first
    | with_reducible exact Touches.refl
    | with_reducible refine Touches.retargetAll ?_ ?_
    | decide
    | split

theorem Touches.handOnAir (h : Touches bs s t) (m : ([.lines, .alignment, .arbiter, .mixer, .showClock, .tcOutput, .ports] : List Block) ⊆ bs) : Touches bs s (t.handOnAir) := by
  refine h.andThen (t := t) (cs := [.lines, .alignment, .arbiter, .mixer, .showClock, .tcOutput, .ports]) ?_ m
  clear h m
  unfold State.handOnAir
  repeat' first
    | with_reducible exact Touches.refl
    | with_reducible refine Touches.clockReevaluate ?_ ?_
    | with_reducible refine Touches.settleDelay ?_ ?_
    | with_reducible refine Touches.reEligible ?_ ?_
    | with_reducible refine Touches.handTargets ?_ ?_
    | decide

theorem Touches.enterChanging {c : Cause} (h : Touches bs s t)
    (m : ([.lines, .alignment, .arbiter, .mixer, .showClock, .tcOutput, .ports] : List Block) ⊆ bs) : Touches bs s (t.enterChanging c) := by
  refine h.andThen (t := t) (cs := [.lines, .alignment, .arbiter, .mixer, .showClock, .tcOutput, .ports]) ?_ m
  clear h m
  unfold State.enterChanging
  dsimp only
  repeat' first
    | with_reducible exact Touches.refl
    | with_reducible refine Touches.setArbiter ?_ ?_
    | with_reducible refine Touches.raiseAll ?_ ?_
    | with_reducible refine Touches.updateSong ?_ ?_
    | with_reducible refine Touches.openEntry ?_ ?_
    | with_reducible refine Touches.handOnAir ?_ ?_
    | decide
    | split

theorem Touches.reverse (h : Touches bs s t) (m : ([.lines, .alignment, .arbiter, .mixer, .showClock, .tcOutput, .ports] : List Block) ⊆ bs) : Touches bs s (t.reverse) := by
  refine h.andThen (t := t) (cs := [.lines, .alignment, .arbiter, .mixer, .showClock, .tcOutput, .ports]) ?_ m
  clear h m
  unfold State.reverse
  dsimp only
  repeat' first
    | with_reducible exact Touches.refl
    | with_reducible refine Touches.setArbiter ?_ ?_
    | with_reducible refine Touches.raiseAll ?_ ?_
    | with_reducible refine Touches.updateSong ?_ ?_
    | with_reducible refine Touches.openEntry ?_ ?_
    | with_reducible refine Touches.closeEntry ?_ ?_
    | with_reducible refine Touches.handOnAir ?_ ?_
    | decide
    | split

theorem Touches.enterBlind (h : Touches bs s t) (m : ([.arbiter, .mixer, .ports] : List Block) ⊆ bs) : Touches bs s (t.enterBlind) := by
  refine h.andThen (t := t) (cs := [.arbiter, .mixer, .ports]) ?_ m
  clear h m
  unfold State.enterBlind
  repeat' first
    | with_reducible exact Touches.refl
    | with_reducible refine Touches.setArbiter ?_ ?_
    | with_reducible refine Touches.raiseAll ?_ ?_
    | with_reducible refine Touches.handTargets ?_ ?_
    | decide

theorem Touches.goesDown {r : Rig} (h : Touches bs s t)
    (m : ([.lines, .alignment, .arbiter, .mixer, .showClock, .tcOutput, .ports] : List Block) ⊆ bs) : Touches bs s (t.goesDown r) := by
  refine h.andThen (t := t) (cs := [.lines, .alignment, .arbiter, .mixer, .showClock, .tcOutput, .ports]) ?_ m
  clear h m
  unfold State.goesDown
  repeat' first
    | with_reducible exact Touches.refl
    | with_reducible refine Touches.enterChanging ?_ ?_
    | with_reducible refine Touches.reverse ?_ ?_
    | with_reducible refine Touches.enterBlind ?_ ?_
    | decide
    | split

theorem Touches.comesUp {r : Rig} (h : Touches bs s t)
    (m : ([.arbiter, .mixer] : List Block) ⊆ bs) : Touches bs s (t.comesUp r) := by
  refine h.andThen (t := t) (cs := [.arbiter, .mixer]) ?_ m
  clear h m
  unfold State.comesUp
  repeat' first
    | with_reducible exact Touches.refl
    | with_reducible refine Touches.setArbiter ?_ ?_
    | with_reducible refine Touches.retargetAll ?_ ?_
    | decide
    | split

theorem Touches.setRigHealth {r : Rig} {x : Health} (h : Touches bs s t)
    (m : ([.health] : List Block) ⊆ bs) : Touches bs s (t.setRigHealth r x) := by
  refine h.andThen (t := t) (cs := [.health]) ?_ m
  clear h m
  unfold State.setRigHealth
  repeat' first
    | with_reducible exact Touches.refl
    | with_reducible refine Touches.setHealth ?_ ?_
    | decide

theorem Touches.setParser {r : Rig} {x : Parser} (h : Touches bs s t)
    (m : ([.parsers] : List Block) ⊆ bs) : Touches bs s (t.setParser r x) := by
  refine h.andThen (t := t) (cs := [.parsers]) ?_ m
  clear h m
  unfold State.setParser
  repeat' first
    | with_reducible exact Touches.refl
    | with_reducible refine Touches.setParsers ?_ ?_
    | decide

theorem Touches.setGuard {r : Rig} {x : Guard} (h : Touches bs s t)
    (m : ([.guards] : List Block) ⊆ bs) : Touches bs s (t.setGuard r x) := by
  refine h.andThen (t := t) (cs := [.guards]) ?_ m
  clear h m
  unfold State.setGuard
  repeat' first
    | with_reducible exact Touches.refl
    | with_reducible refine Touches.setGuards ?_ ?_
    | decide

theorem Touches.setLink {r : Rig} {x : LinkRx} (h : Touches bs s t)
    (m : ([.links] : List Block) ⊆ bs) : Touches bs s (t.setLink r x) := by
  refine h.andThen (t := t) (cs := [.links]) ?_ m
  clear h m
  unfold State.setLink
  repeat' first
    | with_reducible exact Touches.refl
    | with_reducible refine Touches.setLinks ?_ ?_
    | decide

theorem Touches.setHanding {r : Rig} {x : Handing} (h : Touches bs s t)
    (m : ([.health] : List Block) ⊆ bs) : Touches bs s (t.setHanding r x) := by
  refine h.andThen (t := t) (cs := [.health]) ?_ m
  clear h m
  unfold State.setHanding
  repeat' first
    | with_reducible exact Touches.refl
    | with_reducible refine Touches.setInstantHealth ?_ ?_
    | decide

theorem Touches.moveHealthBy {r : Rig} {f g : Health → Health} (h : Touches bs s t)
    (m : ([.health] : List Block) ⊆ bs) : Touches bs s (t.moveHealthBy r f g) := by
  refine h.andThen (t := t) (cs := [.health]) ?_ m
  clear h m
  unfold State.moveHealthBy
  dsimp only
  repeat' first
    | with_reducible exact Touches.refl
    | with_reducible refine Touches.setInstantHealth ?_ ?_
    | with_reducible refine Touches.setRigHealth ?_ ?_
    | decide
    | split

theorem Touches.moveHealth {r : Rig} {f : Health → Health} (h : Touches bs s t)
    (m : ([.health] : List Block) ⊆ bs) : Touches bs s (t.moveHealth r f) := by
  refine h.andThen (t := t) (cs := [.health]) ?_ m
  clear h m
  unfold State.moveHealth
  repeat' first
    | with_reducible exact Touches.refl
    | with_reducible refine Touches.moveHealthBy ?_ ?_
    | decide

theorem Touches.noteEvidence {r : Rig} {k : KindSet} (h : Touches bs s t)
    (m : ([.health] : List Block) ⊆ bs) : Touches bs s (t.noteEvidence r k) := by
  refine h.andThen (t := t) (cs := [.health]) ?_ m
  clear h m
  unfold State.noteEvidence
  repeat' first
    | with_reducible exact Touches.refl
    | with_reducible refine Touches.moveHealth ?_ ?_
    | decide

theorem Touches.reDivergedBy {r : Rig} {x : HealthState} (h : Touches bs s t)
    (m : ([.parsers, .health] : List Block) ⊆ bs) : Touches bs s (t.reDivergedBy r x) := by
  refine h.andThen (t := t) (cs := [.parsers, .health]) ?_ m
  clear h m
  unfold State.reDivergedBy
  dsimp only
  repeat' first
    | with_reducible exact Touches.refl
    | with_reducible refine Touches.setParser ?_ ?_
    | with_reducible refine Touches.noteEvidence ?_ ?_
    | decide
    | split

theorem Touches.reDiverged {r : Rig} (h : Touches bs s t)
    (m : ([.parsers, .health] : List Block) ⊆ bs) : Touches bs s (t.reDiverged r) := by
  refine h.andThen (t := t) (cs := [.parsers, .health]) ?_ m
  clear h m
  unfold State.reDiverged
  repeat' first
    | with_reducible exact Touches.refl
    | with_reducible refine Touches.reDivergedBy ?_ ?_
    | decide

theorem Touches.reDivergedJudged {r : Rig} (h : Touches bs s t)
    (m : ([.parsers, .health] : List Block) ⊆ bs) : Touches bs s (t.reDivergedJudged r) := by
  refine h.andThen (t := t) (cs := [.parsers, .health]) ?_ m
  clear h m
  unfold State.reDivergedJudged
  repeat' first
    | with_reducible exact Touches.refl
    | with_reducible refine Touches.reDivergedBy ?_ ?_
    | decide

theorem Touches.guardSample {r : Rig} {f : Frame} (h : Touches bs s t)
    (m : ([.guards] : List Block) ⊆ bs) : Touches bs s (t.guardSample r f) := by
  refine h.andThen (t := t) (cs := [.guards]) ?_ m
  clear h m
  unfold State.guardSample
  dsimp only
  repeat' first
    | with_reducible exact Touches.refl
    | with_reducible refine Touches.setGuard ?_ ?_
    | decide
    | split

theorem Touches.guardTick {r : Rig} (h : Touches bs s t)
    (m : ([.guards] : List Block) ⊆ bs) : Touches bs s (t.guardTick r) := by
  refine h.andThen (t := t) (cs := [.guards]) ?_ m
  clear h m
  unfold State.guardTick
  dsimp only
  repeat' first
    | with_reducible exact Touches.refl
    | with_reducible refine Touches.setGuard ?_ ?_
    | decide

theorem Touches.setUnguarded {x : Option (PerRig Unguarded)}
    (h : Touches bs s t) (m : ([.health] : List Block) ⊆ bs) :
    Touches bs s (t.setUnguarded x) := by
  refine h.andThen (t := t) (cs := [.health]) ?_ m
  clear h m
  unfold State.setUnguarded
  repeat' first
    | with_reducible exact Touches.refl
    | with_reducible refine Touches.setInstantHealth ?_ ?_
    | decide

theorem Touches.undoGuards (h : Touches bs s t) (m : ([.parsers, .guards, .health] : List Block) ⊆ bs) : Touches bs s (t.undoGuards) := by
  refine h.andThen (t := t) (cs := [.parsers, .guards, .health]) ?_ m
  clear h m
  unfold State.undoGuards
  dsimp only
  repeat' first
    | with_reducible exact Touches.refl
    | with_reducible refine Touches.setParsers ?_ ?_
    | with_reducible refine Touches.setGuards ?_ ?_
    | with_reducible refine Touches.setUnguarded ?_ ?_
    | with_reducible refine Touches.setHealth ?_ ?_
    | with_reducible refine Touches.reDivergedJudged ?_ ?_
    | decide
    | split

theorem Touches.guardRestartBoth (h : Touches bs s t) (m : ([.parsers, .guards, .health] : List Block) ⊆ bs) : Touches bs s (t.guardRestartBoth) := by
  refine h.andThen (t := t) (cs := [.parsers, .guards, .health]) ?_ m
  clear h m
  unfold State.guardRestartBoth
  repeat' first
    | with_reducible exact Touches.refl
    | with_reducible refine Touches.setGuards ?_ ?_
    | with_reducible refine Touches.undoGuards ?_ ?_
    | decide

theorem Touches.recordAbsent {r : Rig} (h : Touches bs s t)
    (m : ([.parsers, .guards, .health] : List Block) ⊆ bs) : Touches bs s (t.recordAbsent r) := by
  refine h.andThen (t := t) (cs := [.parsers, .guards, .health]) ?_ m
  clear h m
  unfold State.recordAbsent
  dsimp only
  repeat' first
    | with_reducible exact Touches.refl
    | with_reducible refine Touches.setParser ?_ ?_
    | with_reducible refine Touches.setGuard ?_ ?_
    | with_reducible refine Touches.reDiverged ?_ ?_
    | decide

theorem Touches.silentAbandon {r : Rig} (h : Touches bs s t)
    (m : ([.parsers] : List Block) ⊆ bs) : Touches bs s (t.silentAbandon r) := by
  refine h.andThen (t := t) (cs := [.parsers]) ?_ m
  clear h m
  unfold State.silentAbandon
  repeat' first
    | with_reducible exact Touches.refl
    | with_reducible refine Touches.setParser ?_ ?_
    | decide

theorem Touches.policyChange {r : Rig} {f : Table 11 FaultEntry} (h : Touches bs s t)
    (m : ([.health] : List Block) ⊆ bs) : Touches bs s (t.policyChange r f) := by
  refine h.andThen (t := t) (cs := [.health]) ?_ m
  clear h m
  unfold State.policyChange
  repeat' first
    | with_reducible exact Touches.refl
    | with_reducible refine Touches.moveHealth ?_ ?_
    | decide

theorem Touches.restoreChange {r : Rig} (h : Touches bs s t)
    (m : ([.health] : List Block) ⊆ bs) : Touches bs s (t.restoreChange r) := by
  refine h.andThen (t := t) (cs := [.health]) ?_ m
  clear h m
  unfold State.restoreChange
  repeat' first
    | with_reducible exact Touches.refl
    | with_reducible refine Touches.moveHealth ?_ ?_
    | decide

theorem Touches.rebase {f : Table 256 SongEntry} (h : Touches bs s t)
    (m : ([.showClock] : List Block) ⊆ bs) : Touches bs s (t.rebase f) := by
  refine h.andThen (t := t) (cs := [.showClock]) ?_ m
  clear h m
  unfold State.rebase
  dsimp only
  repeat' first
    | with_reducible exact Touches.refl
    | with_reducible refine Touches.setShowClock ?_ ?_
    | decide
    | split

theorem Touches.clearMemories (h : Touches bs s t) (m : ([.matchers] : List Block) ⊆ bs) : Touches bs s (t.clearMemories) := by
  refine h.andThen (t := t) (cs := [.matchers]) ?_ m
  clear h m
  unfold State.clearMemories
  repeat' first
    | with_reducible exact Touches.refl
    | with_reducible refine Touches.setMatchers ?_ ?_
    | decide

theorem Touches.foldl {α : Type} {f : State → α → State} {l : List α} (h : Touches bs s t)
    (hf : ∀ u x, Touches bs u (f u x)) : Touches bs s (l.foldl f t) := by
  induction l generalizing t with
  | nil => exact h
  | cons x l ih => exact ih (h.trans (hf t x))

theorem Touches.takeHealthWith {run : State → State} {r : Rig} {x : Handing}
    (h : Touches bs s t) (hr : ∀ u : State, Touches eventBlocks u (run u)) (m : eventBlocks ⊆ bs) :
    Touches bs s (t.takeHealthWith run r x) := by
  refine h.andThen (t := t) (cs := eventBlocks) ?_ m
  clear h m
  unfold State.takeHealthWith
  dsimp only
  repeat' first
    | with_reducible exact Touches.refl
    | refine Touches.trans ?_ (hr _)
    | with_reducible refine Touches.goesDown ?_ ?_
    | with_reducible refine Touches.comesUp ?_ ?_
    | with_reducible refine Touches.reEligible ?_ ?_
    | decide
    | split

theorem Touches.handOneWith {run : State → State} {r : Rig}
    (h : Touches bs s t) (hr : ∀ u : State, Touches eventBlocks u (run u)) (m : eventBlocks ⊆ bs) :
    Touches bs s (t.handOneWith run r) := by
  refine h.andThen (t := t) (cs := eventBlocks) ?_ m
  clear h m
  unfold State.handOneWith
  dsimp only
  repeat' first
    | with_reducible exact Touches.refl
    | with_reducible refine Touches.takeHealthWith ?_ hr ?_
    | with_reducible refine Touches.raiseAll ?_ ?_
    | with_reducible refine Touches.reDiverged ?_ ?_
    | with_reducible refine Touches.setHanding ?_ ?_
    | decide
    | split

theorem Touches.handHealthWith {run : State → State} {r : Rig}
    (h : Touches bs s t) (hr : ∀ u : State, Touches eventBlocks u (run u)) (m : eventBlocks ⊆ bs) :
    Touches bs s (t.handHealthWith run r) := by
  refine h.andThen (t := t) (cs := eventBlocks) ?_ m
  clear h m
  unfold State.handHealthWith
  dsimp only
  repeat' first
    | with_reducible exact Touches.refl
    | with_reducible refine Touches.handOneWith ?_ hr ?_
    | decide
    | split

theorem Touches.handSettledWith {run : State → State} {r : Rig}
    (h : Touches bs s t) (hr : ∀ u : State, Touches eventBlocks u (run u)) (m : eventBlocks ⊆ bs) :
    Touches bs s (t.handSettledWith run r) := by
  refine h.andThen (t := t) (cs := eventBlocks) ?_ m
  clear h m
  unfold State.handSettledWith
  repeat' first
    | with_reducible exact Touches.refl
    | with_reducible refine Touches.handHealthWith ?_ hr ?_
    | decide
    | split

theorem Touches.takeEvidence {r : Rig} {k : KindSet} (h : Touches bs s t)
    (m : ([.health] : List Block) ⊆ bs) : Touches bs s (t.takeEvidence r k) := by
  refine h.andThen (t := t) (cs := [.health]) ?_ m
  clear h m
  unfold State.takeEvidence
  repeat' first
    | with_reducible exact Touches.refl
    | with_reducible refine Touches.noteEvidence ?_ ?_
    | decide
    | split

theorem Touches.applyEvidenceWith {run : State → State} {r : Rig} {k : KindSet}
    (h : Touches bs s t) (hr : ∀ u : State, Touches eventBlocks u (run u)) (m : eventBlocks ⊆ bs) :
    Touches bs s (t.applyEvidenceWith run r k) := by
  refine h.andThen (t := t) (cs := eventBlocks) ?_ m
  clear h m
  unfold State.applyEvidenceWith
  repeat' first
    | with_reducible exact Touches.refl
    | with_reducible refine Touches.handSettledWith ?_ hr ?_
    | with_reducible refine Touches.takeEvidence ?_ ?_
    | decide

theorem Touches.handBothWith {run : State → State}
    (h : Touches bs s t) (hr : ∀ u : State, Touches eventBlocks u (run u)) (m : eventBlocks ⊆ bs) :
    Touches bs s (t.handBothWith run) := by
  refine h.andThen (t := t) (cs := eventBlocks) ?_ m
  clear h m
  unfold State.handBothWith
  repeat' first
    | with_reducible exact Touches.refl
    | refine Touches.trans ?_ (hr _)
    | with_reducible refine Touches.handSettledWith ?_ hr ?_
    | decide

theorem Touches.exchangeTakenWith {run : State → State}
    (h : Touches bs s t) (hr : ∀ u : State, Touches eventBlocks u (run u)) (m : eventBlocks ⊆ bs) :
    Touches bs s (t.exchangeTakenWith run) := by
  refine h.andThen (t := t) (cs := eventBlocks) ?_ m
  clear h m
  unfold State.exchangeTakenWith
  dsimp only
  repeat' first
    | with_reducible exact Touches.refl
    | with_reducible refine Touches.handBothWith ?_ hr ?_
    | with_reducible refine Touches.clearMemories ?_ ?_
    | with_reducible refine Touches.rebase ?_ ?_
    | with_reducible refine Touches.retargetAll ?_ ?_
    | with_reducible refine Touches.guardRestartBoth ?_ ?_
    | with_reducible refine Touches.policyChange ?_ ?_
    | with_reducible refine Touches.restoreChange ?_ ?_
    | with_reducible refine Touches.raiseAll ?_ ?_
    | with_reducible refine Touches.setBank ?_ ?_
    | decide
    | split

theorem Touches.settleDues (h : Touches bs s t) (m : ([.health] : List Block) ⊆ bs) : Touches bs s t.settleDues := by
  refine h.andThen (t := t) (cs := [.health]) ?_ m
  clear h m
  unfold State.settleDues
  dsimp only
  repeat' first
    | with_reducible exact Touches.refl
    | with_reducible refine Touches.moveHealth ?_ ?_
    | decide

theorem Touches.dueExchangeWith {run : State → State}
    (h : Touches bs s t) (hr : ∀ u : State, Touches eventBlocks u (run u)) (m : eventBlocks ⊆ bs) :
    Touches bs s (t.dueExchangeWith run) := by
  refine h.andThen (t := t) (cs := eventBlocks) ?_ m
  clear h m
  unfold State.dueExchangeWith
  repeat' first
    | with_reducible exact Touches.refl
    | with_reducible refine Touches.exchangeTakenWith ?_ hr ?_
    | with_reducible refine Touches.settleDues ?_ ?_
    | decide
    | split

theorem Touches.completeWith {bank : State → State} (h : Touches bs s t) (hb : ∀ u : State, Touches bs u (bank u))
    (m : changeBlocks ⊆ bs) : Touches bs s (t.completeWith bank) := by
  have blind : ∀ u : State, Touches bs s u → Touches bs s (if u.arbiter.state = .blind then u.handTargets else u) := by
    intro u hu
    split
    · exact hu.handTargets (List.Subset.trans (by decide) m)
    · exact hu
  refine blind _ (Touches.trans ?_ (hb _))
  refine h.andThen (t := t) (cs := changeBlocks) ?_ m
  dsimp only
  repeat' first
    | with_reducible exact Touches.refl
    | with_reducible refine Touches.reEligible ?_ ?_
    | with_reducible refine Touches.settleDelay ?_ ?_
    | with_reducible refine Touches.raiseAll ?_ ?_
    | with_reducible refine Touches.setArbiter ?_ ?_
    | with_reducible refine Touches.closeEntry ?_ ?_
    | decide
    | split

theorem Touches.arbRunWith {bank : State → State} {n : Nat} (h : Touches bs s t)
    (hb : ∀ u : State, Touches bs u (bank u)) (m : changeBlocks ⊆ bs) : Touches bs s (arbRunWith bank n t) := by
  induction n generalizing t with
  | zero => exact h
  | succ n ih =>
    unfold Machine.arbRunWith
    split
    · exact ih (h.completeWith hb m)
    · split
      · exact ih (h.enterChanging m)
      · exact h

theorem Touches.settleArbiter (h : Touches bs s t) (m : changeBlocks ⊆ bs) : Touches bs s t.settleArbiter :=
  h.arbRunWith (fun _ => Touches.refl) m

theorem Touches.run (h : Touches bs s t) (m : eventBlocks ⊆ bs) : Touches bs s t.run :=
  h.andThen (Touches.arbRunWith Touches.refl
    (fun _ => Touches.refl.dueExchangeWith (fun _ => Touches.refl.settleArbiter (by decide)) (by decide))
    (by decide)) m

theorem Touches.exchangeTaken (h : Touches bs s t) (m : eventBlocks ⊆ bs) : Touches bs s t.exchangeTaken :=
  h.exchangeTakenWith (fun _ => Touches.refl.run (by decide)) m

theorem Touches.handHealth {r : Rig} (h : Touches bs s t) (m : eventBlocks ⊆ bs) :
    Touches bs s (t.handHealth r) :=
  h.handHealthWith (fun _ => Touches.refl.run (by decide)) m

theorem Touches.applyEvidence {r : Rig} {k : KindSet} (h : Touches bs s t) (m : eventBlocks ⊆ bs) :
    Touches bs s (t.applyEvidence r k) :=
  h.applyEvidenceWith (fun _ => Touches.refl.run (by decide)) m

theorem Touches.handSettled {r : Rig} (h : Touches bs s t) (m : eventBlocks ⊆ bs) :
    Touches bs s (t.handSettled r) :=
  h.handSettledWith (fun _ => Touches.refl.run (by decide)) m

theorem Touches.handBothRun (h : Touches bs s t) (m : eventBlocks ⊆ bs) :
    Touches bs s (t.handBothWith State.run) :=
  h.handBothWith (fun _ => Touches.refl.run (by decide)) m

theorem Touches.handNew 
    (h : Touches bs s t) (m : eventBlocks ⊆ bs) :
    Touches bs s (t.handNew) := by
  refine h.andThen (t := t) (cs := eventBlocks) ?_ m
  clear h m
  unfold State.handNew
  repeat' first
    | with_reducible exact Touches.refl
    | with_reducible refine Touches.handSettled ?_ ?_
    | decide

theorem Touches.exchangeFallsDueWith {take : State → State} (h : Touches bs s t)
    (ht : ∀ u : State, Touches bs u (take u)) (m : Block.bank ∈ bs) : Touches bs s (t.exchangeFallsDueWith take) := by
  refine h.trans ?_
  unfold State.exchangeFallsDueWith
  split
  · exact Touches.refl
  · split
    · exact Touches.refl.setBank m
    · exact ht _

theorem Touches.exchangeFallsDue (h : Touches bs s t) (m : eventBlocks ⊆ bs) : Touches bs s t.exchangeFallsDue :=
  h.andThen (Touches.refl.exchangeFallsDueWith (fun _ => Touches.refl.exchangeTaken (by decide)) (by decide)) m

theorem Touches.exchangeFallsDueInside (h : Touches bs s t) (m : eventBlocks ⊆ bs) :
    Touches bs s t.exchangeFallsDueInside :=
  h.andThen (Touches.refl.exchangeFallsDueWith
    (fun _ => (Touches.refl.settleDues (by decide)).exchangeTaken (by decide)) (by decide)) m

theorem Touches.missingBegins {r : Rig}
    (h : Touches bs s t) (m : eventBlocks ⊆ bs) :
    Touches bs s (t.missingBegins r) := by
  refine h.andThen (t := t) (cs := eventBlocks) ?_ m
  clear h m
  unfold State.missingBegins
  dsimp only
  repeat' first
    | with_reducible exact Touches.refl
    | with_reducible refine Touches.applyEvidence ?_ ?_
    | with_reducible refine Touches.enterFreewheel ?_ ?_
    | with_reducible refine Touches.setParser ?_ ?_
    | decide
    | split

theorem Touches.takePair {r : Rig} {x : Int}
    (h : Touches bs s t) (m : eventBlocks ⊆ bs) :
    Touches bs s (t.takePair r x) := by
  refine h.andThen (t := t) (cs := eventBlocks) ?_ m
  clear h m
  unfold State.takePair
  dsimp only
  repeat' first
    | with_reducible exact Touches.refl
    | with_reducible refine Touches.run ?_ ?_
    | with_reducible refine Touches.reEligible ?_ ?_
    | with_reducible refine Touches.raiseAll ?_ ?_
    | with_reducible refine Touches.setAlignment ?_ ?_
    | decide
    | split

theorem Touches.alignmentReads {x : Acceptance}
    (h : Touches bs s t) (m : eventBlocks ⊆ bs) :
    Touches bs s (t.alignmentReads x) := by
  refine h.andThen (t := t) (cs := eventBlocks) ?_ m
  clear h m
  unfold State.alignmentReads
  repeat' first
    | with_reducible exact Touches.refl
    | with_reducible refine Touches.takePair ?_ ?_
    | decide
    | split

theorem Touches.setInhibit {b : Bool}
    (h : Touches bs s t) (m : eventBlocks ⊆ bs) :
    Touches bs s (t.setInhibit b) := by
  refine h.andThen (t := t) (cs := eventBlocks) ?_ m
  clear h m
  unfold State.setInhibit
  repeat' first
    | with_reducible exact Touches.refl
    | with_reducible refine Touches.run ?_ ?_
    | with_reducible refine Touches.setArbiter ?_ ?_
    | decide

theorem Touches.setOverride {i : Fin 6} {o : Option (Fin 8)}
    (h : Touches bs s t) (m : ([.lamps] : List Block) ⊆ bs) :
    Touches bs s (t.setOverride i o) := by
  refine h.andThen (t := t) (cs := [.lamps]) ?_ m
  clear h m
  unfold State.setOverride
  repeat' first
    | with_reducible exact Touches.refl
    | with_reducible refine Touches.setLamps ?_ ?_
    | decide

theorem Touches.matcherExchange 
    (h : Touches bs s t) (m : eventBlocks ⊆ bs) :
    Touches bs s (t.matcherExchange.1) := by
  refine h.andThen (t := t) (cs := eventBlocks) ?_ m
  clear h m
  unfold State.matcherExchange
  repeat' first
    | with_reducible exact Touches.refl
    | with_reducible refine Touches.exchangeFallsDueInside ?_ ?_
    | with_reducible refine Touches.setBank ?_ ?_
    | decide
    | split

theorem Touches.perform {e : MatcherEntry}
    (h : Touches bs s t) (m : beaconBlocks ⊆ bs) :
    Touches bs s ((t.perform e).1) := by
  refine h.andThen (t := t) (cs := beaconBlocks) ?_ m
  clear h m
  unfold State.perform
  repeat' first
    | with_reducible exact Touches.refl
    | with_reducible refine Touches.matcherExchange ?_ ?_
    | with_reducible refine Touches.setInhibit ?_ ?_
    | with_reducible refine Touches.setOverride ?_ ?_
    | decide
    | split

theorem Touches.fire {x : Stamp} {k : Fin 8} {e : MatcherEntry}
    (h : Touches bs s t) (m : beaconBlocks ⊆ bs) :
    Touches bs s (t.fire x k e) := by
  refine h.andThen (t := t) (cs := beaconBlocks) ?_ m
  clear h m
  unfold State.fire
  dsimp only
  repeat' first
    | with_reducible exact Touches.refl
    | with_reducible refine Touches.setMatchers ?_ ?_
    | with_reducible refine Touches.perform ?_ ?_
    | with_reducible refine Touches.raiseAll ?_ ?_
    | decide

theorem Touches.setComing {x : Coming}
    (h : Touches bs s t) (m : ([.health] : List Block) ⊆ bs) :
    Touches bs s (t.setComing x) := by
  refine h.andThen (t := t) (cs := [.health]) ?_ m
  clear h m
  unfold State.setComing
  repeat' first
    | with_reducible exact Touches.refl
    | with_reducible refine Touches.setInstantHealth ?_ ?_
    | decide

theorem Touches.fireAll {x : Stamp} {e : Table 8 MatcherEntry} {b : Bool} {l : List (Fin 8)} (h : Touches bs s t)
    (m : beaconBlocks ⊆ bs) : Touches bs s (State.fireAll x e b l t) := by
  induction l generalizing t with
  | nil => exact h
  | cons k l ih =>
    unfold State.fireAll
    refine ih (Touches.fire ?_ m)
    split
    · exact h.setComing (List.Subset.trans (by decide) m)
    · exact h

theorem Touches.matchersRead {x : Acceptance}
    (h : Touches bs s t) (m : beaconBlocks ⊆ bs) :
    Touches bs s (t.matchersRead x) := by
  refine h.andThen (t := t) (cs := beaconBlocks) ?_ m
  clear h m
  unfold State.matchersRead
  dsimp only
  repeat' first
    | with_reducible exact Touches.refl
    | with_reducible refine Touches.fireAll ?_ ?_
    | with_reducible refine Touches.setMatchers ?_ ?_
    | decide

theorem Touches.takeAcceptance 
    (h : Touches bs s t) (m : eventBlocks ⊆ bs) :
    Touches bs s (t.takeAcceptance) := by
  refine h.andThen (t := t) (cs := eventBlocks) ?_ m
  clear h m
  unfold State.takeAcceptance
  dsimp only
  repeat' first
    | with_reducible exact Touches.refl
    | with_reducible refine Touches.run ?_ ?_
    | with_reducible refine Touches.reEligible ?_ ?_
    | with_reducible refine Touches.settleDelay ?_ ?_
    | with_reducible refine Touches.raiseAll ?_ ?_
    | with_reducible refine Touches.setAlignment ?_ ?_
    | decide
    | split

theorem Touches.healthReads {x : Acceptance}
    (h : Touches bs s t) (m : eventBlocks ⊆ bs) :
    Touches bs s (t.healthReads x) := by
  refine h.andThen (t := t) (cs := eventBlocks) ?_ m
  clear h m
  unfold State.healthReads
  dsimp only
  repeat' first
    | with_reducible exact Touches.refl
    | with_reducible refine Touches.handSettled ?_ ?_
    | with_reducible refine Touches.applyEvidence ?_ ?_
    | with_reducible refine Touches.moveHealthBy ?_ ?_
    | decide
    | split

theorem Touches.guardReads {x : Acceptance}
    (h : Touches bs s t) (m : eventBlocks ⊆ bs) :
    Touches bs s (t.guardReads x) := by
  refine h.andThen (t := t) (cs := eventBlocks) ?_ m
  clear h m
  unfold State.guardReads
  repeat' first
    | with_reducible exact Touches.refl
    | with_reducible refine Touches.setGuard ?_ ?_
    | decide
    | split

theorem Touches.dropRebase {x : Acceptance}
    (h : Touches bs s t) (m : ([.showClock] : List Block) ⊆ bs) :
    Touches bs s (t.dropRebase x) := by
  refine h.andThen (t := t) (cs := [.showClock]) ?_ m
  clear h m
  unfold State.dropRebase
  dsimp only
  repeat' first
    | with_reducible exact Touches.refl
    | with_reducible refine Touches.setShowClock ?_ ?_
    | decide
    | split

theorem Touches.clockReads {x : Acceptance}
    (h : Touches bs s t) (m : eventBlocks ⊆ bs) :
    Touches bs s (t.clockReads x) := by
  refine h.andThen (t := t) (cs := eventBlocks) ?_ m
  clear h m
  unfold State.clockReads
  repeat' first
    | with_reducible exact Touches.refl
    | with_reducible refine Touches.clockFollow ?_ ?_
    | with_reducible refine Touches.dropRebase ?_ ?_
    | decide
    | split

theorem Touches.arbiterReads {x : Acceptance}
    (h : Touches bs s t) (m : eventBlocks ⊆ bs) :
    Touches bs s (t.arbiterReads x) := by
  refine h.andThen (t := t) (cs := eventBlocks) ?_ m
  clear h m
  unfold State.arbiterReads
  dsimp only
  repeat' first
    | with_reducible exact Touches.refl
    | with_reducible refine Touches.run ?_ ?_
    | with_reducible refine Touches.enterChanging ?_ ?_
    | with_reducible refine Touches.raiseAll ?_ ?_
    | with_reducible refine Touches.setArbiter ?_ ?_
    | decide
    | split

theorem Touches.bankReads {x : Acceptance}
    (h : Touches bs s t) (m : eventBlocks ⊆ bs) :
    Touches bs s (t.bankReads x) := by
  refine h.andThen (t := t) (cs := eventBlocks) ?_ m
  clear h m
  unfold State.bankReads
  repeat' first
    | with_reducible exact Touches.refl
    | with_reducible refine Touches.exchangeFallsDueInside ?_ ?_
    | decide
    | split

theorem Touches.revertGroup {i : Fin 8}
    (h : Touches bs s t) (m : ([.mixer] : List Block) ⊆ bs) :
    Touches bs s (t.revertGroup i) := by
  refine h.andThen (t := t) (cs := [.mixer]) ?_ m
  clear h m
  unfold State.revertGroup
  dsimp only
  repeat' first
    | with_reducible exact Touches.refl
    | with_reducible refine Touches.retargetGroup ?_ ?_
    | with_reducible refine Touches.setMixer ?_ ?_
    | decide
    | split

theorem Touches.groupsRead {x : Acceptance}
    (h : Touches bs s t) (m : eventBlocks ⊆ bs) :
    Touches bs s (t.groupsRead x) := by
  refine h.andThen (t := t) (cs := eventBlocks) ?_ m
  clear h m
  unfold State.groupsRead
  repeat' first
    | with_reducible exact Touches.refl
    | with_reducible refine Touches.run ?_ ?_
    | with_reducible refine Touches.foldl ?_ fun u x => ?_
    | with_reducible refine Touches.revertGroup ?_ ?_
    | decide
    | split

theorem Touches.otherReads {x : Acceptance}
    (h : Touches bs s t) (m : eventBlocks ⊆ bs) :
    Touches bs s (t.otherReads x) := by
  refine h.andThen (t := t) (cs := eventBlocks) ?_ m
  clear h m
  unfold State.otherReads
  repeat' first
    | with_reducible exact Touches.refl
    | with_reducible refine Touches.handSettled ?_ ?_
    | with_reducible refine Touches.reDiverged ?_ ?_
    | decide

theorem Touches.readerTakes {x : Acceptance} {y : BeaconReader}
    (h : Touches bs s t) (m : beaconBlocks ⊆ bs) :
    Touches bs s (State.readerTakes x t y) := by
  refine h.andThen (t := t) (cs := beaconBlocks) ?_ m
  clear h m
  unfold State.readerTakes
  repeat' first
    | with_reducible exact Touches.refl
    | with_reducible refine Touches.healthReads ?_ ?_
    | with_reducible refine Touches.guardReads ?_ ?_
    | with_reducible refine Touches.alignmentReads ?_ ?_
    | with_reducible refine Touches.clockReads ?_ ?_
    | with_reducible refine Touches.matchersRead ?_ ?_
    | with_reducible refine Touches.arbiterReads ?_ ?_
    | with_reducible refine Touches.bankReads ?_ ?_
    | with_reducible refine Touches.groupsRead ?_ ?_
    | with_reducible refine Touches.otherReads ?_ ?_
    | with_reducible refine Touches.takeAcceptance ?_ ?_
    | decide
    | split

theorem Touches.readersTake {x : Acceptance} {l : List BeaconReader} (h : Touches bs s t) (m : beaconBlocks ⊆ bs) :
    Touches bs s (State.readersTake x l t) := by
  induction l generalizing t with
  | nil => exact h
  | cons y l ih => exact ih (Touches.readerTakes (h.setComing (List.Subset.trans (by decide) m)) m)

theorem Touches.rejectBeacon {r : Rig} {k : FaultKind}
    (h : Touches bs s t) (m : eventBlocks ⊆ bs) :
    Touches bs s (t.rejectBeacon r k) := by
  refine h.andThen (t := t) (cs := eventBlocks) ?_ m
  clear h m
  unfold State.rejectBeacon
  dsimp only
  repeat' first
    | with_reducible exact Touches.refl
    | with_reducible refine Touches.applyEvidence ?_ ?_
    | with_reducible refine Touches.setParser ?_ ?_
    | decide

theorem Touches.replaceRecord {r : Rig} {j : Judging}
    (h : Touches bs s t) (m : ([.parsers] : List Block) ⊆ bs) :
    Touches bs s (t.replaceRecord r j) := by
  refine h.andThen (t := t) (cs := [.parsers]) ?_ m
  clear h m
  unfold State.replaceRecord
  dsimp only
  repeat' first
    | with_reducible exact Touches.refl
    | with_reducible refine Touches.setParser ?_ ?_
    | decide

theorem Touches.acceptBeacon {r : Rig} {j : Judging} {l : List BeaconReader}
    (h : Touches bs s t) (m : beaconBlocks ⊆ bs) :
    Touches bs s (t.acceptBeacon r j l) := by
  refine h.andThen (t := t) (cs := beaconBlocks) ?_ m
  clear h m
  unfold State.acceptBeacon
  repeat' first
    | with_reducible exact Touches.refl
    | with_reducible refine Touches.handNew ?_ ?_
    | with_reducible refine Touches.setComing ?_ ?_
    | with_reducible refine Touches.readersTake ?_ ?_
    | with_reducible refine Touches.replaceRecord ?_ ?_
    | decide

theorem Touches.judgeBeacon {r : Rig} {l : List BeaconReader}
    (h : Touches bs s t) (m : beaconBlocks ⊆ bs) :
    Touches bs s (t.judgeBeacon r l) := by
  refine h.andThen (t := t) (cs := beaconBlocks) ?_ m
  clear h m
  unfold State.judgeBeacon
  dsimp only
  repeat' first
    | with_reducible exact Touches.refl
    | with_reducible refine Touches.rejectBeacon ?_ ?_
    | with_reducible refine Touches.acceptBeacon ?_ ?_
    | with_reducible refine Touches.setParser ?_ ?_
    | decide
    | split

theorem Touches.frameArrives {r : Rig} {f : Option Frame}
    (h : Touches bs s t) (m : dueBlocks ⊆ bs) :
    Touches bs s (t.frameArrives r f) := by
  refine h.andThen (t := t) (cs := dueBlocks) ?_ m
  clear h m
  unfold State.frameArrives
  dsimp only
  repeat' first
    | with_reducible exact Touches.refl
    | with_reducible refine Touches.applyEvidence ?_ ?_
    | with_reducible refine Touches.setLink ?_ ?_
    | decide
    | split

theorem Touches.takeMissingFrame {r : Rig}
    (h : Touches bs s t) (m : dueBlocks ⊆ bs) :
    Touches bs s (t.takeMissingFrame r) := by
  refine h.andThen (t := t) (cs := dueBlocks) ?_ m
  clear h m
  unfold State.takeMissingFrame
  dsimp only
  repeat' first
    | with_reducible exact Touches.refl
    | with_reducible refine Touches.frameArrives ?_ ?_
    | with_reducible refine Touches.setLink ?_ ?_
    | decide
    | split

theorem Touches.takeLockGained {r : Rig}
    (h : Touches bs s t) (m : dueBlocks ⊆ bs) :
    Touches bs s (t.takeLockGained r) := by
  refine h.andThen (t := t) (cs := dueBlocks) ?_ m
  clear h m
  unfold State.takeLockGained
  dsimp only
  repeat' first
    | with_reducible exact Touches.refl
    | with_reducible refine Touches.run ?_ ?_
    | with_reducible refine Touches.reEligible ?_ ?_
    | with_reducible refine Touches.setParser ?_ ?_
    | with_reducible refine Touches.setLink ?_ ?_
    | decide
    | split

theorem Touches.takeLockLost {r : Rig}
    (h : Touches bs s t) (m : dueBlocks ⊆ bs) :
    Touches bs s (t.takeLockLost r) := by
  refine h.andThen (t := t) (cs := dueBlocks) ?_ m
  clear h m
  unfold State.takeLockLost
  dsimp only
  repeat' first
    | with_reducible exact Touches.refl
    | with_reducible refine Touches.applyEvidence ?_ ?_
    | with_reducible refine Touches.run ?_ ?_
    | with_reducible refine Touches.reEligible ?_ ?_
    | with_reducible refine Touches.recordAbsent ?_ ?_
    | with_reducible refine Touches.silentAbandon ?_ ?_
    | with_reducible refine Touches.setLink ?_ ?_
    | with_reducible refine Touches.judgeBeacon ?_ ?_
    | decide
    | split

theorem Touches.takeLinkAbsent {r : Rig}
    (h : Touches bs s t) (m : dueBlocks ⊆ bs) :
    Touches bs s (t.takeLinkAbsent r) := by
  refine h.andThen (t := t) (cs := dueBlocks) ?_ m
  clear h m
  unfold State.takeLinkAbsent
  dsimp only
  repeat' first
    | with_reducible exact Touches.refl
    | with_reducible refine Touches.run ?_ ?_
    | with_reducible refine Touches.reEligible ?_ ?_
    | with_reducible refine Touches.handHealth ?_ ?_
    | with_reducible refine Touches.missingBegins ?_ ?_
    | with_reducible refine Touches.setParser ?_ ?_
    | with_reducible refine Touches.recordAbsent ?_ ?_
    | with_reducible refine Touches.silentAbandon ?_ ?_
    | with_reducible refine Touches.moveHealth ?_ ?_
    | with_reducible refine Touches.setLink ?_ ?_
    | with_reducible refine Touches.judgeBeacon ?_ ?_
    | decide
    | split

theorem Touches.closeBad {r : Rig} {x : Table 4 Bool}
    (h : Touches bs s t) (m : dueBlocks ⊆ bs) :
    Touches bs s (t.closeBad r x) := by
  refine h.andThen (t := t) (cs := dueBlocks) ?_ m
  clear h m
  unfold State.closeBad
  dsimp only
  repeat' first
    | with_reducible exact Touches.refl
    | with_reducible refine Touches.frameArrives ?_ ?_
    | with_reducible refine Touches.setLink ?_ ?_
    | decide

theorem Touches.closeWindow {r : Rig}
    (h : Touches bs s t) (m : dueBlocks ⊆ bs) :
    Touches bs s (t.closeWindow r) := by
  refine h.andThen (t := t) (cs := dueBlocks) ?_ m
  clear h m
  unfold State.closeWindow
  dsimp only
  repeat' first
    | with_reducible exact Touches.refl
    | with_reducible refine Touches.frameArrives ?_ ?_
    | with_reducible refine Touches.setLink ?_ ?_
    | with_reducible refine Touches.closeBad ?_ ?_
    | decide
    | split

theorem Touches.closeDueWindow {r : Rig}
    (h : Touches bs s t) (m : dueBlocks ⊆ bs) :
    Touches bs s (t.closeDueWindow r) := by
  refine h.andThen (t := t) (cs := dueBlocks) ?_ m
  clear h m
  unfold State.closeDueWindow
  repeat' first
    | with_reducible exact Touches.refl
    | with_reducible refine Touches.takeLockGained ?_ ?_
    | with_reducible refine Touches.takeLockLost ?_ ?_
    | with_reducible refine Touches.closeWindow ?_ ?_
    | decide
    | split

theorem Touches.closeDueWindows 
    (h : Touches bs s t) (m : dueBlocks ⊆ bs) :
    Touches bs s (t.closeDueWindows) := by
  refine h.andThen (t := t) (cs := dueBlocks) ?_ m
  clear h m
  unfold State.closeDueWindows
  repeat' first
    | with_reducible exact Touches.refl
    | with_reducible refine Touches.closeDueWindow ?_ ?_
    | decide

theorem Touches.takeMissingPresent {r : Rig}
    (h : Touches bs s t) (m : dueBlocks ⊆ bs) :
    Touches bs s (t.takeMissingPresent r) := by
  refine h.andThen (t := t) (cs := dueBlocks) ?_ m
  clear h m
  unfold State.takeMissingPresent
  dsimp only
  repeat' first
    | with_reducible exact Touches.refl
    | with_reducible refine Touches.missingBegins ?_ ?_
    | with_reducible refine Touches.judgeBeacon ?_ ?_
    | with_reducible refine Touches.closeDueWindow ?_ ?_
    | decide
    | split

theorem Touches.tickRig {r : Rig}
    (h : Touches bs s t) (m : ([.guards, .health] : List Block) ⊆ bs) :
    Touches bs s (t.tickRig r) := by
  refine h.andThen (t := t) (cs := [.guards, .health]) ?_ m
  clear h m
  unfold State.tickRig
  dsimp only
  repeat' first
    | with_reducible exact Touches.refl
    | with_reducible refine Touches.noteEvidence ?_ ?_
    | with_reducible refine Touches.setRigHealth ?_ ?_
    | with_reducible refine Touches.guardTick ?_ ?_
    | decide
    | split

theorem Touches.tickJudge {r : Rig} {k : KindSet}
    (h : Touches bs s t) (m : ([.health] : List Block) ⊆ bs) :
    Touches bs s (t.tickJudge r k) := by
  refine h.andThen (t := t) (cs := [.health]) ?_ m
  clear h m
  unfold State.tickJudge
  dsimp only
  repeat' first
    | with_reducible exact Touches.refl
    | with_reducible refine Touches.setRigHealth ?_ ?_
    | decide
    | split

theorem Touches.takeQualification {r : Rig}
    (h : Touches bs s t) (m : eventBlocks ⊆ bs) :
    Touches bs s (t.takeQualification r) := by
  refine h.andThen (t := t) (cs := eventBlocks) ?_ m
  clear h m
  unfold State.takeQualification
  dsimp only
  repeat' first
    | with_reducible exact Touches.refl
    | with_reducible refine Touches.handSettled ?_ ?_
    | with_reducible refine Touches.moveHealth ?_ ?_
    | decide
    | split

theorem Touches.takeRestoreComplete {r : Rig}
    (h : Touches bs s t) (m : eventBlocks ⊆ bs) :
    Touches bs s (t.takeRestoreComplete r) := by
  refine h.andThen (t := t) (cs := eventBlocks) ?_ m
  clear h m
  unfold State.takeRestoreComplete
  repeat' first
    | with_reducible exact Touches.refl
    | with_reducible refine Touches.handSettled ?_ ?_
    | with_reducible refine Touches.moveHealth ?_ ?_
    | decide
    | split

theorem Touches.takeAlignmentHeld 
    (h : Touches bs s t) (m : ([.alignment, .ports] : List Block) ⊆ bs) :
    Touches bs s (t.takeAlignmentHeld) := by
  refine h.andThen (t := t) (cs := [.alignment, .ports]) ?_ m
  clear h m
  unfold State.takeAlignmentHeld
  dsimp only
  repeat' first
    | with_reducible exact Touches.refl
    | with_reducible refine Touches.raiseAll ?_ ?_
    | with_reducible refine Touches.setAlignment ?_ ?_
    | decide
    | split

theorem Touches.takeHoldLimit 
    (h : Touches bs s t) (m : eventBlocks ⊆ bs) :
    Touches bs s (t.takeHoldLimit) := by
  refine h.andThen (t := t) (cs := eventBlocks) ?_ m
  clear h m
  unfold State.takeHoldLimit
  dsimp only
  repeat' first
    | with_reducible exact Touches.refl
    | with_reducible refine Touches.run ?_ ?_
    | with_reducible refine Touches.reEligible ?_ ?_
    | with_reducible refine Touches.raiseAll ?_ ?_
    | with_reducible refine Touches.setAlignment ?_ ?_
    | decide
    | split

theorem Touches.takeTransitionComplete {i : Fin 8}
    (h : Touches bs s t) (m : eventBlocks ⊆ bs) :
    Touches bs s (t.takeTransitionComplete i) := by
  refine h.andThen (t := t) (cs := eventBlocks) ?_ m
  clear h m
  unfold State.takeTransitionComplete
  repeat' first
    | with_reducible exact Touches.refl
    | with_reducible refine Touches.run ?_ ?_
    | with_reducible refine Touches.retargetGroup ?_ ?_
    | decide
    | split

theorem Touches.takeSlewStep 
    (h : Touches bs s t) (m : ([.showClock] : List Block) ⊆ bs) :
    Touches bs s (t.takeSlewStep) := by
  refine h.andThen (t := t) (cs := [.showClock]) ?_ m
  clear h m
  unfold State.takeSlewStep
  dsimp only
  repeat' first
    | with_reducible exact Touches.refl
    | with_reducible refine Touches.setShowClock ?_ ?_
    | decide
    | split

theorem Touches.emitRunning {x : Timecode} {b : Bool} {l : LastFrame}
    (h : Touches bs s t) (m : ([.showClock, .tcOutput] : List Block) ⊆ bs) :
    Touches bs s (t.emitRunning x b l) := by
  refine h.andThen (t := t) (cs := [.showClock, .tcOutput]) ?_ m
  clear h m
  unfold State.emitRunning
  dsimp only
  repeat' first
    | with_reducible exact Touches.refl
    | with_reducible refine Touches.handRecord ?_ ?_
    | with_reducible refine Touches.setShowClock ?_ ?_
    | decide

theorem Touches.examineRunning 
    (h : Touches bs s t) (m : ([.showClock, .tcOutput] : List Block) ⊆ bs) :
    Touches bs s (t.examineRunning) := by
  refine h.andThen (t := t) (cs := [.showClock, .tcOutput]) ?_ m
  clear h m
  unfold State.examineRunning
  repeat' first
    | with_reducible exact Touches.refl
    | with_reducible refine Touches.emitRunning ?_ ?_
    | decide
    | split

theorem Touches.takeFrameBoundary 
    (h : Touches bs s t) (m : ([.showClock, .tcOutput] : List Block) ⊆ bs) :
    Touches bs s (t.takeFrameBoundary) := by
  refine h.andThen (t := t) (cs := [.showClock, .tcOutput]) ?_ m
  clear h m
  unfold State.takeFrameBoundary
  dsimp only
  repeat' first
    | with_reducible exact Touches.refl
    | with_reducible refine Touches.examineRunning ?_ ?_
    | with_reducible refine Touches.setShowClock ?_ ?_
    | decide
    | split

theorem Touches.takeHeldRecord 
    (h : Touches bs s t) (m : ([.showClock, .tcOutput] : List Block) ⊆ bs) :
    Touches bs s (t.takeHeldRecord) := by
  refine h.andThen (t := t) (cs := [.showClock, .tcOutput]) ?_ m
  clear h m
  unfold State.takeHeldRecord
  repeat' first
    | with_reducible exact Touches.refl
    | with_reducible refine Touches.handRecord ?_ ?_
    | with_reducible refine Touches.setShowClock ?_ ?_
    | decide
    | split

theorem Touches.takeRecordSendEnd 
    (h : Touches bs s t) (m : ([.tcOutput] : List Block) ⊆ bs) :
    Touches bs s (t.takeRecordSendEnd) := by
  refine h.andThen (t := t) (cs := [.tcOutput]) ?_ m
  clear h m
  unfold State.takeRecordSendEnd
  repeat' first
    | with_reducible exact Touches.refl
    | with_reducible refine Touches.setTcOutput ?_ ?_
    | decide
    | split

theorem Touches.takeLampStep 
    (h : Touches bs s t) (m : ([.lamps] : List Block) ⊆ bs) :
    Touches bs s (t.takeLampStep) := by
  refine h.andThen (t := t) (cs := [.lamps]) ?_ m
  clear h m
  unfold State.takeLampStep
  dsimp only
  repeat' first
    | with_reducible exact Touches.refl
    | with_reducible refine Touches.setLamps ?_ ?_
    | decide
    | split

theorem Touches.settleUnguarded {r : Rig} (h : Touches bs s t) (m : ([.health] : List Block) ⊆ bs) :
    Touches bs s (t.settleUnguarded r) := by
  refine h.andThen (t := t) (cs := [.health]) ?_ m
  clear h m
  unfold State.settleUnguarded
  repeat' first
    | with_reducible exact Touches.refl
    | with_reducible refine Touches.moveHealthBy ?_ ?_
    | decide
    | split

theorem Touches.settleRig {r : Rig}
    (h : Touches bs s t) (m : eventBlocks ⊆ bs) :
    Touches bs s (t.settleRig r) := by
  refine h.andThen (t := t) (cs := eventBlocks) ?_ m
  clear h m
  unfold State.settleRig
  dsimp only
  repeat' first
    | with_reducible exact Touches.refl
    | with_reducible refine Touches.takeRestoreComplete ?_ ?_
    | with_reducible refine Touches.takeQualification ?_ ?_
    | with_reducible refine Touches.settleUnguarded ?_ ?_
    | decide
    | split

theorem Touches.resolve 
    (h : Touches bs s t) (m : dueBlocks ⊆ bs) :
    Touches bs s (t.resolve) := by
  refine h.andThen (t := t) (cs := dueBlocks) ?_ m
  clear h m
  unfold State.resolve
  dsimp only
  repeat' first
    | with_reducible exact Touches.refl
    | with_reducible refine Touches.handNew ?_ ?_
    | with_reducible refine Touches.takeFreewheelLimit ?_ ?_
    | with_reducible refine Touches.takeHoldLimit ?_ ?_
    | with_reducible refine Touches.takeAlignmentHeld ?_ ?_
    | with_reducible refine Touches.settleRig ?_ ?_
    | with_reducible refine Touches.takeLockGained ?_ ?_
    | with_reducible refine Touches.takeLockLost ?_ ?_
    | with_reducible refine Touches.takeAcceptance ?_ ?_
    | decide

theorem Touches.takeInstantEvidence 
    (h : Touches bs s t) (m : dueBlocks ⊆ bs) :
    Touches bs s (t.takeInstantEvidence) := by
  refine h.andThen (t := t) (cs := dueBlocks) ?_ m
  clear h m
  unfold State.takeInstantEvidence
  dsimp only
  repeat' first
    | with_reducible exact Touches.refl
    | with_reducible refine Touches.resolve ?_ ?_
    | with_reducible refine Touches.takeMissingPresent ?_ ?_
    | with_reducible refine Touches.judgeBeacon ?_ ?_
    | with_reducible refine Touches.takeLinkAbsent ?_ ?_
    | with_reducible refine Touches.takeMissingFrame ?_ ?_
    | decide

theorem Touches.judgeTick 
    (h : Touches bs s t) (m : ([.parsers, .guards, .health] : List Block) ⊆ bs) :
    Touches bs s (t.judgeTick) := by
  refine h.andThen (t := t) (cs := [.parsers, .guards, .health]) ?_ m
  clear h m
  unfold State.judgeTick
  dsimp only
  repeat' first
    | with_reducible exact Touches.refl
    | with_reducible refine Touches.reDivergedJudged ?_ ?_
    | with_reducible refine Touches.tickJudge ?_ ?_
    | with_reducible refine Touches.tickRig ?_ ?_
    | decide

theorem Touches.takeTickEnd {r : Rig}
    (h : Touches bs s t) (m : dueBlocks ⊆ bs) :
    Touches bs s (t.takeTickEnd r) := by
  refine h.andThen (t := t) (cs := dueBlocks) ?_ m
  clear h m
  unfold State.takeTickEnd
  dsimp only
  repeat' first
    | with_reducible exact Touches.refl
    | with_reducible refine Touches.handSettled ?_ ?_
    | with_reducible refine Touches.setAlignment ?_ ?_
    | with_reducible refine Touches.judgeTick ?_ ?_
    | with_reducible refine Touches.setUnguarded ?_ ?_
    | with_reducible refine Touches.setTickDue ?_ ?_
    | with_reducible refine Touches.takeInstantEvidence ?_ ?_
    | with_reducible refine Touches.closeDueWindows ?_ ?_
    | decide
    | split

theorem Touches.standGuards {r : Rig}
    (h : Touches bs s t) (m : ([.health] : List Block) ⊆ bs) :
    Touches bs s (t.standGuards r) := by
  refine h.andThen (t := t) (cs := [.health]) ?_ m
  clear h m
  unfold State.standGuards
  repeat' first
    | with_reducible exact Touches.refl
    | with_reducible refine Touches.setUnguarded ?_ ?_
    | decide
    | split

theorem Touches.handLast {r : Rig}
    (h : Touches bs s t) (m : dueBlocks ⊆ bs) :
    Touches bs s (t.handLast r) := by
  refine h.andThen (t := t) (cs := dueBlocks) ?_ m
  clear h m
  unfold State.handLast
  repeat' first
    | with_reducible exact Touches.refl
    | with_reducible refine Touches.handHealth ?_ ?_
    | with_reducible refine Touches.resolve ?_ ?_
    | with_reducible refine Touches.standGuards ?_ ?_
    | decide

theorem Touches.handBoth 
    (h : Touches bs s t) (m : dueBlocks ⊆ bs) :
    Touches bs s (t.handBoth) := by
  refine h.andThen (t := t) (cs := dueBlocks) ?_ m
  clear h m
  unfold State.handBoth
  dsimp only
  repeat' first
    | with_reducible exact Touches.refl
    | with_reducible refine Touches.handLast ?_ ?_
    | decide

theorem Touches.endInstant 
    (h : Touches bs s t) (m : ([.health] : List Block) ⊆ bs) :
    Touches bs s (t.endInstant) := by
  refine h.andThen (t := t) (cs := [.health]) ?_ m
  clear h m
  unfold State.endInstant
  repeat' first
    | with_reducible exact Touches.refl
    | with_reducible refine Touches.setInstantHealth ?_ ?_
    | with_reducible refine Touches.setHealth ?_ ?_
    | decide

theorem Touches.closeInstant 
    (h : Touches bs s t) (m : dueBlocks ⊆ bs) :
    Touches bs s (t.closeInstant) := by
  refine h.andThen (t := t) (cs := dueBlocks) ?_ m
  clear h m
  unfold State.closeInstant
  dsimp only
  repeat' first
    | with_reducible exact Touches.refl
    | with_reducible refine Touches.takeLampStep ?_ ?_
    | with_reducible refine Touches.takeHeldRecord ?_ ?_
    | with_reducible refine Touches.resolve ?_ ?_
    | with_reducible refine Touches.takeFrameBoundary ?_ ?_
    | with_reducible refine Touches.takeRecordSendEnd ?_ ?_
    | with_reducible refine Touches.takeTickEnd ?_ ?_
    | with_reducible refine Touches.takeSlewStep ?_ ?_
    | with_reducible refine Touches.foldl ?_ fun u x => ?_
    | with_reducible refine Touches.takeTransitionComplete ?_ ?_
    | with_reducible refine Touches.takeInstantEvidence ?_ ?_
    | with_reducible refine Touches.endInstant ?_ ?_
    | with_reducible refine Touches.handBoth ?_ ?_
    | decide

theorem Touches.closeMoment 
    (h : Touches bs s t) (m : dueBlocks ⊆ bs) :
    Touches bs s (t.closeMoment) := by
  refine h.andThen (t := t) (cs := dueBlocks) ?_ m
  clear h m
  unfold State.closeMoment
  repeat' first
    | with_reducible exact Touches.refl
    | with_reducible refine Touches.closeInstant ?_ ?_
    | with_reducible refine Touches.closeDueWindows ?_ ?_
    | decide

theorem Touches.sampleLink {r : Rig}
    (h : Touches bs s t) (m : ([.links, .parsers, .guards, .lines] : List Block) ⊆ bs) :
    Touches bs s ((t.sampleLink r).1) := by
  refine h.andThen (t := t) (cs := [.links, .parsers, .guards, .lines]) ?_ m
  clear h m
  unfold State.sampleLink
  dsimp only
  repeat' first
    | with_reducible exact Touches.refl
    | with_reducible refine Touches.setParser ?_ ?_
    | with_reducible refine Touches.guardSample ?_ ?_
    | with_reducible refine Touches.setLines ?_ ?_
    | with_reducible refine Touches.setLink ?_ ?_
    | decide

theorem Touches.countInstant 
    (h : Touches bs s t) (m : ([.clock, .tickDue] : List Block) ⊆ bs) :
    Touches bs s (t.countInstant) := by
  refine h.andThen (t := t) (cs := [.clock, .tickDue]) ?_ m
  clear h m
  unfold State.countInstant
  dsimp only
  repeat' first
    | with_reducible exact Touches.refl
    | with_reducible refine Touches.setTickDue ?_ ?_
    | with_reducible refine Touches.setClock ?_ ?_
    | decide

theorem Touches.instantBlocks 
    (h : Touches bs s t) (m : ([.clock, .links, .parsers, .guards, .lines, .mixer, .showClock, .tcOutput, .lamps, .tickDue] : List Block) ⊆ bs) :
    Touches bs s (t.instantBlocks.1) := by
  refine h.andThen (t := t) (cs := [.clock, .links, .parsers, .guards, .lines, .mixer, .showClock, .tcOutput, .lamps, .tickDue]) ?_ m
  clear h m
  unfold State.instantBlocks
  dsimp only
  repeat' first
    | with_reducible exact Touches.refl
    | with_reducible refine Touches.setLamps ?_ ?_
    | with_reducible refine Touches.setTcOutput ?_ ?_
    | with_reducible refine Touches.setShowClock ?_ ?_
    | with_reducible refine Touches.produce ?_ ?_
    | with_reducible refine Touches.sampleLink ?_ ?_
    | with_reducible refine Touches.countInstant ?_ ?_
    | decide

theorem Touches.instant 
    (h : Touches bs s t) (m : timeBlocks ⊆ bs) :
    Touches bs s (t.instant) := by
  refine h.andThen (t := t) (cs := timeBlocks) ?_ m
  clear h m
  unfold State.instant
  dsimp only
  repeat' first
    | with_reducible exact Touches.refl
    | with_reducible refine Touches.handNew ?_ ?_
    | with_reducible refine Touches.takeEvidence ?_ ?_
    | with_reducible refine Touches.instantBlocks ?_ ?_
    | decide

theorem Touches.sampleInstant 
    (h : Touches bs s t) (m : timeBlocks ⊆ bs) :
    Touches bs s (t.sampleInstant) := by
  refine h.andThen (t := t) (cs := timeBlocks) ?_ m
  clear h m
  unfold State.sampleInstant
  repeat' first
    | with_reducible exact Touches.refl
    | with_reducible refine Touches.instant ?_ ?_
    | with_reducible refine Touches.closeInstant ?_ ?_
    | decide

theorem Touches.frameArrival {r : Rig} {x : LaneFrames}
    (h : Touches bs s t) (m : dueBlocks ⊆ bs) :
    Touches bs s (t.frameArrival r x) := by
  refine h.andThen (t := t) (cs := dueBlocks) ?_ m
  clear h m
  unfold State.frameArrival
  dsimp only
  repeat' first
    | with_reducible exact Touches.refl
    | with_reducible refine Touches.closeWindow ?_ ?_
    | with_reducible refine Touches.setLink ?_ ?_
    | decide
    | split

theorem Touches.later {n : Nat}
    (h : Touches bs s t) (m : timeBlocks ⊆ bs) :
    Touches bs s (t.later n) := by
  refine h.andThen (t := t) (cs := timeBlocks) ?_ m
  clear h m
  unfold State.later
  dsimp only
  repeat' first
    | with_reducible exact Touches.refl
    | with_reducible refine Touches.setParsers ?_ ?_
    | with_reducible refine Touches.setLinks ?_ ?_
    | with_reducible refine Touches.setClock ?_ ?_
    | decide

theorem Touches.substitute 
    (h : Touches bs s t) (m : timeBlocks ⊆ bs) :
    Touches bs s (t.substitute) := by
  refine h.andThen (t := t) (cs := timeBlocks) ?_ m
  clear h m
  unfold State.substitute
  dsimp only
  repeat' first
    | with_reducible exact Touches.refl
    | with_reducible refine Touches.setClock ?_ ?_
    | with_reducible refine Touches.sampleInstant ?_ ?_
    | decide

theorem Touches.loseClock 
    (h : Touches bs s t) (m : ([.clock, .ports] : List Block) ⊆ bs) :
    Touches bs s (t.loseClock) := by
  refine h.andThen (t := t) (cs := [.clock, .ports]) ?_ m
  clear h m
  unfold State.loseClock
  repeat' first
    | with_reducible exact Touches.refl
    | with_reducible refine Touches.raiseAll ?_ ?_
    | with_reducible refine Touches.setClock ?_ ?_
    | decide

theorem Touches.dropReturn 
    (h : Touches bs s t) (m : ([.clock] : List Block) ⊆ bs) :
    Touches bs s (t.dropReturn) := by
  refine h.andThen (t := t) (cs := [.clock]) ?_ m
  clear h m
  unfold State.dropReturn
  repeat' first
    | with_reducible exact Touches.refl
    | with_reducible refine Touches.setClock ?_ ?_
    | decide

theorem Touches.takeClock {e : ClockEvent}
    (h : Touches bs s t) (m : timeBlocks ⊆ bs) :
    Touches bs s (t.takeClock e) := by
  refine h.andThen (t := t) (cs := timeBlocks) ?_ m
  clear h m
  unfold State.takeClock
  repeat' first
    | with_reducible exact Touches.refl
    | with_reducible refine Touches.substitute ?_ ?_
    | with_reducible refine Touches.sampleInstant ?_ ?_
    | with_reducible refine Touches.loseClock ?_ ?_
    | with_reducible refine Touches.dropReturn ?_ ?_
    | decide
    | split

theorem Touches.takeTimed {e : TimedEvent}
    (h : Touches bs s t) (m : timeBlocks ⊆ bs) :
    Touches bs s (t.takeTimed e) := by
  refine h.andThen (t := t) (cs := timeBlocks) ?_ m
  clear h m
  unfold State.takeTimed
  repeat' first
    | with_reducible exact Touches.refl
    | with_reducible refine Touches.takeClock ?_ ?_
    | with_reducible refine Touches.closeWindow ?_ ?_
    | decide
    | split

theorem Touches.elapseWith {n d : Nat} (h : Touches bs s t) (m : timeBlocks ⊆ bs) :
    Touches bs s (elapseWith n d t) := by
  induction n generalizing t d with
  | zero => exact h.later m
  | succ n ih =>
    unfold Machine.elapseWith
    split
    · exact h.later m
    · split
      · exact ih (((h.later m).takeTimed m).closeMoment (List.Subset.trans (by decide) m))
      · exact h.later m

theorem Touches.elapse {n : Nat}
    (h : Touches bs s t) (m : timeBlocks ⊆ bs) :
    Touches bs s (t.elapse n) := by
  refine h.andThen (t := t) (cs := timeBlocks) ?_ m
  clear h m
  unfold State.elapse
  repeat' first
    | with_reducible exact Touches.refl
    | with_reducible refine Touches.elapseWith ?_ ?_
    | with_reducible refine Touches.closeMoment ?_ ?_
    | decide
    | split

theorem Touches.takeClockReturn 
    (h : Touches bs s t) (m : timeBlocks ⊆ bs) :
    Touches bs s (t.takeClockReturn) := by
  refine h.andThen (t := t) (cs := timeBlocks) ?_ m
  clear h m
  unfold State.takeClockReturn
  dsimp only
  repeat' first
    | with_reducible exact Touches.refl
    | with_reducible refine Touches.setClock ?_ ?_
    | with_reducible refine Touches.sampleInstant ?_ ?_
    | with_reducible refine Touches.raiseAll ?_ ?_
    | decide
    | split

theorem Touches.prepare 
    (h : Touches bs s t) (m : timeBlocks ⊆ bs) :
    Touches bs s (t.prepare) := by
  refine h.andThen (t := t) (cs := timeBlocks) ?_ m
  clear h m
  unfold State.prepare
  repeat' first
    | with_reducible exact Touches.refl
    | with_reducible refine Touches.resolve ?_ ?_
    | with_reducible refine Touches.takeClockReturn ?_ ?_
    | decide

theorem Touches.edgeSeen 
    (h : Touches bs s t) (m : ([.clock] : List Block) ⊆ bs) :
    Touches bs s (t.edgeSeen) := by
  refine h.andThen (t := t) (cs := [.clock]) ?_ m
  clear h m
  unfold State.edgeSeen
  repeat' first
    | with_reducible exact Touches.refl
    | with_reducible refine Touches.setClock ?_ ?_
    | decide

theorem Touches.houseEdge 
    (h : Touches bs s t) (m : timeBlocks ⊆ bs) :
    Touches bs s (t.houseEdge) := by
  refine h.andThen (t := t) (cs := timeBlocks) ?_ m
  clear h m
  unfold State.houseEdge
  dsimp only
  repeat' first
    | with_reducible exact Touches.refl
    | with_reducible refine Touches.edgeSeen ?_ ?_
    | with_reducible refine Touches.sampleInstant ?_ ?_
    | with_reducible refine Touches.setClock ?_ ?_
    | decide
    | split

theorem Touches.clockEvent {e : ClockEvent}
    (h : Touches bs s t) (m : timeBlocks ⊆ bs) :
    Touches bs s (t.clockEvent e) := by
  refine h.andThen (t := t) (cs := timeBlocks) ?_ m
  clear h m
  unfold State.clockEvent
  dsimp only
  repeat' first
    | with_reducible exact Touches.refl
    | with_reducible refine Touches.takeClock ?_ ?_
    | with_reducible refine Touches.elapse ?_ ?_
    | decide
    | split

theorem Touches.linkDues {r : Rig}
    (h : Touches bs s t) (m : dueBlocks ⊆ bs) :
    Touches bs s (t.linkDues r) := by
  refine h.andThen (t := t) (cs := dueBlocks) ?_ m
  clear h m
  unfold State.linkDues
  repeat' first
    | with_reducible exact Touches.refl
    | with_reducible refine Touches.takeLinkAbsent ?_ ?_
    | with_reducible refine Touches.resolve ?_ ?_
    | with_reducible refine Touches.takeMissingFrame ?_ ?_
    | decide

theorem Touches.laneMarker {r : Rig} {i : Fin 4} {x : Table 4 Bool}
    (h : Touches bs s t) (m : dueBlocks ⊆ bs) :
    Touches bs s (t.laneMarker r i x) := by
  refine h.andThen (t := t) (cs := dueBlocks) ?_ m
  clear h m
  unfold State.laneMarker
  dsimp only
  repeat' first
    | with_reducible exact Touches.refl
    | with_reducible refine Touches.setLink ?_ ?_
    | with_reducible refine Touches.resolve ?_ ?_
    | with_reducible refine Touches.closeBad ?_ ?_
    | with_reducible refine Touches.closeWindow ?_ ?_
    | with_reducible refine Touches.linkDues ?_ ?_
    | decide
    | split

theorem Touches.setPort {q : Port} {c : ControlPort}
    (h : Touches bs s t) (m : ([.ports] : List Block) ⊆ bs) :
    Touches bs s (t.setPort q c) := by
  refine h.andThen (t := t) (cs := [.ports]) ?_ m
  clear h m
  unfold State.setPort
  repeat' first
    | with_reducible exact Touches.refl
    | with_reducible refine Touches.setPorts ?_ ?_
    | decide

theorem Touches.select {q : Port}
    (h : Touches bs s t) (m : ([.ports] : List Block) ⊆ bs) :
    Touches bs s (t.select q) := by
  refine h.andThen (t := t) (cs := [.ports]) ?_ m
  clear h m
  unfold State.select
  repeat' first
    | with_reducible exact Touches.refl
    | with_reducible refine Touches.setPort ?_ ?_
    | decide

theorem Touches.deselect {q : Port} {r : ResultCode}
    (h : Touches bs s t) (m : ([.ports] : List Block) ⊆ bs) :
    Touches bs s (t.deselect q r) := by
  refine h.andThen (t := t) (cs := [.ports]) ?_ m
  clear h m
  unfold State.deselect
  dsimp only
  repeat' first
    | with_reducible exact Touches.refl
    | with_reducible refine Touches.raiseOn ?_ ?_
    | with_reducible refine Touches.setPort ?_ ?_
    | decide
    | split

theorem Touches.endRead {q : Port}
    (h : Touches bs s t) (m : ([.ports] : List Block) ⊆ bs) :
    Touches bs s (t.endRead q) := by
  refine h.andThen (t := t) (cs := [.ports]) ?_ m
  clear h m
  unfold State.endRead
  repeat' first
    | with_reducible exact Touches.refl
    | with_reducible refine Touches.deselect ?_ ?_
    | with_reducible refine Touches.setPort ?_ ?_
    | decide
    | split

theorem Touches.begin {q : Port}
    (h : Touches bs s t) (m : ([.ports] : List Block) ⊆ bs) :
    Touches bs s (t.begin q) := by
  refine h.andThen (t := t) (cs := [.ports]) ?_ m
  clear h m
  unfold State.begin
  repeat' first
    | with_reducible exact Touches.refl
    | with_reducible refine Touches.select ?_ ?_
    | with_reducible refine Touches.endRead ?_ ?_
    | decide
    | split

theorem Touches.shiftZeros {q : Port} {n : Nat}
    (h : Touches bs s t) (m : ([.ports] : List Block) ⊆ bs) :
    Touches bs s (t.shiftZeros q n) := by
  refine h.andThen (t := t) (cs := [.ports]) ?_ m
  clear h m
  unfold State.shiftZeros
  dsimp only
  repeat' first
    | with_reducible exact Touches.refl
    | with_reducible refine Touches.setPort ?_ ?_
    | decide

theorem Touches.opened {q : Port} {n : Nat}
    (h : Touches bs s t) (m : timeBlocks ⊆ bs) :
    Touches bs s (t.opened q n) := by
  refine h.andThen (t := t) (cs := timeBlocks) ?_ m
  clear h m
  unfold State.opened
  repeat' first
    | with_reducible exact Touches.refl
    | with_reducible refine Touches.shiftZeros ?_ ?_
    | with_reducible refine Touches.begin ?_ ?_
    | with_reducible refine Touches.prepare ?_ ?_
    | decide

theorem Touches.baseDelays 
    (h : Touches bs s t) (m : ([.lines] : List Block) ⊆ bs) :
    Touches bs s (t.baseDelays) := by
  refine h.andThen (t := t) (cs := [.lines]) ?_ m
  clear h m
  unfold State.baseDelays
  repeat' first
    | with_reducible exact Touches.refl
    | with_reducible refine Touches.setDelay ?_ ?_
    | decide

theorem Touches.startShow {r : Rig}
    (h : Touches bs s t) (m : eventBlocks ⊆ bs) :
    Touches bs s (t.startShow r) := by
  refine h.andThen (t := t) (cs := eventBlocks) ?_ m
  clear h m
  unfold State.startShow
  dsimp only
  repeat' first
    | with_reducible exact Touches.refl
    | with_reducible refine Touches.run ?_ ?_
    | with_reducible refine Touches.handOnAir ?_ ?_
    | with_reducible refine Touches.setBank ?_ ?_
    | with_reducible refine Touches.raiseAll ?_ ?_
    | with_reducible refine Touches.updateSong ?_ ?_
    | with_reducible refine Touches.setArbiter ?_ ?_
    | with_reducible refine Touches.baseDelays ?_ ?_
    | decide
    | split

theorem Touches.stopShow 
    (h : Touches bs s t) (m : ([.lines, .alignment, .arbiter, .mixer, .showClock, .tcOutput, .bank, .ports] : List Block) ⊆ bs) :
    Touches bs s (t.stopShow) := by
  refine h.andThen (t := t) (cs := [.lines, .alignment, .arbiter, .mixer, .showClock, .tcOutput, .bank, .ports]) ?_ m
  clear h m
  unfold State.stopShow
  dsimp only
  repeat' first
    | with_reducible exact Touches.refl
    | with_reducible refine Touches.retargetAll ?_ ?_
    | with_reducible refine Touches.reEligible ?_ ?_
    | with_reducible refine Touches.settleDelay ?_ ?_
    | with_reducible refine Touches.setBank ?_ ?_
    | with_reducible refine Touches.clockIdle ?_ ?_
    | with_reducible refine Touches.raiseAll ?_ ?_
    | with_reducible refine Touches.setArbiter ?_ ?_
    | with_reducible refine Touches.closeEntry ?_ ?_
    | decide
    | split

theorem Touches.assignGroup {i : Fin 8} {w : GroupWrite}
    (h : Touches bs s t) (m : ([.mixer] : List Block) ⊆ bs) :
    Touches bs s (t.assignGroup i w) := by
  refine h.andThen (t := t) (cs := [.mixer]) ?_ m
  clear h m
  unfold State.assignGroup
  dsimp only
  repeat' first
    | with_reducible exact Touches.refl
    | with_reducible refine Touches.retargetGroup ?_ ?_
    | with_reducible refine Touches.setMixer ?_ ?_
    | decide
    | split

theorem Touches.guardRestartUnder {b : Bank} (h : Touches bs s t) (m : eventBlocks ⊆ bs) :
    Touches bs s (t.guardRestartUnder b) :=
  h.andThen (cs := eventBlocks) (((Touches.refl.setBank (by decide)).guardRestartBoth (by decide)).setBank (by decide)) m

theorem Touches.frontWritten {x : BankedTable} {b : Bank}
    (h : Touches bs s t) (m : eventBlocks ⊆ bs) :
    Touches bs s (t.frontWritten x b) := by
  refine h.andThen (t := t) (cs := eventBlocks) ?_ m
  clear h m
  unfold State.frontWritten
  dsimp only
  repeat' first
    | with_reducible exact Touches.refl
    | with_reducible refine Touches.handBothRun ?_ ?_
    | with_reducible refine Touches.run ?_ ?_
    | with_reducible refine Touches.clearMemories ?_ ?_
    | with_reducible refine Touches.rebase ?_ ?_
    | with_reducible refine Touches.retargetAll ?_ ?_
    | with_reducible refine Touches.guardRestartUnder ?_ ?_
    | with_reducible refine Touches.policyChange ?_ ?_
    | with_reducible refine Touches.restoreChange ?_ ?_
    | decide
    | split

theorem Touches.takeClaim {q : Port}
    (h : Touches bs s t) (m : ([.bank] : List Block) ⊆ bs) :
    Touches bs s (t.takeClaim q) := by
  refine h.andThen (t := t) (cs := [.bank]) ?_ m
  clear h m
  unfold State.takeClaim
  repeat' first
    | with_reducible exact Touches.refl
    | with_reducible refine Touches.setBank ?_ ?_
    | decide

theorem Touches.newRate 
    (h : Touches bs s t) (m : ([.clock, .ports] : List Block) ⊆ bs) :
    Touches bs s (t.newRate) := by
  refine h.andThen (t := t) (cs := [.clock, .ports]) ?_ m
  clear h m
  unfold State.newRate
  dsimp only
  repeat' first
    | with_reducible exact Touches.refl
    | with_reducible refine Touches.raiseAll ?_ ?_
    | with_reducible refine Touches.setClock ?_ ?_
    | decide
    | split

theorem Touches.reMissing {r : Rig}
    (h : Touches bs s t) (m : eventBlocks ⊆ bs) :
    Touches bs s (t.reMissing r) := by
  refine h.andThen (t := t) (cs := eventBlocks) ?_ m
  clear h m
  unfold State.reMissing
  dsimp only
  repeat' first
    | with_reducible exact Touches.refl
    | with_reducible refine Touches.missingBegins ?_ ?_
    | with_reducible refine Touches.setParser ?_ ?_
    | decide
    | split

theorem Touches.setupTaken {u : ShowSetup}
    (h : Touches bs s t) (m : timeBlocks ⊆ bs) :
    Touches bs s (t.setupTaken u) := by
  refine h.andThen (t := t) (cs := timeBlocks) ?_ m
  clear h m
  unfold State.setupTaken
  dsimp only
  repeat' first
    | with_reducible exact Touches.refl
    | with_reducible refine Touches.reMissing ?_ ?_
    | with_reducible refine Touches.silentAbandon ?_ ?_
    | with_reducible refine Touches.newRate ?_ ?_
    | decide
    | split

theorem Touches.pendExchange {x : Timing} {b : Bool}
    (h : Touches bs s t) (m : eventBlocks ⊆ bs) :
    Touches bs s (t.pendExchange x b) := by
  refine h.andThen (t := t) (cs := eventBlocks) ?_ m
  clear h m
  unfold State.pendExchange
  dsimp only
  repeat' first
    | with_reducible exact Touches.refl
    | with_reducible refine Touches.exchangeFallsDue ?_ ?_
    | with_reducible refine Touches.setBank ?_ ?_
    | decide
    | split

theorem Touches.restartArbiter 
    (h : Touches bs s t) (m : ([.arbiter] : List Block) ⊆ bs) :
    Touches bs s (t.restartArbiter) := by
  refine h.andThen (t := t) (cs := [.arbiter]) ?_ m
  clear h m
  unfold State.restartArbiter
  dsimp only
  repeat' first
    | with_reducible exact Touches.refl
    | with_reducible refine Touches.setArbiter ?_ ?_
    | with_reducible refine Touches.closeEntry ?_ ?_
    | decide
    | split

theorem Touches.restartHealth 
    (h : Touches bs s t) (m : ([.health, .ports] : List Block) ⊆ bs) :
    Touches bs s (t.restartHealth) := by
  refine h.andThen (t := t) (cs := [.health, .ports]) ?_ m
  clear h m
  unfold State.restartHealth
  dsimp only
  repeat' first
    | with_reducible exact Touches.refl
    | with_reducible refine Touches.raiseAll ?_ ?_
    | with_reducible refine Touches.setInstantHealth ?_ ?_
    | with_reducible refine Touches.setHealth ?_ ?_
    | decide
    | split

theorem Touches.engineRestart 
    (h : Touches bs s t) (m : ([.parsers, .guards, .health, .lines, .alignment, .arbiter, .mixer, .showClock, .tcOutput, .matchers, .bank, .ports, .lamps, .device] : List Block) ⊆ bs) :
    Touches bs s (t.engineRestart) := by
  refine h.andThen (t := t) (cs := [.parsers, .guards, .health, .lines, .alignment, .arbiter, .mixer, .showClock, .tcOutput, .matchers, .bank, .ports, .lamps, .device]) ?_ m
  clear h m
  unfold State.engineRestart
  dsimp only
  repeat' first
    | with_reducible exact Touches.refl
    | with_reducible refine Touches.raiseAll ?_ ?_
    | with_reducible refine Touches.setDevice ?_ ?_
    | with_reducible refine Touches.setLamps ?_ ?_
    | with_reducible refine Touches.setBank ?_ ?_
    | with_reducible refine Touches.clearMemories ?_ ?_
    | with_reducible refine Touches.clockIdle ?_ ?_
    | with_reducible refine Touches.retargetAll ?_ ?_
    | with_reducible refine Touches.setMixer ?_ ?_
    | with_reducible refine Touches.setAlignment ?_ ?_
    | with_reducible refine Touches.setLines ?_ ?_
    | with_reducible refine Touches.restartHealth ?_ ?_
    | with_reducible refine Touches.guardRestartBoth ?_ ?_
    | with_reducible refine Touches.setParsers ?_ ?_
    | with_reducible refine Touches.restartArbiter ?_ ?_
    | decide

end Sys2Proof.Machine
end

