-- ==== Sys2Proof/Laws/Health.lean ====
section
/-! SUPPORT. What the operations over the health of an instant and over frame windows do, said once each. -/

namespace Sys2Proof.Machine

open Sys2Proof

variable {s : State} {r : Rig}

/-- R45: the state of the rigs, and what is kept beside it, after a move. -/
theorem State.moveHealthBy_health (f g : Health → Health) :
    (s.moveHealthBy r f g).health = s.health.set r (f (s.health.get r)) := by
  simp only [State.moveHealthBy]; split <;> rfl

/-- A move changes the health of one rig and nothing else where no tick has ended at this instant. -/
theorem State.moveHealthBy_of_none (f g : Health → Health) (h : s.instantHealth.unguarded = none) :
    s.moveHealthBy r f g = s.setRigHealth r (f (s.health.get r)) := by
  simp [State.moveHealthBy, State.setRigHealth, h]

theorem State.moveHealth_of_none (f : Health → Health) (h : s.instantHealth.unguarded = none) :
    s.moveHealth r f = s.setRigHealth r (f (s.health.get r)) := State.moveHealthBy_of_none f f h

/-- R45: no state rests on a guard condition where no tick has ended at this instant. -/
theorem State.guardHeld_of_none (h : s.instantHealth.unguarded = none) : s.guardHeld r = false := by
  simp [State.guardHeld, h]

/-- R45: a restart undoes nothing where no tick has ended at this instant. -/
theorem State.undoGuards_of_none (h : s.instantHealth.unguarded = none) : s.undoGuards = s := by
  simp [State.undoGuards, h]

/-- R45: a restart would leave a rig as it stands where no tick has ended at this instant. -/
theorem State.unguardedHealth_of_none (h : s.instantHealth.unguarded = none) : s.unguardedHealth r = s.health.get r := by
  simp [State.unguardedHealth, h]

/-- Log 59: letting what a rig's tick end has left stand moves no health, hands nothing on and changes no parser. -/
theorem State.standGuards_fields :
    (s.standGuards r).health = s.health ∧ (s.standGuards r).parsers = s.parsers ∧ (s.standGuards r).bank = s.bank ∧
    (∀ q, (s.standGuards r).handed q = s.handed q) := by
  simp only [State.standGuards]; split <;> exact ⟨rfl, rfl, rfl, fun _ => rfl⟩

/-- Log 59: a rig whose tick end stands rests on no guard condition that a restart would undo. -/
theorem State.standGuards_guardHeld : (s.standGuards r).guardHeld r = false := by
  cases h : s.instantHealth.unguarded <;> cases r <;>
    simp [State.standGuards, State.guardHeld, State.setUnguarded, State.setInstantHealth, PerRig.get, PerRig.set,
      State.restoreTime, h]

/-- R45: with nothing due of what a restart would leave of a rig, there is nothing of it to take. -/
theorem State.settleUnguarded_of_not_due (h : (s.unguardedHealth r).dueUnder s.restoreTime = false) :
    s.settleUnguarded r = s := by
  simp [State.settleUnguarded, h]

/-- R170: no exchange may come at the instant where none pends, no beacon waits and no acceptance is under way. -/
theorem State.exchangeDue_of_none (hx : s.bank.exchange = none) (hc : s.instantHealth.coming.exchange = false)
    (ha : s.parsers.a.judging = none) (hb : s.parsers.b.judging = none) : s.exchangeDue = false := by
  simp [State.exchangeDue, PerRig.get, hx, hc, ha, hb]

/-- R142: an acceptance with no re-basing to drop leaves the Show Clock to the beacon alone. -/
theorem State.dropRebase_of_none {x : Acceptance} (h : x.rebases = false) : s.dropRebase x = s := by
  simp [State.dropRebase, h]

/-- R45: what is kept of a tick end with no guard condition decided is no part of a rig's health. -/
@[simp] theorem State.setUnguarded_health (x : Option (PerRig Unguarded)) : (s.setUnguarded x).health = s.health := rfl

@[simp] theorem State.setUnguarded_handed (x : Option (PerRig Unguarded)) : (s.setUnguarded x).handed r = s.handed r := rfl

/-- R46, R54: with nothing due of a rig's health its settling changes nothing. -/
theorem Health.settleDue_of_not_due {h : Health} {f : Table 11 FaultEntry} {time : Nat} (hd : h.dueUnder time = false) :
    h.settleDue f time = h := by
  simp only [Health.dueUnder, Bool.or_eq_false_iff] at hd
  simp [Health.settleDue, Health.settleQualifying, Health.restored, hd.1, hd.2]

/-- R46, R54: what the settling before an exchange makes of a rig's health. -/
theorem State.settleDues_health :
    s.settleDues.health.get r = (s.health.get r).settleDue s.bank.front.fault s.restoreTime := by
  cases r <;> simp only [State.settleDues, State.moveHealth, State.moveHealthBy_health] <;> rfl

/-- R55: a rig whose state stands as last handed on does not rise any more where no tick has ended at this instant. -/
theorem State.mayRise_of_handed (h : s.instantHealth.unguarded = none) (hs : s.handed r = (s.health.get r).state) :
    s.mayRise r = false := by
  simp [State.mayRise, State.guardHeld_of_none h, hs]

/-- R55: what the other blocks read of a rig's health after its handing is replaced. -/
@[simp] theorem State.setHanding_handed (x : Handing) (q : Rig) :
    (s.setHanding r x).handed q = if q = r then x.handed else s.handed q := by
  cases q <;> cases r <;> rfl

/-- R55: replacing a rig's health hands nothing on. -/
@[simp] theorem State.setRigHealth_handed (h : Health) (q : Rig) : (s.setRigHealth r h).handed q = s.handed q := rfl

/-- R55: moving a rig's health hands nothing on. -/
@[simp] theorem State.moveHealthBy_handed (f g : Health → Health) (q : Rig) :
    (s.moveHealthBy r f g).handed q = s.handed q := by
  simp only [State.moveHealthBy]; split <;> rfl

/-- R55: a state that stands as last handed on is not handed on again. -/
theorem State.handOneWith_unchanged (run : State → State) (h : (s.health.get r).state = s.handed r) :
    s.handOneWith run r = s := by
  have h' : (s.health.get r).state = (s.instantHealth.handing.get r).handed := h
  simp [State.handOneWith, h']

/-- R55: a state that stands as last handed on is not handed on again, and the other rig's is not looked at. -/
theorem State.handHealthWith_unchanged (run : State → State) (h : (s.health.get r).state = s.handed r) :
    s.handHealthWith run r = s := by
  simp [State.handHealthWith, h]

/-- R55: a settled rig is handed on, one that the instant has yet to carry on is not. -/
theorem State.handSettledWith_eq (run : State → State) :
    s.handSettledWith run r = if s.unsettled r then s else s.handHealthWith run r := rfl

/-- R55: where both rigs stand as last handed on, nothing is handed on. -/
theorem State.handNew_unchanged (h : ∀ q, (s.health.get q).state = s.handed q) : s.handNew = s := by
  simp [State.handNew, State.handSettled, State.handSettledWith, State.handHealthWith_unchanged _ (h _)]

/-- R55: noting what an acceptance has yet to bring hands nothing on and moves no health. -/
@[simp] theorem State.setComing_handed (x : Coming) : (s.setComing x).handed r = s.handed r := rfl

@[simp] theorem State.setComing_health (x : Coming) : (s.setComing x).health = s.health := rfl

/-- R55: a HEALTHY rig is settled where no evidence, exchange or qualification of the instant is open and no guard decision
bears on it. -/
theorem State.healthy_settled (hs : (s.health.get r).state = .healthy) (hg : s.guardHeld r = false)
    (he : s.evidenceDue r = false) (hq : (s.health.get r).qualifying.nonempty = false) (hx : s.exchangeDue = false) :
    s.unsettled r = false := by
  simp [State.unsettled, hs, hg, he, hq, hx]

/-- R53, R55: with no tick end due, a FAILED rig waits for a guard decision and an absence only. -/
theorem State.unsettled_failed {s : State} {r : Rig} (hs : (s.health.get r).state = .failed) (ht : s.tickDue = false) :
    s.unsettled r = (s.guardHeld r || (s.links.get r).absenceDue) := by
  simp [State.unsettled, hs, ht]

/-- R54: a second evidence at the instant of a relapse is of that relapse. -/
theorem Health.relapse_fields (h : Health) (f : Table 11 FaultEntry) (kinds : KindSet) :
    (h.relapse f kinds).state = .failed ∧ (h.relapse f kinds).restore = 0 ∧ (h.relapse f kinds).relapsed = true ∧
    (h.relapse f kinds).failures = stop255 h.failures ∧ (h.relapse f kinds).flags = h.flags ∧
    ∀ k, kinds.get k = true → (h.relapse f kinds).counters.get k = (f.get k).delay := by
  refine ⟨rfl, rfl, rfl, rfl, rfl, fun k hk => ?_⟩
  simp [Health.relapse, Health.relapseWith, Health.fail, hk]

/-- R55: when the instant is over nothing of it is left: each rig's state is the one before the next and the one handed on,
and no relapse of it goes on. -/
theorem State.endInstant_handing :
    (s.endInstant.instantHealth.handing.get r) =
      { before := (s.health.get r).state, handed := (s.health.get r).state } ∧
    s.endInstant.instantHealth.unguarded = none ∧
    s.endInstant.health.get r = { s.health.get r with relapsed := false } ∧
    s.endInstant.handed r = (s.endInstant.health.get r).state := by
  cases r <;> exact ⟨rfl, rfl, rfl, rfl⟩

/-- R9: the lane frames a window holds after a delivery. -/
theorem Window.deliver_frames (w : Window) (lanes : LaneFrames) (k : Fin 4) :
    (w.deliver lanes).frames.get k =
      if w.marked.get k then (lanes.get k).or (w.frames.get k) else w.frames.get k := by
  simp [Window.deliver]

/-- R9: without an open window nothing arrives and nothing closes. -/
theorem State.frameArrival_no_window (lanes : LaneFrames) (h : (s.links.get r).window = none) :
    s.frameArrival r lanes = s ∧ s.closeWindow r = s := by
  simp [State.frameArrival, State.closeWindow, h]

/-- R9: a window closes good with the frame of its four lanes, or bad for each lane it lacks. -/
theorem State.closeWindow_some {w : Window} (h : (s.links.get r).window = some w) :
    s.closeWindow r =
      if allLanes w.delivered then (s.setLink r { s.links.get r with window := none }).frameArrives r (some (gather w.frames))
      else s.closeBad r (lanesNot w.delivered) := by
  simp [State.closeWindow, h]

end Sys2Proof.Machine
end

