-- ==== Sys2Proof/Laws/PerInstr.lean ====
section
/-! SUPPORT. The family `Checked`: which commands fail the checks of WellFormed, said for each command. -/

namespace Sys2Proof.Laws.Checked

open Sys2Proof

/-- The only commands that name no event: a FRAMING that cuts no byte, an UNKNOWN of a defined code, and a WRITE of a
table whose WRITE is a row of its own. -/
def Statement (i : Instr) : Prop :=
  i.wellFormed = false →
    (∃ q cut, i = .framing q cut ∧ (cut.bits = 0 ∨ 7 < cut.bits)) ∨
    (∃ q code body, i = .unknown q code body ∧ code ∈ definedCodes) ∨
    (∃ q id body, i = .write q (id :: body) ∧ id ∈ writableIds)

theorem fullReset cause : Statement (.fullReset cause) := by
  intro h; cases h

theorem restart port body : Statement (.restart port body) := by
  intro h; cases h

theorem houseClockEdge dt : Statement (.houseClockEdge dt) := by
  intro h; cases h

theorem substitutedIncrement : Statement (.substitutedIncrement) := by
  intro h; cases h

theorem holdoverIncrement : Statement (.holdoverIncrement) := by
  intro h; cases h

theorem clockLoss : Statement (.clockLoss) := by
  intro h; cases h

theorem returnCounterTimeout : Statement (.returnCounterTimeout) := by
  intro h; cases h

theorem clockReturn : Statement (.clockReturn) := by
  intro h; cases h

theorem laneFrameMarker dt link lane complete : Statement (.laneFrameMarker dt link lane complete) := by
  intro h; cases h

theorem frameArrival dt link lanes : Statement (.frameArrival dt link lanes) := by
  intro h; cases h

theorem missingFrame link : Statement (.missingFrame link) := by
  intro h; cases h

theorem lockGained link : Statement (.lockGained link) := by
  intro h; cases h

theorem lockLost link : Statement (.lockLost link) := by
  intro h; cases h

theorem linkAbsent link : Statement (.linkAbsent link) := by
  intro h; cases h

theorem beaconComplete rig order : Statement (.beaconComplete rig order) := by
  intro h; cases h

theorem missingPresent rig : Statement (.missingPresent rig) := by
  intro h; cases h

theorem healthTickEnd first : Statement (.healthTickEnd first) := by
  intro h; cases h

theorem qualification rig : Statement (.qualification rig) := by
  intro h; cases h

theorem restoreComplete rig : Statement (.restoreComplete rig) := by
  intro h; cases h

theorem clearHistory port body : Statement (.clearHistory port body) := by
  intro h; cases h

theorem offsetAcceptance : Statement (.offsetAcceptance) := by
  intro h; cases h

theorem alignmentHeld : Statement (.alignmentHeld) := by
  intro h; cases h

theorem holdLimit : Statement (.holdLimit) := by
  intro h; cases h

theorem start port body : Statement (.start port body) := by
  intro h; cases h

theorem stop port body : Statement (.stop port body) := by
  intro h; cases h

theorem take port body : Statement (.take port body) := by
  intro h; cases h

theorem setMode port body : Statement (.setMode port body) := by
  intro h; cases h

theorem transitionComplete group : Statement (.transitionComplete group) := by
  intro h; cases h

theorem setGroup port body : Statement (.setGroup port body) := by
  intro h; cases h

theorem writeGroupState port body : Statement (.writeGroupState port body) := by
  intro h; cases h

theorem slewStep : Statement (.slewStep) := by
  intro h; cases h

theorem freewheelLimit : Statement (.freewheelLimit) := by
  intro h; cases h

theorem frameBoundary : Statement (.frameBoundary) := by
  intro h; cases h

theorem heldRecord : Statement (.heldRecord) := by
  intro h; cases h

theorem recordSendEnd : Statement (.recordSendEnd) := by
  intro h; cases h

theorem writeClockControl port body : Statement (.writeClockControl port body) := by
  intro h; cases h

theorem clockFinish port body : Statement (.clockFinish port body) := by
  intro h; cases h

theorem writeBankedTable port table body : Statement (.writeBankedTable port table body) := by
  intro h; cases h

theorem writeShowSetup port body : Statement (.writeShowSetup port body) := by
  intro h; cases h

theorem releaseClaim port body : Statement (.releaseClaim port body) := by
  intro h; cases h

theorem copyBank port body : Statement (.copyBank port body) := by
  intro h; cases h

theorem exchange port body : Statement (.exchange port body) := by
  intro h; cases h

theorem cancelExchange port body : Statement (.cancelExchange port body) := by
  intro h; cases h

theorem portSelect port : Statement (.portSelect port) := by
  intro h; cases h

theorem read port part : Statement (.read port part) := by
  intro h; cases h

theorem write (port : Port) (body : List Byte) : Statement (.write port body) := by
  intro h
  match body, h with
  | id :: rest, h => exact .inr (.inr ⟨port, id, rest, rfl, by simpa [Instr.wellFormed] using h⟩)

theorem framing (port : Port) (cut : Cut) : Statement (.framing port cut) := by
  intro h
  refine .inl ⟨port, cut, rfl, ?_⟩
  simp only [Instr.wellFormed, Bool.and_eq_false_iff, decide_eq_false_iff_not] at h
  omega

theorem unknown (port : Port) (code : Byte) (body : List Byte) : Statement (.unknown port code body) := by
  intro h
  refine .inr (.inl ⟨port, code, body, rfl, ?_⟩)
  simpa [Instr.wellFormed] using h

theorem ack port body : Statement (.ack port body) := by
  intro h; cases h

theorem writeNoticeMask port body : Statement (.writeNoticeMask port body) := by
  intro h; cases h

theorem lampStepBoundary : Statement (.lampStepBoundary) := by
  intro h; cases h

theorem writeLampPatterns port body : Statement (.writeLampPatterns port body) := by
  intro h; cases h

theorem setLamp port body : Statement (.setLamp port body) := by
  intro h; cases h

end Sys2Proof.Laws.Checked
end

