-- ==== Sys2Proof/Laws/Rings.lean ====
section
/-! SUPPORT. The delay rings: a read after a write, and the canonical form that a write keeps (R61). -/

namespace Sys2Proof.Machine

open Sys2Proof

/-- What a ring memory reads as below the position it begins at. -/
theorem ringRead_below (m : Rings) (pos : Nat) (h : ∀ x ∈ m, pos < x.1) : ringRead m pos = zeroFrame := by
  induction m with
  | nil => rfl
  | cons x m ih =>
    obtain ⟨p, f⟩ := x
    have hp : pos < p := h _ (List.mem_cons_self ..)
    rw [ringRead, if_neg (by omega)]
    exact ih fun y hy => h y (List.mem_cons_of_mem _ hy)

/-- Every position of a sorted memory's tail lies above its head. -/
theorem rings_tail_above {p : Nat} {f : Frame} {m : Rings}
    (h : ((p, f) :: m).Pairwise (fun x y => x.1 < y.1)) : ∀ x ∈ m, p < x.1 :=
  fun x hx => (List.pairwise_cons.1 h).1 x hx

/-- A read of the written position gives the frame written. -/
theorem ringRead_ringWrite_same (m : Rings) (pos : Nat) (f : Frame) (h : m.Pairwise (fun x y => x.1 < y.1)) :
    ringRead (ringWrite m pos f) pos = f := by
  induction m with
  | nil => unfold ringWrite; split <;> simp_all [ringRead]
  | cons x m ih =>
    obtain ⟨p, g⟩ := x
    have above := rings_tail_above h
    have tail := (List.pairwise_cons.1 h).2
    unfold ringWrite
    split
    · split
      · next hp hf =>
        subst hf
        exact ringRead_below _ _ fun y hy => by
          rcases List.mem_cons.1 hy with rfl | hy
          · exact hp
          · exact Nat.lt_trans hp (above y hy)
      · simp [ringRead]
    · split
      · next h1 h2 =>
        subst h2
        split
        · next hf => subst hf; exact ringRead_below _ _ above
        · simp [ringRead]
      · next h1 h2 => rw [ringRead, if_neg (by omega)]; exact ih tail

/-- A write leaves every other position as it read. -/
theorem ringRead_ringWrite_ne (m : Rings) (pos q : Nat) (f : Frame) (h : m.Pairwise (fun x y => x.1 < y.1))
    (ne : q ≠ pos) : ringRead (ringWrite m pos f) q = ringRead m q := by
  induction m with
  | nil => unfold ringWrite; split <;> simp_all [ringRead, Ne.symm ne]
  | cons x m ih =>
    obtain ⟨p, g⟩ := x
    have tail := (List.pairwise_cons.1 h).2
    unfold ringWrite
    split
    · split
      · rfl
      · simp [ringRead, Ne.symm ne]
    · split
      · next h1 h2 =>
        subst h2
        split
        · simp [ringRead, Ne.symm ne]
        · simp [ringRead, Ne.symm ne]
      · simp only [ringRead]
        split
        · rfl
        · exact ih tail

/-- A write adds no position but its own. -/
theorem mem_ringWrite {m : Rings} {pos : Nat} {f : Frame} {x : Nat × Frame} (h : x ∈ ringWrite m pos f) :
    x ∈ m ∨ (x = (pos, f) ∧ f ≠ zeroFrame) := by
  induction m with
  | nil => unfold ringWrite at h; split at h <;> simp_all
  | cons y m ih =>
    obtain ⟨p, g⟩ := y
    unfold ringWrite at h
    split at h
    · split at h
      · exact .inl h
      · rcases List.mem_cons.1 h with rfl | h
        · exact .inr ⟨rfl, by assumption⟩
        · exact .inl h
    · split at h
      · split at h
        · exact .inl (List.mem_cons_of_mem _ h)
        · rcases List.mem_cons.1 h with rfl | h
          · exact .inr ⟨rfl, by assumption⟩
          · exact .inl (List.mem_cons_of_mem _ h)
      · rcases List.mem_cons.1 h with rfl | h
        · exact .inl (List.mem_cons_self ..)
        · rcases ih h with h | h
          · exact .inl (List.mem_cons_of_mem _ h)
          · exact .inr h

/-- A write at a position of the ring keeps the canonical form. -/
theorem ringWrite_wf {m : Rings} {pos : Nat} {f : Frame} (h : Rings.wf m) (hp : pos < Config.ringLength) :
    Rings.wf (ringWrite m pos f) := by
  refine ⟨?_, fun x hx => ?_⟩
  · obtain ⟨h, -⟩ := h
    induction m with
    | nil => unfold ringWrite; split <;> simp
    | cons y m ih =>
      obtain ⟨p, g⟩ := y
      have above := rings_tail_above h
      have tail := (List.pairwise_cons.1 h).2
      unfold ringWrite
      split
      · split
        · exact h
        · next hlt _ =>
          refine List.pairwise_cons.2 ⟨fun x hx => ?_, h⟩
          rcases List.mem_cons.1 hx with rfl | hx
          · exact hlt
          · exact Nat.lt_trans hlt (above x hx)
      · split
        · next h1 h2 =>
          subst h2
          split
          · exact tail
          · exact List.pairwise_cons.2 ⟨above, tail⟩
        · next h1 h2 =>
          refine List.pairwise_cons.2 ⟨fun x hx => ?_, ih tail⟩
          rcases mem_ringWrite hx with hx | ⟨rfl, -⟩
          · exact above x hx
          · show p < pos
            omega
  · rcases mem_ringWrite hx with hx | ⟨rfl, hf⟩
    · exact h.2 x hx
    · exact ⟨hf, hp⟩

/-- The rings of a reset are canonical. -/
theorem rings_reset_wf : Rings.wf TrimLine.reset.rings := ⟨List.Pairwise.nil, by simp [TrimLine.reset]⟩

/-- A ring position of an instant is a position of the ring. -/
theorem ringPos_lt (i : Stamp) : ringPos i < Config.ringLength := Nat.mod_lt _ (by decide)

end Sys2Proof.Machine
end

