-- ==== Sys2Proof/Laws/Timecode.lean ====
section
/-! SUPPORT. The timecode line (R196): how long a record is, and what driving the line does. -/

namespace Sys2Proof.Machine

open Sys2Proof

variable (x : TcOutput)

/-- R196: a byte is ten bits on the line. -/
theorem lineBits_length (b : Byte) : (lineBits b).length = 10 := rfl

/-- R196: a record is nine bytes. -/
theorem recordBytes_length (r : TcRecord) : (recordBytes r).length = 9 := rfl

/-- R196: a record is ninety bits. -/
theorem recordBits_length (r : TcRecord) : (recordBits r).length = recordLength := rfl

@[simp] theorem TcOutput.drive_sending : x.drive.sending = x.sending := rfl
@[simp] theorem TcOutput.drive_waiting : x.drive.waiting = x.waiting := rfl

/-- R196: the line idles high. -/
theorem TcOutput.drive_idle (h : x.sending = none) : x.drive = { x with line := true } := by
  simp [TcOutput.drive, h]

/-- R196: the line carries the record on it. -/
theorem TcOutput.drive_sent {y : Sending} (h : x.sending = some y) : x.drive = { x with line := y.level } := by
  simp [TcOutput.drive, h]

/-- R196: a record begins with its start bit. -/
theorem ShowSetup.send_level (u : ShowSetup) (r : TcRecord) : (u.send r).level = false := by
  cases h : u.rate <;>
    simp [Sending.level, ShowSetup.send, ShowSetup.recordPeriods, ShowSetup.bitPeriods, recordLength, h] <;> rfl

/-- R196: after its last bit a record leaves the line high. -/
theorem Sending.level_done (y : Sending) (h : y.left = 0) : y.level = true := by
  have hz : (y.left + y.bit - 1) / y.bit = 0 := by
    rcases Nat.eq_zero_or_pos y.bit with hb | hb
    · simp [hb]
    · exact Nat.div_eq_of_lt (by omega)
  have hn : recordLength - 0 = (recordBits y.record).length := by rw [recordBits_length]; rfl
  simp [Sending.level, hz, hn]

end Sys2Proof.Machine
end

