-- ==== Sys2Proof/Laws/Transactions.lean ====
section
/-! SUPPORT. What a transaction can do: the check byte, the ends of a transaction, a named command and a WRITE that are
refused and that are taken, and the bytes of a WRITE read back. -/

namespace Sys2Proof.Machine

open Sys2Proof

/-! ### Check bytes -/

theorem xorAll_snoc (l : List Byte) (b : Byte) : xorAll (l ++ [b]) = xorAll l ^^^ b := by
  simp [xorAll, List.foldl_append]

theorem checkOk_snoc (l : List Byte) (b : Byte) : checkOk (l ++ [b]) = (b == xorAll l) := by
  simp [checkOk]

theorem checkOk_withCheck (code : Byte) (operands : List Byte) :
    checkOk (code :: withCheck code operands) = true := by
  have h : code :: withCheck code operands = (code :: operands) ++ [xorAll (code :: operands)] := rfl
  rw [h, checkOk_snoc]; simp

theorem length_withCheck (code : Byte) (operands : List Byte) :
    (withCheck code operands).length = operands.length + 1 := by
  simp [withCheck]

theorem length_writeBody (id : Byte) (first count : Nat) (data : List Byte) :
    (writeBody id first count data).length = data.length + 3 := by
  simp [writeBody]

theorem checkOk_writeBody (id : Byte) (first count : Nat) (data : List Byte) :
    checkOk (0x02 :: id :: writeBody id first count data) = true := by
  have h : (0x02 : Byte) :: id :: writeBody id first count data =
      (0x02 :: id :: byte first :: byte count :: data) ++ [xorAll (0x02 :: id :: byte first :: byte count :: data)] :=
    rfl
  rw [h, checkOk_snoc]; simp

/-- A READ or WRITE with some entry bytes is taken apart as it was put together. -/
theorem writeRequest_writeBody (id : Byte) (first count : Nat) (data : List Byte) (hf : first < 256) (hc : count < 256)
    (hd : data ≠ []) :
    writeRequest (id :: writeBody id first count data) = some { id, first, count, data } := by
  obtain ⟨x, rest, rfl⟩ := List.exists_cons_of_ne_nil hd
  simp only [writeBody, writeRequest, List.cons_append, byte, BitVec.toNat_ofNat]
  rw [← List.cons_append, List.dropLast_concat]
  simp [Nat.mod_eq_of_lt, hf, hc]

/-! ### Refusals that leave no operand wrong -/

theorem commandRefused_withCheck (s : State) (q : Port) (right : Right) (code : Byte) (operands : List Byte)
    (h : s.allowed q right = true) :
    s.commandRefused q (operands.length + 2) right (code :: withCheck code operands) = none := by
  simp [State.commandRefused, checkOk_withCheck, length_withCheck, h]

theorem writeRefused_writeBody (s : State) (q : Port) (id : Byte) (first count n len : Nat) (data : List Byte)
    (hs : tableShape id = some (n, len)) (hc : 1 ≤ count) (hb : count ≤ 255) (hn : first + count ≤ n) (hf : first < 256)
    (hl : 1 ≤ len) (hd : data.length = count * len) (hr : s.allowed q (writeRight id) = true) :
    s.writeRefused q (id :: writeBody id first count data) = none := by
  have hd' : data ≠ [] := by
    rintro rfl
    have : 0 < count * len := Nat.mul_pos hc hl
    simp at hd; omega
  simp only [State.writeRefused, writeRequest_writeBody id first count data hf (by omega) hd', hs,
    checkOk_writeBody, hr, List.length_cons, length_writeBody]
  have h0 : count ≠ 0 := by omega
  have h1 : ¬ n < first + count := by omega
  simp [h0, h1]; omega

/-! ### The ends of a transaction -/

theorem deselect_refused (s : State) (q : Port) (r : ResultCode) (h : r ≠ .done) : RefusedWith s (s.deselect q r) q r := by
  refine ⟨⟨Touches.refl.deselect (by decide), ?_⟩, ?_⟩
  · intro k hk
    simp [State.deselect, h, State.raiseOn, State.setPort, PerPort.get_set, hk]
  · simp [State.deselect, h, State.raiseOn, State.setPort]

theorem deselect_done (s : State) (q : Port) : DoneOnly s (s.deselect q .done) q := by
  refine ⟨⟨Touches.refl.deselect (by decide), ?_⟩, ?_⟩
  · intro k hk
    simp [State.deselect, State.setPort, PerPort.get_set, hk]
  · simp [State.deselect, State.setPort]

theorem transact_refused {s : State} {q : Port} {n : Nat} {f : State → Option ResultCode} {o : State → Answer}
    {r : ResultCode} (h : f (s.opened q n) = some r) : s.transact q n f o = (s.opened q n).deselect q r := by
  simp only [State.transact, h]

theorem transact_owner {s : State} {q : Port} {n : Nat} {f : State → Option ResultCode} {o : State → Answer}
    {t : State} {r : ResultCode} (h : f (s.opened q n) = none) (ho : o (s.opened q n) = (t, r)) :
    s.transact q n f o = if r = .done then t.deselect q .done else (s.opened q n).deselect q r := by
  cases r <;> simp [State.transact, h, ho]

/-- A named command with its operands in order and the right is answered by its owner. -/
theorem command_owner {s t : State} {q : Port} {code : Byte} {length n : Nat} {right : Right} {operands : List Byte}
    {o : State → Answer} {r : ResultCode} (hl : length = operands.length + 2) (hn : n = operands.length + 1)
    (hr : (s.opened q n).allowed q right = true) (ho : o (s.opened q n) = (t, r)) :
    s.command q code length right (withCheck code operands) o =
      if r = .done then t.deselect q .done else (s.opened q n).deselect q r := by
  subst hl hn
  have hlen := length_withCheck code operands
  unfold State.command
  rw [hlen]
  exact transact_owner (commandRefused_withCheck _ q right code operands hr) ho

/-- A WRITE of a known table with its lengths in order and the right is answered by its owner. -/
theorem write_owner {s t : State} {q : Port} {id : Byte} {first count n len m : Nat} {data : List Byte}
    {o : WriteRequest → State → Answer} {r : ResultCode} (hs : tableShape id = some (n, len)) (hc : 1 ≤ count)
    (hb : count ≤ 255) (hn : first + count ≤ n) (hf : first < 256) (hl : 1 ≤ len) (hd : data.length = count * len)
    (hm : m = data.length + 4) (hr : (s.opened q m).allowed q (writeRight id) = true)
    (ho : o { id, first, count, data } (s.opened q m) = (t, r)) :
    s.writeCommand q (id :: writeBody id first count data) o =
      if r = .done then t.deselect q .done else (s.opened q m).deselect q r := by
  subst hm
  have hd' : data ≠ [] := by
    rintro rfl
    have : 0 < count * len := Nat.mul_pos hc hl
    simp at hd; omega
  have hlen : (id :: writeBody id first count data).length = data.length + 4 := by
    simp [length_writeBody]
  unfold State.writeCommand
  rw [hlen]
  refine transact_owner (writeRefused_writeBody _ q id first count n len data hs hc hb hn hf hl hd hr) ?_
  rw [writeRequest_writeBody id first count data hf (by omega) hd']
  exact ho

end Sys2Proof.Machine
end

