-- ==== Sys2Proof/Tests/Slice0.lean ====
section
/-! SUPPORT. The model's own tests: the smoke of WellFormed, the worked examples of the manual one step at a time, and for
every statement with hypotheses a state and operands that meet them. -/

set_option Elab.async false

namespace Sys2Proof.Tests

open Sys2Proof Sys2Proof.Machine

/-! ### Small states -/

/-- What a command leaves (no command faults or is refused). -/
def after (c : Instr) (s : State) : State :=
  match exec c s with
  | .next t => t
  | .fault _ => s
  | .refused _ => s

/-- A HEALTHY rig. -/
def up : Health := { Health.reset with state := .healthy }

/-- A FAILED rig. -/
def failed : Health := { Health.reset with state := .failed }

/-- A LOCKED link with an all-zero store at its nominal fill. -/
def lockedLink : LinkRx :=
  { LinkRx.reset with
    state := .locked, store := List.replicate 4 zeroFrame, lastRead := some zeroFrame, lastWritten := some zeroFrame }

/-- An ACQUIRING link. -/
def acquiring : LinkRx := { LinkRx.reset with state := .acquiring }

/-- A PLAYING record of song 3 (the first acceptance example of chapter 4). -/
def playing (stamp anchor : Stamp) : RigRecord :=
  { sequence := 41, transport := .playing, song := 3, sectionByte := 0, flags := ⟨false, false, false⟩,
    position := stamp - anchor, user := 0, stamp, anchor := some anchor, received := 1 }

/-- A parser that holds a record. -/
def parserOf (x : RigRecord) : Parser := { Parser.reset with record := some x, age := some 15, missing := false }

/-- The common state of chapter 12: Rig A on air, STEADY and AUTO, D_a = 210 ACCEPTED with delays 512 and 302, both rigs
HEALTHY, LOCKED and PLAYING song 3, the next history entry number 20, S = 1,500,015. -/
def live : State := State.endInstant
  { State.reset with
    clock := { ClockInput.reset with source := .locked, count := 1500015, sinceEdge := some 0 }
    links := ⟨lockedLink, lockedLink⟩
    parsers := ⟨parserOf (playing 1500000 520000), parserOf (playing 1499698 520210)⟩
    health := ⟨up, up⟩
    lines := ⟨{ delay := 512, rings := [] }, { delay := 302, rings := [] }⟩
    alignment := { Alignment.reset with state := .accepted, accepted := some 210, lastRequired := some 302 }
    arbiter :=
      { Arbiter.reset with
        state := .steady, mode := .auto, onAir := some .a, song := 3, eligible := true, nextSequence := 20 }
    mixer := { Mixer.reset with groups := Table.fill 8 { Group.reset with current := .a, target := .a } }
    showClock := { ShowClock.reset with state := .running, anchor := some 520512, target := some 520512, song := some 3 } }

/-- An entry of a changeover from Rig A to Rig B in flight. -/
def inFlight : HistoryEntry :=
  { sequence := 20, stamp := 1499535, timecode := none, fromRig := .a, toRig := .b, cause := .take, ending := .inFlight,
    failing := noKinds }

/-- That changeover, its eight fades at step `k` of 480. -/
def changing (k : Nat) : State :=
  { live with
    arbiter :=
      { live.arbiter with
        state := .changing, onAir := some .b, outgoing := some .a, history := [inFlight], nextSequence := 21 }
    mixer :=
      { Mixer.reset with
        groups := Table.fill 8
          { Group.reset with current := .a, target := .b, transition := some { src := .a, dst := .b, k, n := 480 } } } }

/-- The same, seven groups arrived and group 0 at its last step. -/
def lastGroup : State :=
  { changing 480 with
    mixer := { (changing 480).mixer with
      groups := (Table.fill 8 { Group.reset with current := .b, target := .b }).set 0 ((changing 480).mixer.groups.get 0) } }

/-- Rig A FAILED on air in BLIND, with the standby eligible. -/
def blind : State := State.endInstant
  { live with health := ⟨failed, up⟩, arbiter := { live.arbiter with state := .blind, mode := .manual } }

/-- STOPPED with both rigs HEALTHY. -/
def stopped : State := State.endInstant { State.reset with health := ⟨up, up⟩ }

/-- A claim. -/
def claimedBy (q : Port) (s : State) : State := { s with bank := { s.bank with claim := some q } }

/-- A pending exchange. -/
def pendingEx (x : Timing) (due : Bool) (s : State) : State :=
  { s with bank := { s.bank with exchange := some { timing := x, due } } }

/-- One command in the queue. -/
def queued (c : Instr) (s : State) : State := s.setPending [c]

/-! ### WellFormed -/

theorem test_framing_of_eight_bits_is_refused : (Instr.framing .a ⟨[], 8⟩).wellFormed = false := by decide
theorem test_framing_of_no_bits_is_refused : (Instr.framing .a ⟨[0x11], 0⟩).wellFormed = false := by decide
theorem test_unknown_of_a_defined_code_is_refused : (Instr.unknown .a 0x10 []).wellFormed = false := by decide
theorem test_write_of_a_table_with_its_own_row_is_refused : (Instr.write .a [16]).wellFormed = false := by decide
theorem test_others_are_well_formed :
    (Instr.framing .a ⟨[0x11], 7⟩).wellFormed = true ∧ (Instr.unknown .p 0x03 []).wellFormed = true ∧
      (Instr.write .p [4, 0, 1, 0, 5]).wellFormed = true := by decide

/-! ### Arithmetic of the worked examples -/

/-- Section 8.7. -/
theorem test_crc_of_single_bytes :
    crc16 [3] = 0xFD08 ∧ crc16 [4] = 0x7D19 ∧ crc16 [12] = 0xFD2A ∧ crc16 [13] = 0x7D2F := by decide +kernel
/-- Section 4.2: M across the wrap of S. -/
theorem test_offset_across_the_wrap : stampDiff 200 4294967000 = 496 := by decide +kernel
/-- Section 6.4 and the short fade of chapter 6. -/
theorem test_crossfade_figures :
    (mixSample 1 4 1000000 (-2000000)).toInt = 250000 ∧ (mixSample 2 4 1000000 (-2000000)).toInt = -500000 ∧
      (mixSample 1 3 3 4).toInt = 3 ∧ (mixSample 1 2 (-3) (-2)).toInt = -2 ∧ (mixSample 4 4 7 (-3)).toInt = -3 := by
  decide +kernel
/-- Chapter 7: a running song, and the wrap of the day. -/
theorem test_timecode_figures :
    timecodeAt 25 ⟨2, 0, 0, 0⟩ 353 = ⟨2, 0, 14, 3⟩ ∧ timecodeAt 25 ⟨23, 59, 59, 20⟩ 10 = ⟨0, 0, 0, 5⟩ ∧
      timecodeAt 25 ⟨23, 59, 59, 20⟩ 4 = ⟨23, 59, 59, 24⟩ := by decide +kernel
/-- Chapter 6: reversals at steps 2 of 4 and 120 of 480. -/
theorem test_reversal_steps :
    (({ Group.reset with current := .a, target := .b, transition := some ⟨.a, .b, 2, 4⟩ }).retarget 4 .a).transition =
      some ⟨.b, .a, 2, 4⟩ ∧
    (({ Group.reset with current := .a, target := .b, transition := some ⟨.a, .b, 120, 480⟩ }).retarget 480 .a).transition =
      some ⟨.b, .a, 360, 480⟩ := by decide +kernel

/-! ### One step of each command -/

/-- Chapter 1: a fill of 8 and an overrun, slip count 17 to 18. -/
def fullStore : State :=
  { live with
    links := { live.links with
      a := { lockedLink with
        store := List.replicate 8 zeroFrame, slips := 17, window := some { age := 2048, marked := Table.fill 4 true } } } }

/-- Four lanes of zeros. -/
def fourLanes : LaneFrames := Table.fill 4 (some (Table.fill 16 0))

/-- The same without lane 2. -/
def withoutLane2 : LaneFrames := fourLanes.set 2 none

theorem test_frame_arrival_overruns :
    ((after (.frameArrival 0 .a fourLanes) fullStore).links.a.store.length,
      (after (.frameArrival 0 .a fourLanes) fullStore).links.a.slips) = (8, 18) := by decide +kernel
/-- Chapter 1: a lane cable pulled; the first window without lane 2 is concealed, its errors go from 5 to 6. -/
def pulled (bad : Nat) (errors : BitVec 16) : State :=
  { live with
    links := { live.links with
      b := { lockedLink with
        badFrames := bad, laneErrors := (Table.fill 4 0).set 2 errors
        window := some { age := 12288, marked := (Table.fill 4 true).set 2 false } } } }
theorem test_first_window_without_lane :
    ((after (.frameArrival 0 .b withoutLane2) (pulled 0 5)).links.b.badFrames,
      (after (.frameArrival 0 .b withoutLane2) (pulled 0 5)).links.b.laneErrors.get 2,
      (after (.frameArrival 0 .b withoutLane2) (pulled 0 5)).links.b.store.length) = (1, 6, 5) := by decide +kernel
/-- The second takes the link back to ACQUIRING with an empty store and LINK present. -/
theorem test_lock_lost :
    let t := after (.lockLost .b) (after (.frameArrival 0 .b withoutLane2) (pulled 1 6))
    (t.links.b.state, t.links.b.laneErrors.get 2, t.links.b.store, t.parsers.b.record,
      t.health.b.flags.get FaultKind.link.idx) = (.acquiring, 7, [], none, true) := by decide +kernel
theorem test_lock_gained :
    let s : State := { live with links := { live.links with
      b := { acquiring with acquisition := 64, kept := List.replicate 4 zeroFrame } } }
    ((after (.lockGained .b) s).links.b.state, (after (.lockGained .b) s).links.b.store.length) = (.locked, 4) := by
  decide +kernel
theorem test_missing_frame_counts_every_lane :
    let s : State := { live with links := { live.links with b := { acquiring with sinceWindow := 2, acquisition := 9 } } }
    ((after (.missingFrame .b) s).links.b.laneErrors, (after (.missingFrame .b) s).links.b.acquisition) =
      (Table.fill 4 1, 0) := by decide +kernel
theorem test_link_absent :
    let s : State := { live with links := { live.links with b := { lockedLink with sinceMarker := 4096 } } }
    ((after (.linkAbsent .b) s).links.b.state, (after (.linkAbsent .b) s).health.b.state,
      (after (.linkAbsent .b) s).parsers.b.age) = (.absent, .offline, none) := by decide +kernel
theorem test_marker_on_absent_link :
    ((after (.laneFrameMarker 0 .a 2 (Table.fill 4 false)) stopped).links.a.state,
      (after (.laneFrameMarker 0 .a 2 (Table.fill 4 false)) stopped).links.a.window) =
      (.acquiring, some { age := 0, marked := (Table.fill 4 false).set 2 true }) := by decide +kernel

/-- R10: a missing frame that stands due arrives before a marker at the same moment. -/
theorem test_marker_after_missing_frame :
    let s : State := { live with links := { live.links with a := { lockedLink with sinceWindow := 2 } } }
    let t := after (.laneFrameMarker 0 .a 2 (Table.fill 4 false)) s
    (t.links.a.badFrames, t.links.a.laneErrors, t.links.a.sinceWindow) = (1, Table.fill 4 1, 0) := by decide +kernel

/-- R5: at half a nominal period the edge counts; one unit earlier it is a glitch. -/
theorem test_house_edge_at_half_a_period :
    (after (.houseClockEdge 4096) live).clock.count = 1500016 ∧
      (after (.houseClockEdge 4095) live).clock.count = 1500015 := by decide +kernel
/-- R9: a window closes by itself one and a half periods after it opened, the frames owed to it missing: a bad frame. -/
theorem test_window_closes_by_itself :
    let s : State := { live with links := { live.links with
      a := { lockedLink with window := some { age := 4000, marked := Table.fill 4 true } } } }
    let t := after .substitutedIncrement s
    (t.links.a.window, t.links.a.badFrames, t.links.a.laneErrors) = (none, 1, Table.fill 4 1) := by decide +kernel
theorem test_substituted_increment :
    ((after .substitutedIncrement live).clock.count, (after .substitutedIncrement live).clock.absorbing) =
      (1500016, true) := by decide +kernel
theorem test_holdover_increment : (after .holdoverIncrement stopped).clock.count = 1 := by decide +kernel
/-- R34: an age that lock gained set at the instant's own moment counts from the next instant on. -/
theorem test_age_set_at_the_instant :
    let s : State := { stopped with parsers := { stopped.parsers with a := Parser.reset.setAge (some 0) } }
    ((s.sampleInstant).parsers.a.age, (s.sampleInstant.sampleInstant).parsers.a.age) = (some 0, some 1) := by decide +kernel
/-- R6: four silent periods from the edge; the substituted instants before it are counted. -/
theorem test_clock_loss :
    (after .clockLoss live).clock.source = .holdover ∧ Noted (after .clockLoss live) .clockHoldover := by
  constructor
  · decide +kernel
  · intro q; cases q <;> decide +kernel
/-- HOLDOVER with 1023 good periods and a time since the last edge. -/
def holding (good since : Nat) (edge : Option Nat) : State :=
  { stopped with clock := { ClockInput.reset with returnCounter := good, sinceInstant := since, sinceEdge := edge } }
theorem test_return_counter_timeout :
    (after .returnCounterTimeout (holding 5 0 (some 32768))).clock.returnCounter = 0 := by decide +kernel
theorem test_good_house_period_counts :
    (after (.houseClockEdge 0) (holding 1022 0 (some 7168))).clock.returnCounter = 1023 ∧
      (after (.houseClockEdge 0) (holding 1022 0 (some 7167))).clock.returnCounter = 0 := by decide +kernel
theorem test_clock_return :
    ((after .clockReturn (holding 1024 0 (some 0))).clock.source,
      (after .clockReturn (holding 1024 0 (some 0))).clock.joining) = (.locked, true) := by decide +kernel

/-- Sixteen bytes of a beacon (R190) with the check that belongs to them. -/
def beacon (head : List Byte) : Judging :=
  let c := crc16 head
  { bytes := head ++ [c.extractLsb' 8 8, c.extractLsb' 0 8], stamp := 1500000 }

/-- Rig A's beacon of chapter 12: sequence 42, PLAYING song 3 at position 980,000, its flags as given. -/
def beaconA (flags sect : Byte) : Judging :=
  beacon [0x7E, 0x81, 1, 42, 2, 3, sect, flags, 0x00, 0x0E, 0xF4, 0x20, 0, 0]

/-- `live` with a complete beacon of Rig A. -/
def judged (j : Judging) : State :=
  { live with parsers := { live.parsers with a := { live.parsers.a with judging := some j } } }

/-- Section 12.2: ENGINE_FAULT on the on-air rig: the entry 20 AUTO_FAILURE A→B, the deferred delay (A, 512). -/
theorem test_beacon_with_engine_fault :
    let t := after (.beaconComplete .a []) (judged (beaconA 1 0))
    (t.health.a.state, t.arbiter.state, t.arbiter.onAir, t.alignment.deferred, t.arbiter.history.map (·.sequence)) =
      (.failed, .changing, some .b, some ⟨.a, 512⟩, [20]) := by decide +kernel
/-- R26: a wrong byte fails the check, the record stands. -/
theorem test_beacon_rejected :
    let j := beaconA 0 0
    let t := after (.beaconComplete .a []) (judged { j with bytes := j.bytes.set 6 9 })
    (t.parsers.a.rejected, t.parsers.a.valid, t.health.a.state) = (1, 0, .suspect) := by decide +kernel
/-- Chapter 2: the age passes 2P = 1024 at 1,025. -/
theorem test_missing_present :
    let s (n : Nat) : State := { live with parsers := { live.parsers with b := { live.parsers.b with age := some n } } }
    ((after (.missingPresent .b) (s 1025)).parsers.b.missing, (after (.missingPresent .b) (s 1024)).parsers.b.missing) =
      (true, false) := by decide +kernel

/-- Chapter 3: Rig B with SILENT at 23 of 24 and its flag set, at a tick end. -/
def silentTick : State :=
  { live with
    tickDue := true
    health := { live.health with
      b := { up with
        state := .suspect, flags := noKinds.set FaultKind.silent.idx true
        counters := (Table.fill 11 0).set FaultKind.silent.idx 23 } } }
theorem test_tick_end_qualifies_silent :
    ((after (.healthTickEnd .a) silentTick).health.b.counters.get FaultKind.silent.idx,
      (after (.healthTickEnd .a) silentTick).health.b.qualifying) = (24, oneKind .silent) := by decide +kernel
theorem test_qualification :
    let t := after (.qualification .b) (after (.healthTickEnd .a) silentTick)
    (t.health.b.state, t.health.b.failures, t.health.b.history, t.arbiter.eligible) =
      (.failed, 1, oneKind .silent, false) := by decide +kernel
theorem test_restore_complete :
    let s (n : Nat) : State :=
      { live with health := { live.health with b := { up with state := .recovering, restore := n } } }
    ((after (.restoreComplete .b) (s 960)).health.b.state, (after (.restoreComplete .b) (s 959)).health.b.state) =
      (.healthy, .recovering) := by decide +kernel
theorem test_clear_history :
    let s : State :=
      { live with health := { live.health with a := { up with failures := 2, history := oneKind .silent } } }
    ((after (.clearHistory .p (withCheck 0x31 [])) s).health.a.failures,
      (after (.clearHistory .p (withCheck 0x31 [])) s).health.a.history) = (0, noKinds) := by decide +kernel

/-- Chapter 4: the fourth agreeing pair at 210. -/
def confirming : State :=
  { live with
    lines := ⟨{ delay := 512, rings := [] }, { delay := 512, rings := [] }⟩
    alignment := { Alignment.reset with state := .confirming, candidate := some ⟨210, 4⟩, acceptDue := true } }
theorem test_first_acceptance :
    ((after .offsetAcceptance confirming).lines.b.delay, (after .offsetAcceptance confirming).lines.a.delay,
      (after .offsetAcceptance confirming).alignment.state) = (302, 512, .accepted) := by decide +kernel
/-- Chapter 4: accepted at 213 while CHANGING toward Rig B, whose delay is 302: deferred (A, 515). -/
theorem test_deferred_acceptance :
    let s : State :=
      { changing 3 with
        alignment := { Alignment.reset with state := .confirming, candidate := some ⟨213, 4⟩, acceptDue := true } }
    ((after .offsetAcceptance s).alignment.deferred, (after .offsetAcceptance s).lines.a.delay) =
      (some ⟨.a, 515⟩, 512) := by decide +kernel
/-- `live` with a changed alignment. -/
def aligned (x : Machine.Alignment) : State := { live with alignment := x }
theorem test_alignment_held :
    (after .alignmentHeld (aligned { live.alignment with pairless := 2 })).alignment.state = .held := by decide +kernel
theorem test_hold_limit :
    let t := after .holdLimit (aligned { live.alignment with state := .held, holdAge := 255, limitDue := true })
    (t.alignment.state, t.alignment.accepted, t.arbiter.eligible) = (.none, none, false) := by decide +kernel

theorem test_start :
    let t := after (.start .p (withCheck 0x10 [2])) stopped
    (t.arbiter.state, t.arbiter.onAir, t.lines.b.delay, (t.mixer.groups.get 7).target) =
      (.steady, some .b, 512, .b) := by decide +kernel
theorem test_stop_aborts :
    let t := after (.stop .p (withCheck 0x11 [])) (changing 100)
    (t.arbiter.state, t.arbiter.history.map (·.ending), (t.mixer.groups.get 0).target) =
      (.stopped, [.aborted], .silent) := by decide +kernel
/-- Chapter 5: a full list of entries 30 to 45 takes entry 46 and loses entry 30. -/
def fullHistory : State :=
  { live with
    arbiter := { live.arbiter with
      nextSequence := 46
      history := (List.range 16).map fun i => { inFlight with sequence := BitVec.ofNat 16 (30 + i), ending := .completed } } }
theorem test_take_with_full_history :
    ((after (.take .p (withCheck 0x12 [2, 0])) fullHistory).arbiter.history.map (·.sequence)) =
      (List.range 16).map fun i => BitVec.ofNat 16 (31 + i) := by decide +kernel
/-- R180, R182, R191: a TAKE of an ineligible standby from Port P in STEADY with Rig A on air: the next status byte is
the result NOT_ELIGIBLE (8), attention, engine running, and A. -/
theorem test_take_not_eligible :
    let s : State := { live with arbiter := { live.arbiter with eligible := false } }
    ((after (.portSelect .p) (after (.take .p [0x02, 0x00, 0x10]) s)).ports.p.dataOut) = [0x8D] := by decide +kernel
theorem test_set_mode_starts_late_failover :
    let t := after (.setMode .p (withCheck 0x13 [1])) blind
    (t.arbiter.state, t.arbiter.onAir, t.arbiter.history.map (·.cause)) =
      (.changing, some .b, [.lateFailover]) := by decide +kernel

theorem test_last_transition_completes_changeover :
    ((after (.transitionComplete 0) lastGroup).arbiter.state,
      (after (.transitionComplete 0) lastGroup).arbiter.history.map (·.ending)) = (.steady, [.completed]) := by
  decide +kernel
theorem test_set_group_pin_b :
    let t := after (.setGroup .p (withCheck 0x14 [5, 2, 0])) live
    ((t.mixer.groups.get 5).mode, (t.mixer.groups.get 5).transition) =
      (.pinB, some { src := .a, dst := .b, k := 0, n := 480 }) := by decide +kernel
/-- R118: PIN_A to PIN_B is refused with FORBIDDEN. -/
theorem test_set_group_pin_to_pin :
    let s := after (.setGroup .p (withCheck 0x14 [5, 1, 0])) live
    (after (.setGroup .p (withCheck 0x14 [5, 2, 0])) s).ports.p.lastResult = .forbidden := by decide +kernel
theorem test_write_group_state :
    ((after (.writeGroupState .p (writeBody 5 2 1 (3 :: 1 :: List.replicate 14 0))) live).mixer.groups.get 2).mode =
      .mute := by decide +kernel

/-- Chapter 7: a slew of one, at its thousandth sample period. -/
def slewing (n : Nat) : State :=
  { live with
    showClock := { live.showClock with state := .slewing, target := some 520513, slewCounter := some n } }
theorem test_slew_step :
    ((after .slewStep (slewing 1000)).showClock.anchor, (after .slewStep (slewing 1000)).showClock.state,
      (after .slewStep (slewing 999)).showClock.anchor) = (some 520513, .running, some 520512) := by decide +kernel
theorem test_clock_finish :
    let t := after (.clockFinish .p (withCheck 0x32 [])) (slewing 20)
    (t.showClock.anchor, t.showClock.state, t.showClock.jumped) = (some 520513, .running, true) := by decide +kernel
/-- FREEWHEEL at its limit, HELD at its cadence. -/
def wheeling (n : Nat) : State :=
  { live with
    showClock := { live.showClock with
      state := .freewheel, freewheelCounter := some n, lastEmitted := some (⟨2, 0, 14, 3⟩, noTcFlags), emitted := true } }
theorem test_freewheel_limit :
    let t := after .freewheelLimit (wheeling 50)
    (t.showClock.state, t.showClock.heldValue, t.tcOutput.sending.map (·.record.flags.held)) =
      (.held, some ⟨2, 0, 14, 3⟩, some true) := by decide +kernel
def held : State :=
  { live with
    showClock := { live.showClock with state := .held, anchor := none, heldValue := some ⟨2, 0, 14, 3⟩, cadenceDue := true } }
theorem test_held_record :
    (after .heldRecord held).tcOutput.sending.map (·.record.tc) = some ⟨2, 0, 14, 3⟩ := by decide +kernel
/-- Chapter 7: S = 1,200,000 at 25 fps, song 2 starting at 02:00:00:00, shows 02:00:14:03. -/
def boundary (sending : Option Sending) (waiting : Option TcRecord) : State :=
  { live with
    clock := { live.clock with count := 1200000 }
    bank := { live.bank with setup := { live.bank.setup with frameRate := .f25 } }
    showClock := { live.showClock with song := some 2, examine := true, lastFrame := .count 352 }
    tcOutput := { sending, waiting, line := true } }
theorem test_frame_boundary :
    (after .frameBoundary (boundary none none)).tcOutput.sending.map (fun x => (x.record.tc, x.record.song)) =
      some (⟨2, 0, 14, 3⟩, 2) := by decide +kernel
def aRecord : TcRecord := { tc := ⟨2, 0, 14, 2⟩, rate := 25, song := 2, flags := noTcFlags }
theorem test_record_send_end :
    (after .recordSendEnd { live with tcOutput :=
        { sending := some { record := aRecord, left := 0, bit := 2 }, waiting := none, line := true } }).tcOutput =
      { sending := none, waiting := none, line := true } := by decide +kernel
/-- R196: the first byte of a record, 0xE7, on the line at 48 kHz: a start bit, the data bits from the least significant, a
stop bit, then the start bit of the next byte. -/
theorem test_timecode_line :
    let x : TcOutput := { sending := some (ShowSetup.default.send aRecord), waiting := none, line := true }
    ((List.range 11).map fun n => (Nat.repeat TcOutput.tick (2 * n) x.drive).line) =
      [false, true, true, true, false, false, true, true, true, true, false] := by decide +kernel
/-- R136: a STOP and a START that come before the examination of their instant: the record comes at it. -/
theorem test_examination_after_start :
    let s : State := { live with showClock := { live.showClock with examine := true } }
    let t := after (.start .p (withCheck 0x10 [1])) (after (.stop .p (withCheck 0x11 [])) s)
    (t.tcOutput.sending.isSome, (after .frameBoundary t).tcOutput.sending.map (·.record.flags.songChanged)) =
      (false, some true) := by decide +kernel
/-- R34: a beacon period written while a complete beacon waits: MISSING is judged on the age that the beacon sets. -/
theorem test_new_period_before_a_beacon :
    let x : Parser := { parserOf (playing 1499000 520000) with age := some 600, judging := some (beaconA 0 0) }
    let s : State := { stopped with
      clock := { stopped.clock with count := 1500015 }, parsers := { stopped.parsers with a := x } }
    let write := writeBody 24 0 1 (writeSetup { ShowSetup.default with period := .p256 })
    let t := (after (.writeShowSetup .p write) s).closeInstant
    (t.bank.setup.period, t.parsers.a.age, t.parsers.a.missing, t.health.a.flags.get FaultKind.missing.idx) =
      (.p256, some 15, false, false) := by decide +kernel
/-- R139: 65,535, 50 and 7 are stored as 48,000, 100 and 7. -/
theorem test_write_clock_control :
    (after (.writeClockControl .p (writeBody 25 0 1 [0xFF, 0xFF, 0, 50, 7])) live).showClock.control =
      { slewWindow := 48000, slewRate := 100, freewheelLimit := 7 } := by decide +kernel

/-- Chapter 9: Port A copies, writes fade lengths of 9000, and is clamped to 4095; Port P's WRITE is CLAIMED. -/
def staged : State := after (.copyBank .a (withCheck 0x22 [])) live
def staged2 : State :=
  after (.writeBankedTable .a .group (writeBody 17 0 8 (List.flatten (List.replicate 8 [0x23, 0x28, 0])))) staged
theorem test_write_banked_table :
    (staged2.bank.claim, (staged2.bank.back.group.get 7).fadeLength, staged2.ports.a.lastResult) = (some .a, 4095, .done) := by
  decide +kernel
theorem test_write_banked_table_claimed :
    (after (.writeBankedTable .p .song (writeBody 18 8 1 [0, 0, 0, 0, 1])) staged2).ports.p.lastResult = .claimed := by
  decide +kernel
theorem test_copy_bank : (staged.bank.claim, staged.ports.a.lastResult) = (some .a, .done) := by decide +kernel
def requested : State := after (.exchange .a (withCheck 0x20 [1])) staged2
theorem test_exchange_at_song :
    (requested.bank.exchange, requested.bank.claim) = (some { timing := .atSong, due := false }, some .a) := by decide +kernel
theorem test_exchange_now :
    let t := after (.exchange .a (withCheck 0x20 [0])) staged2
    ((t.bank.front.group.get 0).fadeLength, (t.bank.back.group.get 0).fadeLength, t.bank.claim) = (4095, 480, none) := by
  decide +kernel
theorem test_cancel_exchange :
    let t := after (.cancelExchange .a (withCheck 0x21 [])) requested
    (t.bank.exchange, t.bank.claim) = (none, some .a) := by decide +kernel
theorem test_release_claim_breaks :
    let t := after (.releaseClaim .p (withCheck 0x23 [])) staged2
    (t.bank.claim, t.ports.a.notices.get Notice.claimLost.idx) = (none, true) := by decide +kernel
theorem test_write_show_setup :
    (after (.writeShowSetup .p (writeBody 24 0 1 (writeSetup { ShowSetup.default with frameRate := .f25 }))) stopped).bank.setup.frameRate =
      .f25 := by decide +kernel
theorem test_write_show_setup_in_steady :
    (after (.writeShowSetup .p (writeBody 24 0 1 (writeSetup ShowSetup.default))) live).ports.p.lastResult = .wrongState := by
  decide +kernel

/-- Section 10.2: a READ of the Arbiter view: the status byte, four zeros, DONE, sixteen bytes and their check. -/
theorem test_read_arbiter_view :
    let t := after (.read .p (.shift ([0x04, 0x00, 0x01, 0x04] ++ List.replicate 18 0))) live
    (t.ports.p.dataOut.length, t.ports.p.dataOut.take 6, xorAll (t.ports.p.dataOut.drop 5),
      (after (.read .p .deselect) t).ports.p.lastResult) = (23, [0x0D, 0, 0, 0, 0, 0], 0, .done) := by decide +kernel
theorem test_port_select : (after (.portSelect .a) stopped).ports.a.dataOut = [0x08] := by decide +kernel
theorem test_write_read_only : (after (.write .p (4 :: writeBody 4 0 1 (List.replicate 16 0))) live).ports.p.lastResult = .denied := by
  decide +kernel
/-- R175: the status byte, and 0x00 for each whole byte after the command byte of a cut WRITE. -/
theorem test_framing :
    let t := after (.framing .p ⟨[0x02, 17, 0], 3⟩) live
    (t.ports.p.lastResult, t.ports.p.dataOut) = (.framing, [0x0D, 0, 0]) := by decide +kernel
theorem test_unknown : (after (.unknown .p 0x03 [1, 2]) live).ports.p.lastResult = .unknown := by decide +kernel
theorem test_ack :
    let t := after (.ack .p (withCheck 0x30 [0x1F, 0xFF])) live
    (t.ports.p.notices, t.ports.a.notices.get Notice.engineRestarted.idx) = (noNotices, true) := by decide +kernel
theorem test_write_notice_mask :
    (after (.writeNoticeMask .b (writeBody 27 0 1 [0x10, 0x01])) live).ports.b.mask.list.map (fun x => if x then 1 else 0) =
      [1, 0, 0, 0, 0, 0, 0, 0, 0, 0, 0, 0, 1] := by decide +kernel

/-- Chapter 11: at the boundary after an automatic failover RIG A shows pattern 3, AIR B pattern 1. -/
def lampsDue (s : State) : State := { s with lamps := { s.lamps with due := true } }
theorem test_lamp_step_boundary :
    (after .lampStepBoundary (lampsDue live)).lamps.lit.list = [true, true, true, false, true, true] := by decide +kernel
theorem test_set_lamp :
    ((after (.setLamp .p (withCheck 0x33 [5, 7])) live).lamps.override.get 5,
      (after (.setLamp .p (withCheck 0x33 [6, 7])) live).ports.p.lastResult) = (some 7, .invalid) := by decide +kernel
theorem test_write_lamp_patterns :
    (after (.writeLampPatterns .p (writeBody 26 6 1 [0x80, 0x01])) live).lamps.patterns.get 6 = 0x8001 := by decide +kernel
theorem test_restart :
    let t := after (.restart .p (withCheck 0x3F [])) (changing 100)
    (t.device, t.arbiter.state, t.arbiter.mode, t.clock.count, t.lines.b.delay) =
      ({ cause := .restart, restarts := 1 }, .stopped, .auto, 1500015, 512) := by decide +kernel
theorem test_full_reset :
    ((after (.fullReset .resetLine) live).device, (after (.fullReset .resetLine) live).clock.count) =
      ({ cause := .line, restarts := 0 }, 0) := by decide +kernel

/-! ### States and operands that meet the hypotheses of the statements -/

theorem witness_StepRunsFrontCommand :
    (queued .slewStep live).pending = .slewStep :: [] ∧ live.pending = [] := by decide
theorem witness_EveryCommandAnswersNext :
    (∀ x, Instr.slewStep ≠ .fullReset x) ∧ ∀ q b, Instr.slewStep ≠ .restart q b := ⟨nofun, nofun⟩
theorem witness_CalmPartNeedsNoPreparation : State.reset.calm = true ∧ live.calm = true := by decide +kernel
theorem witness_StepKeepsArbiterLaw :
    (queued (.stop .p [0x11]) (changing 3)).arbiter.ok ∧ ∃ t, step (queued (.stop .p [0x11]) (changing 3)) = .next t :=
  ⟨by decide +kernel, _, rfl⟩
theorem witness_StepKeepsDelayLines :
    (queued .offsetAcceptance confirming).linesOk ∧ ∃ t, step (queued .offsetAcceptance confirming) = .next t :=
  ⟨by decide +kernel, _, rfl⟩
theorem witness_StepKeepsGroupLaw :
    (queued (.transitionComplete 0) lastGroup).groupsOk ∧ ∃ t, step (queued (.transitionComplete 0) lastGroup) = .next t :=
  ⟨by decide +kernel, _, rfl⟩
theorem witness_StepKeepsAlignmentLaw :
    (queued (.take .p [2, 0, 0x10]) live).aligned ∧ ∃ t, step (queued (.take .p [2, 0, 0x10]) live) = .next t :=
  ⟨by decide +kernel, _, rfl⟩
theorem witness_PortSelectFormsStatusByte : (live.ports.get .p).tx = .idle := by decide
theorem witness_CommandRefusalOrder :
    namedOf (.stop .p [0x11, 0]) = some ⟨.p, 0x11, 2, .panel, [0x11, 0]⟩ ∧ [0x11, (0 : Byte)].length + 1 ≠ 2 ∧
      namedOf (.stop .p [0x10]) = some ⟨.p, 0x11, 2, .panel, [0x10]⟩ ∧ checkOk [0x11, 0x10] = false ∧
      namedOf (.stop .a [0x11]) = some ⟨.a, 0x11, 2, .panel, [0x11]⟩ ∧ checkOk [0x11, 0x11] = true ∧
      (live.opened .a 1).allowed .a .panel = false := by decide +kernel
theorem witness_WriteRefusalOrder :
    tableWriteOf (.writeShowSetup .p [0, 1, 0]) = some (.p, [24, 0, 1, 0]) ∧
      tableWriteOf (.writeLampPatterns .p [0, 1]) = some (.p, [26, 0, 1]) ∧ [26, 0, (1 : Byte)].length < 4 ∧
      tableShape 26 = some (8, 2) ∧ (writeBody 26 7 1 [0, 0]).length + 1 + 1 = 5 + (1 : Byte).toNat * 2 ∧
      (writeBody 26 7 1 [0]).length + 1 + 1 ≠ 5 + (1 : Byte).toNat * 2 ∧
      checkOk (0x02 :: 26 :: writeBody 26 7 1 [0, 0]) = true ∧ checkOk [0x02, 26, 0, 1, 0, 0, 1] = false ∧
      tableShape 99 = none ∧ checkOk (0x02 :: 99 :: writeBody 99 0 1 [0]) = true ∧
      checkOk (0x02 :: 26 :: writeBody 26 0 0 [0]) = true ∧
      (live.opened .a 6).allowed .a (writeRight 26) = false ∧ (live.opened .p 6).allowed .p (writeRight 26) = true ∧
      8 < (8 : Byte).toNat + (1 : Byte).toNat ∧ checkOk (0x02 :: 26 :: writeBody 26 8 1 [0, 0]) = true := by decide +kernel
theorem witness_FramingUnknownAndReadOnlyWrite :
    1 ≤ 1 ∧ 7 ≤ 7 ∧ (live.prepare.ports.get .p).tx = .idle ∧
      ((after (.portSelect .p) live).prepare.ports.get .p).tx = .command ∧ (live.prepare.select .p).ports.p.tx = .command ∧
      [0x02, 17, (0 : Byte)].head? ≠ some 0x01 ∧ ([] : List Byte).head? ≠ some 0x01 ∧
      (0x03 : Byte) ∉ definedCodes ∧ (4 : Byte) ∉ writableIds ∧ tableShape 4 = some (1, 16) ∧
      (List.replicate 4080 (0 : Byte)).length = 255 * 16 := by decide +kernel
theorem witness_ReadStreamsEntries :
    tableShape 16 = some (64, 5) ∧ (1 : Byte) ≠ 0 ∧ (63 : Byte).toNat + (1 : Byte).toNat ≤ 64 ∧
      (live.prepare.ports.get .p).tx = .idle ∧
      (List.replicate 8 (0 : Byte)).length =
        ((List.range (1 : Byte).toNat).flatMap fun k => live.prepare.entryBytes .p 16 ((63 : Byte).toNat + k)).length + 2 + 1 ∧
      63 < 64 := by decide +kernel
theorem witness_ReadRefused :
    (live.prepare.ports.get .p).tx = .idle ∧ (0 : Byte) ≠ xorAll [0x01, 4, 0, 1] ∧ (4 : Byte) = xorAll [0x01, 4, 0, 1] ∧
      tableShape 99 = none ∧ (0x62 : Byte) = xorAll [0x01, 99, 0, 1] ^^^ 1 ∧ (5 : Byte) = xorAll [0x01, 4, 0, 0] ∧
      (5 : Byte) = xorAll [0x01, 4, 1, 1] ∧ tableShape 4 = some (1, 16) ∧ 1 < (1 : Byte).toNat + (1 : Byte).toNat := by
  decide +kernel
/-- A READ in progress. -/
def reading (bytes : List Byte) : State := after (.read .p (.shift bytes)) live
/-- Of a READ that streams its entries: the bytes of the copy and the entries left. -/
def streamed (s : State) : Option (Nat × Nat) :=
  match (s.prepare.ports.get .p).tx with
  | .streaming x => if x.phase = .entries then some (x.copy.length, x.left) else none
  | _ => none
/-- A READ of two entries of the BACK Group table, in a state whose BACK bank then has other fade lengths. -/
def readingOn (bytes : List Byte) : State :=
  let s := reading bytes
  { s with bank := { s.bank with back := { s.bank.back with group := Table.fill 8 { fadeLength := 7, policy := .fadeOut } } } }
theorem witness_ReadStreamsEntries_Parts :
    ((reading [17, 0]).prepare.ports.get .p).tx = .receiving [17, 0] ∧ ([17, 0] ++ [2] : List Byte).length < 4 ∧
      [17, 0] ++ [2, 0x12] = [17, 0, 2, (0x12 : Byte)] ∧ streamed (reading [17, 0, 2, 0x12, 0]) = some (0, 2) ∧
      streamed (reading [17, 0, 2, 0x12, 0, 0]) = some (2, 1) ∧ streamed (reading [17, 0, 2, 0x12, 0, 0, 0, 0]) = some (0, 1) ∧
      tableShape 17 = some (8, 3) ∧ 2 ≤ (2 : Byte).toNat ∧ (6 : Byte).toNat + (2 : Byte).toNat ≤ 8 ∧
      (live.prepare.ports.get .p).tx = .idle ∧ withCheck 0x01 [17, 0, 2] = [17, 0, 2, (0x12 : Byte)] ∧
      ((readingOn [17, 0, 2, 0x12, 0, 0]).prepare.ports.get .p).tx = ((reading [17, 0, 2, 0x12, 0, 0]).ports.get .p).tx ∧
      ((readingOn [17, 0, 2, 0x12, 0, 0, 0, 0]).prepare.ports.get .p).tx =
        ((reading [17, 0, 2, 0x12, 0, 0, 0, 0]).ports.get .p).tx := by decide +kernel
/-- R177: an entry whose first byte is shifted stands as it was copied; the next one is copied as it then stands. -/
theorem test_read_across_a_change :
    ((after (.read .p (.shift [0, 0, 0, 0, 0])) (readingOn [17, 0, 2, 0x12, 0, 0])).ports.get .p).dataOut.drop 6 =
      [1, 0xE0, 0, 0, 7, 1] := by decide +kernel
/-- R163, R188, R195: ids 16 and 48 by the editable bank and FRONT; the Arbiter view of chapter 10's example; each port's own
mask. -/
theorem test_views :
    let s : State :=
      { live with
        bank := { live.bank with back := { live.bank.back with route := live.bank.back.route.set 63 ⟨true, true, 1, 2, 7⟩ } }
        ports := { live.ports with a := { live.ports.a with mask := live.ports.a.mask.set 12 true } } }
    let x := fun (q : Port) (id : Byte) (i : Nat) => s.entryBytes q id i
    (x .p 16 63, x .p 48 63, x .a 27 0, x .p 27 0, (x .p 4 0).take 5, (x .p 3 0).take 7) =
      ([1, 1, 1, 2, 7], writeRoute (s.bank.front.route.get 63), [0x10, 0], [0, 0], [1, 1, 0, 1, 0], [2, 1, 2, 2, 0, 1, 46]) := by
  decide +kernel
theorem witness_ReadEnded :
    ((reading [4, 0, 1, 4]).prepare.ports.get .p).tx = .streaming (readAnswer 4 0 1 4) ∧ (readAnswer 4 0 1 4).result = .done ∧
      ((reading [4, 0, 1, 5]).prepare.ports.get .p).tx = .streaming (readAnswer 4 0 1 5) ∧
      (readAnswer 4 0 1 5).result ≠ .done ∧ ((reading [4, 0]).prepare.ports.get .p).tx = .receiving [4, 0] ∧
      ((after (.portSelect .p) live).prepare.ports.get .p).tx = .command := by decide +kernel
theorem witness_AckAndNoticeMask : 8192 ≤ nat16 0x20 0 ∧ nat16 0x1F 0xFF < 8192 := by decide
/-- STOPPED with Rig A FAILED. -/
def stoppedDown : State := State.endInstant { stopped with health := ⟨failed, up⟩ }
theorem witness_StartPutsRigOnAir :
    (stopped.opened .p 2).arbiter.state = .stopped ∧
      (stopped.opened .p 2).bank.front.valid (stopped.opened .p 2).bank.setup = true ∧
      ((stopped.opened .p 2).handed .a).down = false ∧ (stoppedDown.opened .p 2).arbiter.state = .stopped ∧
      ((stoppedDown.opened .p 2).handed .a).down = true ∧ (stoppedDown.opened .p 2).arbiter.mode = .manual ∧
      (stopped.opened .p 2).alignment.state = .none ∧
      ((stopped.opened .p 2).mixer.groups.get 0).mode = .follow := by decide +kernel
theorem witness_StopEndsShow :
    (stopped.opened .p 1).arbiter.state = .stopped ∧ (live.opened .p 1).arbiter.state ≠ .stopped ∧
      ((changing 3).opened .p 1).arbiter.state = .changing ∧
      (((changing 3).opened .p 1).mixer.groups.get 0).mode = .follow := by decide +kernel
theorem witness_TakeChangesOver :
    (live.opened .p 3).operates .p = true ∧ (live.opened .p 3).arbiter.state = .steady ∧
      (live.opened .p 3).arbiter.onAir = some Rig.b.other ∧ (live.opened .p 3).arbiter.eligible = true ∧
      ((live.opened .p 3).handed .b).down = false ∧ (live.opened .p 3).bank.exchange = none ∧
      (blind.opened .p 3).arbiter.state = .blind := by decide +kernel
/-- A state in MANUAL with Rig A FAILED, or Rig B. -/
def manualDown (s : State) (a b : Health) : State :=
  State.endInstant { s with health := ⟨a, b⟩, arbiter := { s.arbiter with mode := .manual, eligible := false } }
/-- R96, R93: a forced TAKE of a rig that is down: on air, and BLIND once the changeover completes. -/
theorem witness_TakeChangesOver_ForcedDown :
    let p := (manualDown live up failed).opened .p 3
    p.operates .p = true ∧ p.arbiter.state = .steady ∧ p.arbiter.onAir = some Rig.b.other ∧ p.arbiter.eligible = false ∧
      (p.handed .b).down = true ∧ p.arbiter.mode = .manual ∧ p.bank.exchange = none := by decide +kernel
theorem test_forced_take_of_a_down_rig :
    let t := after (.take .p (withCheck 0x12 [2, 1])) (manualDown live up failed)
    (t.ports.p.lastResult, t.arbiter.onAir, t.arbiter.history.map (·.cause)) = (.done, some .b, [.forcedTake]) := by
  decide +kernel
theorem witness_TakeReverses :
    ((changing 3).opened .p 3).operates .p = true ∧ ((changing 3).opened .p 3).arbiter.state = .changing ∧
      ((changing 3).opened .p 3).arbiter.onAir = some Rig.a.other ∧
      (((changing 3).opened .p 3).handed .a).down = false ∧ ((changing 3).opened .p 3).bank.exchange = none ∧
      ((manualDown (changing 3) failed up).opened .p 3).arbiter.state = .changing ∧
      (((manualDown (changing 3) failed up).opened .p 3).handed .a).down = true ∧
      ((manualDown (changing 3) failed up).opened .p 3).arbiter.mode = .manual := by decide +kernel
/-- R91: the entry in flight closes REVERSED. -/
theorem test_take_reverses :
    (after (.take .p (withCheck 0x12 [1, 0])) (changing 3)).arbiter.history.map (fun e => (e.cause, e.ending)) =
      [(.take, .reversed), (.reversal, .inFlight)] := by decide +kernel
/-- `live` with Rig B's delay at `n`, the alignment state as given. -/
def delayed (n : Nat) (x : AlignState) : State :=
  { live with lines := { live.lines with b := { live.lines.b with delay := n } }, alignment := { live.alignment with state := x } }
/-- R68, R75: the required delay of a changeover to Rig B is its delay plus 210: in reach up to 813. -/
theorem test_changeover_settles_standby :
    let x := fun (n : Nat) (a : AlignState) =>
      let t := after (.take .p (withCheck 0x12 [2, 0])) (delayed n a)
      (t.alignment.state, t.alignment.deferred, t.lines.a.delay)
    x 813 .accepted = (.accepted, some ⟨.a, 1023⟩, 512) ∧ x 814 .accepted = (.outOfReach, none, 512) ∧
      x 813 .outOfReach = (.accepted, some ⟨.a, 1023⟩, 512) ∧ x 814 .held = (.outOfReach, none, 512) ∧
      x 302 .none = (.none, none, 512) := by decide +kernel
/-- R88, R91, R106 to R109: the groups of a changeover take the incoming rig: a fresh fade, a reversal in flight, no fade from
step 0 and a fresh fade from step N. -/
theorem test_changeover_retargets_groups :
    let g := fun (r : Byte) (s : State) => ((after (.take .p (withCheck 0x12 [r, 0])) s).mixer.groups.get 0).transition
    (g 2 live, g 1 (changing 3), g 1 (changing 480)) =
      (some ⟨.a, .b, 0, 480⟩, some ⟨.b, .a, 477, 480⟩, some ⟨.b, .a, 0, 480⟩) ∧
    (after (.take .p (withCheck 0x12 [1, 0])) (changing 0)).arbiter.state = .steady := by decide +kernel
/-- The standby is not eligible. -/
def ineligible : State := { live with arbiter := { live.arbiter with eligible := false } }
/-- STOPPED with a FRONT bank that R168 calls invalid: its matcher 0 chains to nothing. -/
def invalidFront : State :=
  { stopped with bank := { stopped.bank with front := { Bank.default with
      matcher := Bank.default.matcher.set 0 { MatcherEntry.default with enable := true, chain := true } } } }
theorem witness_TakeAndStartOtherAnswers :
    rigOf 3 = none ∧ boolOf 2 = none ∧ rigOf 1 = some .a ∧ rigOf 2 = some .b ∧ boolOf 0 = some false ∧
      (stopped.opened .p 3).arbiter.state = .stopped ∧ (live.opened .p 3).arbiter.onAir = some .a ∧
      (ineligible.opened .p 3).operates .p = true ∧ (ineligible.opened .p 3).arbiter.state = .steady ∧
      (ineligible.opened .p 3).arbiter.onAir = some Rig.b.other ∧ (ineligible.opened .p 3).arbiter.eligible = false ∧
      (live.opened .p 2).arbiter.state ≠ .stopped ∧ (invalidFront.opened .p 2).arbiter.state = .stopped ∧
      (invalidFront.opened .p 2).bank.front.valid (invalidFront.opened .p 2).bank.setup = false := by decide +kernel
theorem witness_SetModeAndLateFailover :
    2 < (3 : Byte).toNat ∧ (2 : Byte).toNat ≤ 2 ∧ (live.opened .p 2).arbiter.state ≠ .blind ∧
      (live.opened .p 2).completionHolds = false ∧ (blind.opened .p 2).arbiter.state = .blind ∧
      (blind.opened .p 2).completionHolds = false ∧ (blind.opened .p 2).arbiter.mode ≠ .auto ∧
      (blind.opened .p 2).arbiter.onAir = some Rig.b.other ∧ (blind.opened .p 2).arbiter.inhibit = false ∧
      ((blind.opened .p 2).bank.front.song.get (songIndex (blind.opened .p 2).arbiter.song)).auto = true ∧
      (blind.opened .p 2).arbiter.eligible = true ∧ ((blind.opened .p 2).handed .b).down = false ∧
      (blind.opened .p 2).bank.exchange = none := by decide +kernel
/-- BLIND and inhibited in AUTO. -/
def inhibitedBlind : State := { blind with arbiter := { blind.arbiter with mode := .auto, inhibit := true } }
theorem witness_SetModeAndLateFailover_ClearInhibit :
    (inhibitedBlind.opened .p 2).arbiter.state = .blind ∧ (inhibitedBlind.opened .p 2).arbiter.mode = .auto ∧
      (inhibitedBlind.opened .p 2).arbiter.inhibit = true ∧ (inhibitedBlind.opened .p 2).arbiter.eligible = true ∧
      (inhibitedBlind.opened .p 2).arbiter.onAir = some Rig.b.other ∧
      ((inhibitedBlind.opened .p 2).handed .b).down = false ∧ (inhibitedBlind.opened .p 2).bank.exchange = none := by
  decide +kernel
/-- R98, R94: in BLIND MANUAL leaves all as it is, CLEAR_INHIBIT and AUTO start the late failover that they permit. -/
theorem test_set_mode_in_blind :
    let x := fun (s : State) (b : Byte) =>
      let t := after (.setMode .p (withCheck 0x13 [b])) s
      (t.arbiter.state, t.arbiter.onAir)
    (x inhibitedBlind 2, x inhibitedBlind 0, x inhibitedBlind 1, x blind 2) =
      ((.changing, some .b), (.blind, some .a), (.blind, some .a), (.blind, some .a)) := by decide +kernel
theorem witness_LastGroupCompletesChangeover :
    lastGroup.prepare.arbiter.state = .changing ∧ lastGroup.prepare.arbiter.onAir = some .b ∧
      (lastGroup.prepare.handed .b).down = false ∧ lastGroup.prepare.bank.exchange = none ∧
      (lastGroup.prepare.mixer.groups.get 0).mode = .follow ∧
      (lastGroup.prepare.mixer.groups.get 0).transition = some { src := .a, dst := .b, k := 480, n := 480 } ∧
      Source.ofRig .b = .b ∧
      (∀ j, j ≠ 0 → (lastGroup.prepare.mixer.groups.get j).mode = .follow →
        (lastGroup.prepare.mixer.groups.get j).transition = none ∧ (lastGroup.prepare.mixer.groups.get j).current = .b) ∧
      lastGroup.prepare.alignment.state = .accepted ∧ lastGroup.prepare.alignment.accepted = some 210 ∧
      inReach (lastGroup.prepare.requiredDelay 210) = true := by decide +kernel
/-- `lastGroup` with the incoming Rig B FAILED, in AUTO. -/
def lastGroupDown : State := State.endInstant { lastGroup with health := ⟨up, failed⟩ }
/-- R89, R93, R170: a completion into BLIND, in MANUAL and with a late failover, and with an exchange due. -/
theorem witness_LastGroupCompletesChangeover_Blind :
    let holds := fun s : State => s.arbiter.state = .changing ∧ s.arbiter.onAir = some .b ∧
      (s.mixer.groups.get 0).mode = .follow ∧ (s.mixer.groups.get 0).transition = some { src := .a, dst := .b, k := 480, n := 480 } ∧
      ∀ j, j ≠ 0 → (s.mixer.groups.get j).transition = none ∧ (s.mixer.groups.get j).current = .b
    holds (manualDown lastGroup up failed).prepare ∧ ((manualDown lastGroup up failed).prepare.handed .b).down = true ∧
      holds lastGroupDown.prepare ∧ (lastGroupDown.prepare.handed .b).down = true ∧ lastGroupDown.prepare.bank.exchange = none ∧
      holds (pendingEx .now true lastGroup).prepare ∧
      (pendingEx .now true lastGroup).prepare.bank.exchange = some { timing := .now, due := true } ∧
      holds (pendingEx .atSong true (manualDown lastGroup up failed)).prepare ∧
      holds (pendingEx .atSong false lastGroup).prepare := by decide +kernel
theorem test_completion_into_blind_and_exchange :
    let t := fun s : State => after (.transitionComplete 0) s
    let air := fun s : State => ((t s).arbiter.state, (t s).arbiter.onAir, (t s).bank.exchange.isSome)
    let noted := fun s : State => (t s).ports.p.notices.get Notice.blindEntered.idx
    air (manualDown lastGroup up failed) = (.blind, some .b, false) ∧ air lastGroupDown = (.changing, some .a, false) ∧
      air (pendingEx .now true lastGroup) = (.steady, some .b, false) ∧
      air (pendingEx .atSong false lastGroup) = (.steady, some .b, true) ∧
      air (pendingEx .atSong true (manualDown lastGroup up failed)) = (.blind, some .b, false) ∧
      noted (manualDown lastGroup up failed) = true ∧ noted lastGroupDown = true ∧ noted lastGroup = false ∧
      (t lastGroupDown).arbiter.history.map (·.cause) = [.take, .lateFailover] := by decide +kernel
/-- Group 5 pinned to Rig A. -/
def pinned : State := after (.setGroup .p (withCheck 0x14 [5, 1, 0])) live
/-- `live` with group 3 of fade length 0. -/
def noFade : State :=
  { live with bank := { live.bank with front := { live.bank.front with
      group := live.bank.front.group.set 3 { fadeLength := 0, policy := .stay } } } }
theorem witness_SetGroupChangesOneGroup :
    (live.opened .p 4).operates .p = true ∧ ((pinned.opened .p 4).mixer.groups.get 5).mode = .pinA ∧
      ((live.opened .p 4).mixer.groups.get 5).mode = .follow ∧ (live.opened .p 4).arbiter.state = .steady ∧
      ((live.opened .p 4).mixer.groups.get 5).transition = none ∧
      targetOf (live.opened .p 4).arbiter .stay .pinA = ((live.opened .p 4).mixer.groups.get 5).current ∧
      targetOf (live.opened .p 4).arbiter .stay .pinB ≠ ((live.opened .p 4).mixer.groups.get 5).current ∧
      ((live.opened .p 4).bank.front.group.get 5).fadeLength ≠ 0 ∧
      ((noFade.opened .p 4).bank.front.group.get 3).fadeLength = 0 ∧ 8 ≤ (8 : Byte).toNat ∧ 4 ≤ (4 : Byte).toNat ∧
      2 ≤ (2 : Byte).toNat := by decide +kernel
theorem witness_SetGroupChangesOneGroup_Changing :
    (lastGroup.opened .p 4).operates .p = true ∧ (lastGroup.opened .p 4).arbiter.state = .changing ∧
      (lastGroup.opened .p 4).arbiter.onAir ≠ none ∧ (lastGroup.opened .p 4).onAirDown = false ∧
      (lastGroup.opened .p 4).bank.exchange = none ∧ ((lastGroup.opened .p 4).mixer.groups.get 0).mode = .follow ∧
      (blind.opened .p 4).arbiter.state = .blind ∧ ArbiterAtRest (blind.opened .p 4) ∧
      ArbiterAtRest (live.opened .p 4) ∧ ChangeoverRuns (lastGroup.opened .p 4) := by decide +kernel
/-- R108, R109: SET_GROUP of a group in a fade: a wait, a reversal, no fade from step 0 and a fresh fade from step N. -/
theorem witness_SetGroupChangesOneGroup_InFlight :
    let g := fun (k : Nat) (m : Byte) => ((after (.setGroup .p (withCheck 0x14 [0, m, 0])) (changing k)).mixer.groups.get 0).transition
    ((changing 3).opened .p 4).operates .p = true ∧ ChangeoverRuns ((changing 3).opened .p 4) ∧
      (((changing 3).opened .p 4).mixer.groups.get 0).transition = some ⟨.a, .b, 3, 480⟩ ∧
      (g 3 3, g 3 1, g 0 1, g 480 1) = (some ⟨.a, .b, 3, 480⟩, some ⟨.b, .a, 477, 480⟩, none, some ⟨.b, .a, 0, 480⟩) := by
  decide +kernel
/-- R89: the last FOLLOW group in a fade leaves FOLLOW, and the changeover completes; another one's leaving completes
nothing. -/
theorem test_set_group_completes_changeover :
    let c := fun i : Byte => (after (.setGroup .p (withCheck 0x14 [i, 3, 0])) lastGroup).arbiter
    ((c 0).state, (c 0).history.map (·.ending), (c 1).state) = (.steady, [.completed], .changing) := by decide +kernel
/-- A group in a fade from A to B. -/
def fading (k : Nat) : Group :=
  { Group.reset with current := .a, target := .b, transition := some { src := .a, dst := .b, k, n := 4 } }
theorem witness_RetargetInFlight :
    (fading 3).transition = some ⟨.a, .b, 3, 4⟩ ∧ (fading 0).transition = some ⟨.a, .b, 0, 4⟩ ∧
      (Source.silent ≠ .b ∧ Source.silent ≠ .a) := by decide
theorem witness_WriteGroupStateIsBatched :
    (live.opened .p 20).operates .p = true ∧ 7 + 1 ≤ 8 ∧ (3 :: 1 :: List.replicate 14 (0 : Byte)).length = 16 * 1 ∧
      groupModeOf 3 = some .mute ∧ boolOf 1 = some true ∧ groupModeOf 4 = none ∧ boolOf 2 = none ∧
      groupModeOf 2 = some .pinB ∧ ((pinned.opened .p 20).mixer.groups.get 5).mode = .pinA ∧
      (live.opened .p 20).arbiter.state = .steady ∧ ArbiterAtRest (live.opened .p 20) ∧
      ArbiterAtRest (blind.opened .p 20) ∧ ChangeoverRuns (lastGroup.opened .p 20) ∧
      ChangeoverRuns ((changing 3).opened .p 20) ∧
      (((changing 3).opened .p 20).mixer.groups.get 0).transition = some ⟨.a, .b, 3, 480⟩ := by decide +kernel
/-- R89, R122: a batched write that takes the last FOLLOW group in a fade to MUTE completes the changeover. -/
theorem test_write_group_state_completes_changeover :
    let c := fun first =>
      (after (.writeGroupState .p (writeBody 5 first 1 (3 :: 0 :: List.replicate 14 (0 : Byte)))) lastGroup).arbiter.state
    (c 0, c 1) = (.steady, .changing) := by decide +kernel
/-- STEADY on Rig A with group 0 at the end of a fade to the source given. -/
def arrived (x : Source) : State :=
  let fade : Transition := { src := .silent, dst := x, k := 480, n := 480 }
  let g : Group := { Group.reset with current := .silent, target := .a, transition := some fade }
  { live with mixer := { live.mixer with groups := live.mixer.groups.set 0 g } }
theorem witness_TransitionCompletes :
    ((arrived .a).prepare.mixer.groups.get 0).transition = some ⟨.silent, .a, 480, 480⟩ ∧
      (arrived .a).prepare.arbiter.state = .steady ∧
      targetOf (arrived .a).prepare.arbiter .stay .follow = .a ∧
      ((arrived .b).prepare.mixer.groups.get 0).transition = some ⟨.silent, .b, 480, 480⟩ ∧
      ((arrived .b).prepare.bank.front.group.get 0).fadeLength ≠ 0 ∧ ArbiterAtRest (arrived .a).prepare ∧
      ArbiterAtRest blind.prepare ∧ ChangeoverRuns (changing 480).prepare ∧ ChangeoverRuns lastGroup.prepare ∧
      ((changing 480).prepare.mixer.groups.get 0).transition = some ⟨.a, .b, 480, 480⟩ ∧
      ((changing 3).prepare.mixer.groups.get 0).transition = some ⟨.a, .b, 3, 480⟩ ∧
      lastGroupDown.prepare.arbiter.state = .changing ∧ lastGroupDown.prepare.arbiter.onAir = some .b ∧
      (lastGroupDown.prepare.mixer.groups.get 0).transition = some ⟨.a, .b, 480, 480⟩ := by decide +kernel
/-- R89, R111: a transition that is not the last of its changeover completes and leaves it running. -/
theorem test_transition_completes_in_changing :
    let t := after (.transitionComplete 0) (changing 480)
    ((t.mixer.groups.get 0).current, t.arbiter.state, (after (.transitionComplete 0) lastGroup).arbiter.state) =
      (.b, .changing, .steady) := by decide +kernel
theorem witness_CrossfadeArithmetic :
    1 ≤ 4095 ∧ 4095 ≤ 4095 ∧ (live.bank.front.route.get 0).enable = true ∧
      ((changing 3).mixer.groups.get ((changing 3).bank.front.route.get 0).group).transition = some ⟨.a, .b, 3, 480⟩ ∧
      (live.mixer.groups.get (live.bank.front.route.get 0).group).transition = none := by decide +kernel
/-- A frame with one sample that is not 0. -/
def oneSample : Frame := zeroFrame.set 7 5
/-- A line whose rings have taken a frame at S, and its delay. -/
def delayedBy (n : Nat) : State :=
  { live with lines := ⟨{ delay := n, rings := ringWrite [] (ringPos live.clock.count) oneSample }, live.lines.b⟩ }
theorem witness_SampleInstantDelayAndStore :
    Rings.wf [] ∧ ((delayedBy 1023).lines.get .a).rings = ringWrite [] (ringPos (delayedBy 1023).clock.count) oneSample ∧
      ((delayedBy 1023).lines.get .a).delay ≤ 1023 ∧ ((delayedBy 0).lines.get .a).delay = 0 ∧
      (live.bank.front.route.get 63).enable = false ∧ acquiring.state ≠ .locked ∧ lockedLink.state = .locked ∧
      lockedLink.store = zeroFrame :: List.replicate 3 zeroFrame ∧ ({ lockedLink with store := [] } : LinkRx).store = [] := by
  decide +kernel
/-- `live` one sample instant before a tick end, Rig A's parser assembling, its link's next frame holding 300 in slot 2 and an
idle pilot word, entry 2 guarded. -/
def sampling (marks : Option (List GuardMarks)) : State :=
  { live with
    clock := { live.clock with count := 511 }
    links := { live.links with a := { lockedLink with store := [zeroFrame.set 2 300] } }
    parsers := { live.parsers with a := { live.parsers.a with assembly := .assembling [0x7E] 500 } }
    guards := { live.guards with a := { Guard.reset with void := false, marks } }
    bank := { live.bank with front := { live.bank.front with
      route := live.bank.front.route.set 2 { live.bank.front.route.get 2 with guardFlag := true, slotA := 2 } } } }
theorem witness_SampleInstantDelayAndStore_Blocks :
    let s := sampling none
    ((s.clock.count + 1).toNat % s.bank.setup.period.samples = 0) ∧ s.guards.a.void = false ∧ s.guards.a.marks = none ∧
      s.guards.b.void = true ∧ (s.links.get .a).state = .locked ∧ s.parsers.a.assembly ≠ .waiting ∧
      s.parsers.a.ageSet = false ∧ s.parsers.a.record = some (playing 1500000 520000) ∧
      (sampling (some [⟨300, false, true⟩])).guards.a.marks = some [⟨300, false, true⟩] ∧
      ((changing 3).mixer.groups.get 0).transition = some ⟨.a, .b, 3, 480⟩ := by decide +kernel
/-- `live` at an instant with a beacon that waits, a tick end, a lamp step and an examination due. -/
def closing : State :=
  { judged (beaconA 0 0) with
    tickDue := true, lamps := { live.lamps with due := true }, showClock := { live.showClock with examine := true } }
theorem witness_SampleInstantDelayAndStore_Closing :
    live.quiet = true ∧ { live with tickDue := true }.quiet = false ∧ (judged (beaconA 0 0)).quiet = false ∧
      { live with showClock := { live.showClock with examine := true, lastFrame := .count live.frameCount } }.quiet = true ∧
      { live with showClock := { live.showClock with examine := true } }.quiet = false := by decide +kernel
/-- R26, R39, R136, R197: closing an instant judges the beacon, ends the tick, makes the examination and takes the lamp step. -/
theorem test_close_instant :
    let t := closing.closeInstant
    (t.parsers.a.judging, t.parsers.a.valid, t.tickDue, t.lamps.due, t.showClock.examine, t.showClock.emitted) =
      (none, 1, false, false, false, true) := by decide +kernel
/-- R23, R34, R39, R43, R111: what a sample instant does to the parser, the Guard Monitor, the tick and a group. -/
theorem test_sample_instant_blocks :
    let t := (sampling none).instantBlocks
    let v := (sampling (some [⟨299, false, true⟩])).instantBlocks
    (t.1.tickDue, t.1.parsers.a.age, t.1.parsers.a.assembly, t.1.parsers.a.rejected, t.2.a, t.2.b) =
        (true, some 16, .waiting, 1, oneKind .corrupt, noKinds) ∧
      (t.1.guards.a.marks, t.1.guards.a.playing, v.1.guards.a.marks) =
        (some [⟨300, false, true⟩], true, some [⟨299, false, false⟩]) ∧
      ((changing 3).instantBlocks.1.mixer.groups.get 0).transition = some ⟨.a, .b, 4, 480⟩ := by decide +kernel
theorem witness_TimecodeCountsFrames : 0 < 24 ∧ 0 < 30 := by decide
theorem witness_HeldClockAndSendEnd :
    (wheeling 50).showClock.state = .freewheel ∧ (wheeling 50).showClock.freewheelCounter = some 50 ∧
      (wheeling 50).showClock.control.freewheelLimit ≤ 50 ∧ (wheeling 50).tcOutput.sending = none ∧
      held.prepare.showClock.state = .held ∧ held.prepare.showClock.heldValue = some ⟨2, 0, 14, 3⟩ ∧
      held.prepare.showClock.cadenceDue = true ∧ held.prepare.tcOutput.sending = none ∧
      (boundary (some ⟨aRecord, 0, 2⟩) (some aRecord)).prepare.tcOutput.sending = some ⟨aRecord, 0, 2⟩ ∧
      (boundary (some ⟨aRecord, 0, 2⟩) (some aRecord)).prepare.tcOutput.waiting = some aRecord ∧
      (boundary (some ⟨aRecord, 0, 2⟩) none).prepare.tcOutput.waiting = none ∧
      (boundary none none).tcOutput.sending = none ∧
      (89 - 0) * 2 < 180 - 1 ∧ 180 - 1 ≤ (90 - 0) * 2 ∧ (89 - 89) * 2 < 2 - 1 ∧ 2 - 1 ≤ (90 - 89) * 2 ∧
      10 * (8 : Fin 9).val + (9 : Fin 10).val = 89 ∧ (89 - 41) * 4 < 196 - 1 ∧ 196 - 1 ≤ (90 - 41) * 4 := by decide +kernel
/-- The same instant with the last frame count as given. -/
def boundaryAt (x : LastFrame) : State :=
  { boundary none none with showClock := { (boundary none none).showClock with lastFrame := x } }
/-- Before the song begins. -/
def prerolling : State :=
  { boundaryAt .absent with showClock := { (boundaryAt .absent).showClock with anchor := some 1300000 } }
theorem witness_FrameBoundaryRecord :
    (boundaryAt .absent).prepare.showClock.examine = true ∧ (boundaryAt .absent).prepare.showClock.state = .running ∧
      (boundaryAt (.count 353)).prepare.showClock.lastFrame = .count (boundaryAt (.count 353)).prepare.frameCount ∧
      (boundaryAt (.count 353)).prepare.elapsed = 679488 ∧ prerolling.prepare.elapsed < 0 ∧
      (boundary (some ⟨aRecord, 5, 2⟩) none).prepare.tcOutput.sending ≠ none ∧
      (boundary (some ⟨aRecord, 5, 2⟩) (some aRecord)).prepare.tcOutput.waiting = some aRecord := by decide +kernel
theorem witness_CorrectionAndSlewStep :
    live.showClock.anchor = some 520512 ∧ stampDiff 520512 520512 = 0 ∧
      (stampDiff 525312 520512).natAbs ≤ live.showClock.control.slewWindow ∧
      live.showClock.control.slewWindow < (stampDiff 525313 520512).natAbs ∧
      (slewing 1000).prepare.showClock.state = .slewing ∧ (slewing 1000).prepare.showClock.slewCounter = some 1000 ∧
      (slewing 1000).prepare.showClock.anchor = some 520512 ∧ (slewing 1000).prepare.showClock.target = some 520513 ∧
      (slewing 1000).prepare.showClock.control.slewRate ≤ 1000 := by decide +kernel
theorem witness_ClockFinishEndsSlew :
    (live.opened .p 1).showClock.state ≠ .slewing ∧ ((slewing 20).opened .p 1).showClock.state = .slewing := by
  decide +kernel
theorem witness_ClockControlIsClamped :
    ((slewing 20).opened .p 9).showClock.state = .slewing ∧ (live.opened .p 9).showClock.state ≠ .slewing := by
  decide +kernel
/-- `live` that awaits its phase join. -/
def joiningClock : State := { live with clock := { live.clock with joining := true } }
theorem witness_HouseClockEdge :
    (live.prepare.elapse 4096).clock.source = .locked ∧
      (live.prepare.elapse 4096).nominal ≤ 2 * (live.prepare.elapse 4096).clock.sinceInstant ∧
      (joiningClock.prepare.elapse 0).clock.joining = true ∧ (live.prepare.elapse 4095).clock.joining = false ∧
      2 * (live.prepare.elapse 4095).clock.sinceInstant < (live.prepare.elapse 4095).nominal ∧
      ((holding 5 0 (some 9216)).prepare.elapse 0).clock.source = .holdover ∧
      ((holding 5 0 (some 9216)).prepare.elapse 0).clock.sinceEdge = some 9216 ∧
      7 * ((holding 5 0 none).prepare.elapse 0).nominal ≤ 8 * 7168 ∧
      8 * 9216 ≤ 9 * ((holding 5 0 none).prepare.elapse 0).nominal ∧
      (holding 1024 0 none).clock.source = .holdover ∧ 1024 ≤ (holding 1024 0 none).clock.returnCounter ∧
      (holding 1024 4096 none).nominal ≤ 2 * (holding 1024 4096 none).clock.sinceInstant ∧
      2 * (holding 1024 4095 none).clock.sinceInstant < (holding 1024 4095 none).nominal := by decide +kernel
/-- LOCKED with the last edge as long ago as said. -/
def silence (since : Nat) : State := { live with clock := { live.clock with sinceInstant := 3, sinceEdge := some since } }
theorem witness_ReferenceIncrementsAndSilence :
    live.prepare.clock.source = .locked ∧ live.prepare.clock.sinceEdge = some 0 ∧
      live.prepare.clock.joining = false ∧
      live.prepare.nominal * 9 / 8 - live.prepare.clock.sinceInstant ≤ 4 * live.prepare.nominal - 0 ∧
      (silence 23555).prepare.clock.sinceEdge = some 23555 ∧
      (silence 23555).prepare.nominal * 9 / 8 - (silence 23555).prepare.clock.sinceInstant =
        4 * (silence 23555).prepare.nominal - 23555 ∧
      joiningClock.prepare.clock.joining = true ∧ joiningClock.prepare.clock.sinceEdge = some 0 ∧
      joiningClock.prepare.nominal * 3 / 2 - joiningClock.prepare.clock.sinceInstant ≤ 4 * joiningClock.prepare.nominal - 0 ∧
      stopped.prepare.clock.source = .holdover ∧ (silence 32767).prepare.clock.sinceEdge = some 32767 ∧
      (silence 32768).prepare.clock.source = .locked ∧
      (silence 32768).prepare.clock.sinceEdge = some 32768 ∧ 4 * (silence 32768).prepare.nominal ≤ 32768 ∧
      (holding 1 0 (some 32768)).prepare.clock.returnCounter ≠ 0 ∧
      (holding 1 0 (some 32768)).prepare.clock.sinceEdge = some 32768 := by decide +kernel
/-- Link A with an open window. -/
def windowed (l : LinkRx) (age : Nat) (marked : Table 4 Bool) : State :=
  { live with links := { live.links with a := { l with window := some { age, marked } } } }
theorem witness_LaneMarkerAndWindow :
    let dues := fun s : State => (s.prepare.elapse 0).linkDues .a
    let w := windowed lockedLink 12288 ((Table.fill 4 false).set 0 true)
    ((dues live).links.get .a).window = none ∧ ((dues live).links.get .a).state ≠ .absent ∧
      ((dues stopped).links.get .a).state = .absent ∧
      ((dues w).links.get .a).window = some { age := 12288, marked := (Table.fill 4 false).set 0 true } ∧
      2 * 12288 ≤ 3 * (dues w).nominal ∧ ((dues w).links.get .a).state ≠ .absent ∧
      ((Table.fill 4 false).set 0 true).get 0 = true ∧ ((Table.fill 4 false).set 0 true).get 3 = false := by decide +kernel
theorem witness_LaneMarkerAndWindow_SecondMarker :
    let link := fun l : LinkRx => ((windowed l 12288 (Table.fill 4 true)).prepare.elapse 0 |>.linkDues .a).links.get .a
    (link acquiring).state = .acquiring ∧ (link lockedLink).state = .locked ∧ (link lockedLink).badFrames = 0 ∧
      (link lockedLink).store.length < 8 ∧ (link lockedLink).lastWritten = some zeroFrame ∧
      (link { lockedLink with badFrames := 1 }).badFrames ≠ 0 ∧ (link lockedLink).window.isSome = true := by decide +kernel
theorem witness_LaneMarkerAndWindow_Absent :
    let s := windowed LinkRx.reset 12288 ((Table.fill 4 false).set 0 true)
    let m := (s.prepare.elapse 0).linkDues .a
    (m.links.get .a).window = some { age := 12288, marked := (Table.fill 4 false).set 0 true } ∧
      (m.links.get .a).state = .absent ∧ 2 * 12288 ≤ 3 * m.nominal := by decide +kernel
/-- R9, R12: a second marker on a lane closes the window bad, one frame is concealed, and the next window opens. -/
theorem test_second_marker_closes_bad :
    let t := after (.laneFrameMarker 0 .a 2 (Table.fill 4 true)) (windowed lockedLink 12288 (Table.fill 4 true))
    (t.links.a.badFrames, t.links.a.store.length, t.links.a.laneErrors.get 2, t.links.a.window.map (·.age)) =
      (1, 5, 1, some 0) := by decide +kernel
theorem witness_GoodFrameArrival :
    (((windowed lockedLink 2048 (Table.fill 4 true)).prepare.elapse 0).links.get .a).window =
        some { age := 2048, marked := Table.fill 4 true } ∧
      ((windowed lockedLink 2048 (Table.fill 4 true)).prepare.elapse 0).nominal ≤ 4 * 2048 ∧
      (∀ k : Fin 4, (Table.fill 4 true).get k = true ∧ (fourLanes.get k).isSome = true) ∧
      (((windowed acquiring 2048 (Table.fill 4 true)).prepare.elapse 0).links.get .a).state = .acquiring ∧
      (((windowed lockedLink 2048 (Table.fill 4 true)).prepare.elapse 0).links.get .a).store.length < 8 ∧
      8 ≤ ((fullStore.prepare.elapse 0).links.get .a).store.length ∧ (fourLanes.get 3).isSome = true := by decide +kernel
/-- Link A two sample instants after its last window, with the bad frame count given. -/
def gone (l : LinkRx) (bad : Nat) : State :=
  { live with links := { live.links with a := { l with sinceWindow := 2, badFrames := bad } } }
theorem witness_BadFrames :
    ((gone lockedLink 0).prepare.links.get .a).state ≠ .absent ∧ 2 ≤ ((gone lockedLink 0).prepare.links.get .a).sinceWindow ∧
      ((gone lockedLink 0).prepare.links.get .a).badFrames = 0 ∧
      ((gone lockedLink 0).prepare.links.get .a).lastWritten = some zeroFrame ∧
      ((gone lockedLink 1).prepare.links.get .a).badFrames ≠ 0 ∧ ((gone acquiring 0).prepare.links.get .a).state = .acquiring ∧
      (((pulled 1 6).prepare.elapse 0).links.get .b).window = some { age := 12288, marked := (Table.fill 4 true).set 2 false } ∧
      ((pulled 1 6).prepare.elapse 0).nominal ≤ 4 * 12288 ∧ 2 * 12288 ≤ 3 * ((pulled 1 6).prepare.elapse 0).nominal ∧
      ((Table.fill 4 true).set 2 false).get 2 = false ∧ withoutLane2.get 2 = none ∧ noLanes.get 2 = none ∧
      (((windowed lockedLink 2047 (Table.fill 4 true)).prepare.elapse 0).links.get .a).window =
        some { age := 2047, marked := Table.fill 4 true } ∧
      4 * 2047 < ((windowed lockedLink 2047 (Table.fill 4 true)).prepare.elapse 0).nominal ∧
      (((windowed lockedLink 12287 (Table.fill 4 true)).prepare.elapse 0).links.get .a).window =
        some { age := 12287, marked := Table.fill 4 true } ∧
      2 * 12287 < 3 * ((windowed lockedLink 12287 (Table.fill 4 true)).prepare.elapse 0).nominal ∧
      (Table.fill 4 true).get 2 = true ∧ ((live.prepare.elapse 0).links.get .a).window = none := by decide +kernel
/-- R9: a lane frame that is complete only after the limit of one and a half periods counts as not delivered. -/
theorem test_lane_frame_after_the_limit :
    let t := after (.frameArrival 600 .a fourLanes) (windowed lockedLink 12000 (Table.fill 4 true))
    (t.links.a.window, t.links.a.badFrames, t.links.a.laneErrors) = (none, 1, Table.fill 4 1) := by decide +kernel
/-- Link A at the 64th good frame, and at the second bad one. -/
def gaining : State := { live with links := { live.links with a := { acquiring with acquisition := 64 } } }
def losing : State := { live with links := { live.links with a := { lockedLink with badFrames := 2 } } }
theorem witness_LockGainedAndLost :
    (gaining.links.get .a).state = .acquiring ∧ 64 ≤ (gaining.links.get .a).acquisition ∧
      (losing.links.get .a).state = .locked ∧ 2 ≤ (losing.links.get .a).badFrames ∧
      (losing.parsers.get .a).judging = none ∧ losing.bank.exchange = none ∧ (losing.health.get .a).state ≠ .offline := by
  decide +kernel
/-- Link A at 4096 sample instants without a marker. -/
def silentLink : State := { live with links := { live.links with a := { lockedLink with sinceMarker := 4096 } } }
theorem witness_LinkAbsentTakesRigOffline :
    (silentLink.prepare.links.get .a).state ≠ .absent ∧ 4096 ≤ (silentLink.prepare.links.get .a).sinceMarker ∧
      (silentLink.prepare.parsers.get .a).judging = none ∧ silentLink.prepare.bank.exchange = none := by decide +kernel
theorem witness_BeaconRejected :
    ((judged { beaconA 0 0 with bytes := (beaconA 0 0).bytes.set 6 9 }).prepare.parsers.get .a).judging =
        some { beaconA 0 0 with bytes := (beaconA 0 0).bytes.set 6 9 } ∧
      crc16 (((beaconA 0 0).bytes.set 6 9).take 14) ≠
        beaconByte (beaconA 0 0).bytes 14 ++ beaconByte (beaconA 0 0).bytes 15 ∧
      beaconByte ((beaconA 0 0).bytes.set 0 0) 0 ≠ 0x7E ∧ beaconByte ((beaconA 0 0).bytes.set 1 0) 1 ≠ 0x81 ∧
      2 < (beaconByte ((beaconA 0 0).bytes.set 4 3) 4).toNat ∧
      beaconByte (beacon [0x7E, 0x81, 2, 42, 2, 3, 0, 0, 0, 0, 0, 0, 0, 0]).bytes 2 ≠ rigByte .a ∧
      ((judged (beaconA 0 0)).prepare.health.get .a).state ≠ .offline := by decide +kernel
theorem witness_BeaconAccepted :
    ((judged (beaconA 0 0)).prepare.parsers.get .a).judging = some (beaconA 0 0) ∧ integrityOk (beaconA 0 0).bytes = true ∧
      beaconByte (beaconA 0 0).bytes 2 = rigByte .a ∧ beaconByte (beaconA 0 0).bytes 4 = 2 := by decide +kernel
/-- The part as a beacon of Rig A finds it after `old`, an AT_SONG exchange pending. -/
def before (old : RigRecord) (j : Judging) : State :=
  { pendingEx .atSong false (judged j) with
    parsers := { live.parsers with a := { parserOf old with judging := some j } } }
/-- A beacon of Rig A in song 4, otherwise as `beaconA`, with a handover request. -/
def songFour : Judging := beacon [0x7E, 0x81, 1, 42, 2, 4, 0, 4, 0x00, 0x0E, 0xF4, 0x20, 0, 0]
/-- R30 to R33, R142: what the beacon accepted event carries: nothing for the next beacon of the song in place, SEQUENCE and
POSITION, a boundary with a handover request. -/
theorem witness_BeaconAccepted_Acceptance :
    let old := playing 1499985 520000
    let x := (before old (beaconA 0 0)).acceptance .a (beaconA 0 0)
    let y := (before { old with sequence := 40, position := 978000 } (beaconA 0 0)).acceptance .a (beaconA 0 0)
    let z := (before old songFour).acceptance .a songFour
    ((before old songFour).prepare.parsers.get .a).judging = some songFour ∧ integrityOk songFour.bytes = true ∧
      beaconByte songFour.bytes 2 = rigByte .a ∧
      (x.kinds, x.boundary, x.handover, x.rebases) = (noKinds, false, false, false) ∧
      y.kinds = KindSet.union (oneKind .sequence) (oneKind .position) ∧
      (z.kinds, z.boundary, z.handover, z.rebases) = (noKinds, true, true, true) ∧
      readerOrder [.matchers, .health] =
        [.matchers, .health, .guardMonitor, .otherParser, .alignment, .arbiter, .bankStore, .groupMixer, .showClock] := by
  decide +kernel
/-- A record of song 3 with a transport that is not PLAYING. -/
def resting (x : Transport) (song : Byte) : RigRecord := { playing 1500000 520000 with transport := x, song, anchor := none }
/-- `live` with Rig B's record at rest: DIVERGED from Rig A's. -/
def apart (a : Health) : State := State.endInstant
  { live with parsers := { live.parsers with b := parserOf (resting .stopped 3) }, health := { live.health with a } }
theorem witness_BeaconAccepted_Diverged :
    (apart up).parsers.b.record = some (resting .stopped 3) ∧ (resting .stopped 3).transport ≠ .playing ∧
      (apart up).parsers.a.record = some (playing 1500000 520000) ∧ (playing 1500000 520000).transport = .playing ∧
      (apart up).handed Rig.b.other ≠ .failed ∧ (apart up).handed Rig.b.other ≠ .offline ∧
      ((apart up).parsers.get .b).diverged = false ∧ ((apart up).health.get .b).state ≠ .offline ∧
      (apart failed).handed Rig.b.other = .failed ∧
      (((apart up).reDiverged .b).health.b.state, ((apart failed).reDiverged .b).health.b.state) = (.suspect, .healthy) := by
  decide +kernel
/-- An acceptance from Rig A of a record. -/
def taken (x : RigRecord) : Acceptance :=
  { rig := .a, bytes := (beaconA 0 0).bytes, new := x, boundary := false, handover := false, kinds := noKinds,
    rebases := false }
/-- Rig A OFFLINE with a record, SELF present as given. -/
def offline (self : Bool) : State := State.endInstant
  { live with
    health := { live.health with a := Health.reset }
    parsers := { live.parsers with a := { live.parsers.a with selfFault := self } } }
theorem witness_BeaconAccepted_HealthReads :
    ((offline true).health.get (taken (playing 1500000 520000)).rig).state = .offline ∧ (offline true).bank.exchange = none ∧
      (∀ i, ¬ (((offline false).conditions .a).get i = true ∧ ((offline false).bank.front.fault.get i).enabled = true)) ∧
      (((offline true).conditions .a).get FaultKind.self.idx = true ∧
        ((offline true).bank.front.fault.get FaultKind.self.idx).enabled = true) ∧
      (offline true).bank.front.monitor.restoreTime ≠ 0 ∧ ((offline true).health.get .a).qualifying = noKinds ∧
      (offline true).instantHealth.unguarded = none ∧ (offline true).evidenceDue .a = false ∧
      (offline true).exchangeDue = false ∧
      (offline true).handed .a = .offline ∧ (offline true).handed Rig.a.other = ((offline true).health.get Rig.a.other).state := by
  decide +kernel
theorem witness_PilotWordAssembly :
    BitVec.extractLsb' 16 8 (0xA51200 : Sample) = 0xA5 ∧ BitVec.extractLsb' 16 8 (0x5A1200 : Sample) = 0x5A ∧
      BitVec.extractLsb' 16 8 (0x001200 : Sample) ≠ 0xA5 ∧ Parser.reset.assembly = .waiting ∧
      (List.replicate 15 (0 : Byte)).length = 15 ∧ (List.replicate 14 (0 : Byte)).length < 15 := by decide
/-- Rig A's beacon age. -/
def aged (n : Nat) : State := { live with parsers := { live.parsers with a := { live.parsers.a with age := some n } } }
/-- The same with a freewheel limit of 0. -/
def noWheel (n : Nat) : State :=
  let c := live.showClock
  { aged n with showClock := { c with control := { c.control with freewheelLimit := 0 } } }
/-- R135: at a limit of 0 the clock passes through FREEWHEEL to HELD in one transition. -/
theorem test_freewheel_limit_of_zero :
    let t := after (.missingPresent .a) (noWheel 1025)
    (t.showClock.state, t.tcOutput.sending.map (·.record.flags.held)) = (.held, some true) := by decide +kernel
theorem witness_MissingBecomesPresent :
    ((aged 1025).prepare.parsers.get .a).judging = none ∧ ((aged 1025).prepare.parsers.get .a).missing = false ∧
      ((aged 1025).prepare.parsers.get .a).age = some 1025 ∧ 2 * (aged 1025).prepare.bank.setup.period.samples < 1025 ∧
      ((aged 1025).prepare.health.get .a).state ≠ .offline ∧ (aged 1025).prepare.arbiter.onAir = some .a ∧
      (aged 1025).prepare.arbiter.state ≠ .blind ∧ (aged 1025).prepare.completionHolds = false ∧
      (aged 1025).prepare.windowDue .a = false ∧ (aged 1025).prepare.showClock.control.freewheelLimit ≠ 0 ∧
      (noWheel 1025).prepare.showClock.control.freewheelLimit = 0 ∧
      ((aged 1025).prepare.bank.front.fault.get FaultKind.missing.idx).delay ≠ 0 ∧
      ((aged 1025).prepare.health.get .a).state = .healthy ∧ (aged 1025).prepare.showClock.state = .running ∧
      ((after (.missingPresent .a) (aged 1025)).showClock.state,
        (after (.missingPresent .a) (aged 1025)).showClock.freewheelCounter) = (.freewheel, some 0) := by decide +kernel
/-- `live` with the Show Clock IDLE. -/
def idleClock : State := { live with showClock := ShowClock.reset }
theorem witness_MissingBecomesPresent_ClockReads :
    live.arbiter.onAir ≠ some (Rig.b) ∧ live.arbiter.onAir = some (taken (playing 1500000 520000)).rig ∧
      live.showClock.state = .running ∧ live.showClock.song = some 3 ∧ held.showClock.state = .held ∧
      held.showClock.song = some 3 ∧ idleClock.showClock.state = .idle ∧ idleClock.arbiter.state ≠ .stopped ∧
      (taken (playing 1500000 520000)).new.transport = .playing ∧ (taken (resting .cued 4)).new.song ≠ 3 ∧
      (taken (resting .cued 3)).new.transport = .cued ∧ (taken (resting .stopped 3)).new.transport = .stopped := by
  decide +kernel
/-- R127, R128: while STOPPED the clock stays IDLE; a PLAYING beacon of the clock's own song makes the correction. -/
theorem witness_MissingBecomesPresent_Correction :
    let x := taken (playing 1500000 520010)
    let rest : State := { idleClock with arbiter := { live.arbiter with state := .stopped } }
    rest.arbiter.onAir = some x.rig ∧ rest.arbiter.state = .stopped ∧ rest.showClock.state = .idle ∧
      live.arbiter.onAir = some x.rig ∧ x.new.song = 3 ∧ live.showClock.song = some 3 ∧
      (rest.clockReads x).showClock.state = .idle ∧
      ((live.clockReads x).showClock.state, (live.clockReads x).showClock.lastError, (live.clockReads x).showClock.target) =
        (.slewing, some 10, some 520522) := by decide +kernel
/-- `live` with Rig A's MISSING present, and its record present or absent. -/
def lost (x : Option RigRecord) : State :=
  { live with parsers := { live.parsers with a := { live.parsers.a with record := x, missing := true } } }
/-- R132, R134: the re-evaluation takes the record, then tests MISSING. -/
theorem witness_MissingBecomesPresent_Reevaluate :
    idleClock.arbiter.onAir = some .a ∧ stopped.arbiter.onAir = none ∧ (live.parsers.get .a).missing = false ∧
      ((lost none).parsers.get .a).missing = true ∧ ((lost none).parsers.get .a).record = none ∧
      (lost none).showClock.state = .running ∧ ((lost (some (playing 1500000 520009))).parsers.get .a).missing = true ∧
      (lost none).showClock.control.freewheelLimit ≠ 0 ∧ (noWheel 0).showClock.control.freewheelLimit = 0 ∧
      (live.clockReevaluate.showClock.state, (lost none).clockReevaluate.showClock.state,
        (lost (some (playing 1500000 520009))).clockReevaluate.showClock.state,
        (lost (some (playing 1500000 520009))).clockReevaluate.showClock.target,
        (lost (some (resting .stopped 3))).clockReevaluate.showClock.state) =
        (.running, .freewheel, .freewheel, some 520521, .held) := by decide +kernel
/-- R130: a rig that re-cues the same song leaves the held value as it stood; another song's start replaces it. -/
theorem test_held_value_under_cue :
    ((held.clockReads (taken (resting .cued 3))).showClock.heldValue,
      (held.clockReads (taken (resting .cued 4))).showClock.heldValue) = (some ⟨2, 0, 14, 3⟩, some ⟨4, 0, 0, 0⟩) := by
  decide +kernel
theorem witness_TickEndCounters_Qualifying :
    let u := silentTick.prepare.closeDueWindows.takeInstantEvidence
    let i := FaultKind.silent.idx
    (u.bank.front.fault.get i).enabled = true ∧ (u.health.get .b).flags.get i = true ∧
      (u.health.get .b).counters.get i + 1 = (u.bank.front.fault.get i).delay ∧
      (after (.healthTickEnd .a) silentTick).health.b.qualifying.get i = true := by decide +kernel
theorem witness_TickEndCounters :
    silentTick.prepare.tickDue = true ∧ silentTick.prepare.closeDueWindows.takeInstantEvidence.bank.exchange = none ∧
      silentTick.prepare.closeDueWindows.takeInstantEvidence.tickDue = true ∧
      (silentTick.prepare.closeDueWindows.takeInstantEvidence.health.get .b).state ≠ .offline ∧
      (FaultKind.link.idx ≠ FaultKind.silent.idx ∧ FaultKind.link.idx ≠ FaultKind.frozen.idx ∧
        FaultKind.link.idx ≠ FaultKind.diverged.idx) := by decide +kernel
/-- A tick end in MANUAL with an alignment. -/
def alignedTick (x : Machine.Alignment) : State :=
  { live with tickDue := true, alignment := x, arbiter := { live.arbiter with mode := .manual } }
theorem witness_TickEndCounters_Alignment :
    let u := fun x => (alignedTick x).prepare.closeDueWindows.takeInstantEvidence
    let held := { live.alignment with state := .held, holdAge := 254 }
    (u live.alignment).arbiter.mode = .manual ∧ (u live.alignment).arbiter.state ≠ .changing ∧
      (u live.alignment).alignment.state = .accepted ∧ (u live.alignment).alignment.pairInTick = false ∧
      (u held).alignment.state = .held ∧
      (u held).bank.front.monitor.holdLimit ≤ min 255 ((u held).alignment.holdAge + 1) ∧
      (u Alignment.reset).alignment.state = .none ∧ (u live.alignment).bank.exchange = none := by decide +kernel
/-- R72, R73: the second pairless tick, and the 255th tick end in HELD. -/
theorem test_tick_end_counts_pairless :
    let t := after (.healthTickEnd .a) (alignedTick { live.alignment with pairless := 1 })
    let h := after (.healthTickEnd .a) (alignedTick { live.alignment with state := .held, holdAge := 254 })
    (t.alignment.pairless, h.alignment.holdAge, h.alignment.limitDue) = (2, 255, true) := by decide +kernel
/-- A tick end with Rig B's marks of one watched channel, and its health. -/
def marked (silent steady : Bool) (x : Sample) (h : Health) : State :=
  { live with
    tickDue := true
    guards := { live.guards with
      b := { Guard.reset with marks := some [{ first := x, silent, steady }], playing := true, void := false } }
    health := { live.health with b := h } }
theorem witness_TickEndCounters_Decisions :
    (marked true true 0 up).prepare.closeDueWindows.takeInstantEvidence.guards.b.playing = true ∧
      (marked true true 0 up).prepare.closeDueWindows.takeInstantEvidence.guards.b.void = false ∧
      2 ^ (marked false true 256 up).prepare.closeDueWindows.takeInstantEvidence.bank.front.monitor.silenceExponent ≤
        (256 : Sample).toInt.natAbs ∧
      (marked true false 0 { up with state := .suspect }).prepare.closeDueWindows.takeInstantEvidence.health.b.state = .suspect ∧
      (∀ k, (marked false false 0 failed).prepare.closeDueWindows.takeInstantEvidence.health.b.flags.get k = false) ∧
      (marked false false 0 failed).prepare.closeDueWindows.takeInstantEvidence.health.b.state = .failed ∧
      (marked false false 0 { up with state := .recovering, restore := 959 }).prepare.closeDueWindows.takeInstantEvidence.health.b.restore =
        959 := by decide +kernel
/-- R44, R51, R53: SILENT and FROZEN are decided; a clean tick takes SUSPECT to HEALTHY and FAILED to RECOVERING. -/
theorem test_tick_end_decides :
    let b := fun s : State => (after (.healthTickEnd .a) s).health.b.state
    (b (marked true true 0 up), b (marked false true 256 up), b (marked false true 255 up),
      b (marked false false 0 { up with state := .suspect }), b (marked false false 0 failed)) =
      (.suspect, .suspect, .healthy, .healthy, .recovering) := by decide +kernel
/-- R45: a restart of the monitors at the instant of a tick end: no guard condition is decided at it. -/
theorem test_restart_at_the_tick_end :
    let s := after (.healthTickEnd .a) (marked true true 0 up)
    let t := s.guardRestartBoth
    (s.health.b.state, s.guards.b.silent, t.health.b.state, t.guards.b.silent, t.guards.b.void) =
      (.suspect, true, .healthy, false, true) := by decide +kernel
/-- R45, R55: what a guard condition decided moves is handed on, and shown by the lamps, only once nothing can undo it. -/
theorem test_guard_decision_is_handed_on_late :
    let s := after (.healthTickEnd .a) (marked true true 0 up)
    (s.handed .b, s.arbiter.eligible, s.automatic.get 1, s.closeInstant.handed .b, s.closeInstant.arbiter.eligible) =
      (.healthy, true, 1, .suspect, false) := by decide +kernel
/-- R55: a state that evidence moves at the instant of a tick end is handed on after that tick end. -/
theorem test_evidence_at_a_tick_end :
    let s (due : Bool) : State := { live with tickDue := due }
    ((((s true).applyEvidence .b (oneKind .position)).handed .b),
      (((s false).applyEvidence .b (oneKind .position)).handed .b)) = (.healthy, .suspect) := by decide +kernel
/-- R34: a window that closes at the moment gains the lock, and MISSING is judged on the age that sets. -/
theorem test_lock_gained_before_missing :
    let l := { acquiring with acquisition := 63, window := some ⟨2048, Table.fill 4 true, fourLanes⟩ }
    let s : State := { aged 1025 with links := { live.links with a := l } }
    let t := s.closeMoment
    (t.links.a.state, t.parsers.a.age, t.parsers.a.missing, t.health.a.flags.get FaultKind.missing.idx) =
      (.locked, some 0, false, false) := by decide +kernel
theorem witness_EvidenceMovesHealth :
    Health.reset.state = .offline ∧ up.state = .healthy ∧
      (∃ i, ((oneKind .self).get i = true ∧ (defaultFaultPolicy.get i).enabled = true) ∧ (defaultFaultPolicy.get i).delay = 0) ∧
      (∃ i, (oneKind .corrupt).get i = true ∧ (defaultFaultPolicy.get i).enabled = true) ∧
      (¬ ∃ i, ((oneKind .corrupt).get i = true ∧ (defaultFaultPolicy.get i).enabled = true) ∧ (defaultFaultPolicy.get i).delay = 0) ∧
      (¬ ∃ i, (oneKind .slip).get i = true ∧ (defaultFaultPolicy.get i).enabled = true) ∧ 959 < 960 ∧
      ({ up with state := .recovering, restore := 960 } : Health).restore = 960 ∧ 960 ≤ 960 ∧ failed.state = .failed ∧
      failed.relapsed = false ∧ ({ failed with relapsed := true } : Health).relapsed = true ∧
      up.counters.get FaultKind.self.idx ≤ (defaultFaultPolicy.get FaultKind.self.idx).delay := by decide +kernel
/-- R47, R52, R56: SELF, of delay 0, joins the history at once in HEALTHY and in FAILED, with its counter at 0. -/
theorem test_kind_of_delay_zero_joins_history :
    let g := fun h : Health => (h.evidence defaultFaultPolicy 960 (oneKind .self))
    ((g up).state, (g up).history, (g failed).state, (g failed).history, (g failed).failures) =
      (.failed, oneKind .self, .failed, oneKind .self, 0) := by decide +kernel
/-- R54: a kind that appears as a second event of a relapse's instant is of that relapse; after the instant it is not. -/
theorem test_second_evidence_of_a_relapse :
    let h := ({ up with state := .recovering } : Health).evidence defaultFaultPolicy 960 (oneKind .missing)
    let g := h.evidence defaultFaultPolicy 960 (oneKind .corrupt)
    let k := ({ h with relapsed := false } : Health).evidence defaultFaultPolicy 960 (oneKind .corrupt)
    (h.state, g.failures, g.counters.get FaultKind.corrupt.idx, g.history.get FaultKind.corrupt.idx,
      k.history.get FaultKind.corrupt.idx) =
      (.failed, 1, (defaultFaultPolicy.get FaultKind.corrupt.idx).delay, true, false) := by decide +kernel
/-- Rig A about to fail. -/
def failing : State :=
  { live with health := { live.health with a := { up with state := .suspect, qualifying := oneKind .silent } } }
def restoring : State := State.endInstant
  { live with health := { live.health with b := { up with state := .recovering, restore := 960 } } }
theorem witness_QualificationAndRestore :
    (failing.health.get .a).qualifying.nonempty = true ∧ failing.bank.exchange = none ∧
      (failing.health.get .a).state = .suspect ∧ (restoring.health.get .b).state = .recovering ∧
      restoring.bank.front.monitor.restoreTime ≤ (restoring.health.get .b).restore ∧
      failing.handed .b = (failing.health.get .b).state ∧ failing.tickDue = false ∧
      (failing.links.get .a).absenceDue = false ∧ failing.instantHealth.unguarded = none ∧ failing.handed .a ≠ .failed ∧
      restoring.bank.exchange = none ∧ restoring.handed .a = (restoring.health.get .a).state ∧
      restoring.evidenceDue .b = false ∧ restoring.instantHealth.unguarded = none ∧
      (restoring.health.get .b).qualifying = noKinds ∧ restoring.handed .b ≠ .healthy ∧
      restoring.exchangeDue = false := by decide +kernel
/-- BLIND with the on-air rig at its restore time. -/
def blindRestoring : State := State.endInstant
  { blind with health := { blind.health with a := { up with state := .recovering, restore := 960 } } }
/-- R95: the on-air rig comes up. -/
theorem witness_QualificationAndRestore_Blind :
    (blindRestoring.health.get .a).state = .recovering ∧
      blindRestoring.bank.front.monitor.restoreTime ≤ (blindRestoring.health.get .a).restore ∧
      blindRestoring.bank.exchange = none ∧ blindRestoring.handed .b = (blindRestoring.health.get .b).state ∧
      blindRestoring.evidenceDue .a = false ∧ blindRestoring.exchangeDue = false ∧
      blindRestoring.instantHealth.unguarded = none ∧ (blindRestoring.health.get .a).qualifying = noKinds ∧
      blindRestoring.handed .a ≠ .healthy ∧ blindRestoring.arbiter.state = .blind ∧
      blindRestoring.arbiter.onAir = some .a ∧ (blindRestoring.mixer.groups.get 0).mode = .follow ∧
      (after (.restoreComplete .a) blindRestoring).arbiter.state = .steady := by decide +kernel
/-- The same with the standby FAILED. -/
def failingAlone : State := State.endInstant { failing with health := { failing.health with b := failed } }
theorem witness_FailureOnAirChangesOverOrBlinds :
    failing.arbiter.state = .steady ∧ failing.arbiter.onAir = some .a ∧ (failing.parsers.get Rig.a.other).diverged = false ∧
      (failing.instantHealth.handing.get .a).before.down = false ∧ (failing.instantHealth.handing.get .a).handed.down = false ∧
      failing.bank.exchange = none ∧ failing.autoPermitted = true ∧ failing.eligibleNow = true ∧
      ({ failing with arbiter := { failing.arbiter with mode := .manual } } : State).autoPermitted = false ∧
      failing.tickDue = false ∧ (failing.links.get .a).absenceDue = false ∧ failing.instantHealth.unguarded = none ∧
      failing.handed .b = (failing.health.get .b).state ∧ failingAlone.autoPermitted = true ∧
      failingAlone.eligibleNow = false ∧ failingAlone.handed .b = (failingAlone.health.get .b).state := by decide +kernel
/-- The incoming Rig B about to fail in CHANGING, Rig A's health as given. -/
def failingIncoming (a : Health) : State :=
  { State.endInstant { changing 3 with health := ⟨a, up⟩ } with
    health := ⟨a, { up with state := .suspect, qualifying := oneKind .silent }⟩ }
theorem witness_FailureOnAirChangesOverOrBlinds_Changing :
    let x := failingIncoming up
    let y := failingIncoming { up with state := .suspect }
    x.arbiter.state = .changing ∧ x.arbiter.onAir = some .b ∧ (x.health.get .b).qualifying.nonempty = true ∧
      (x.health.get .b).state = .suspect ∧ (x.instantHealth.handing.get .b).before.down = false ∧
      (x.instantHealth.handing.get .b).handed.down = false ∧ x.bank.exchange = none ∧
      (x.parsers.get Rig.b.other).diverged = false ∧ x.tickDue = false ∧ (x.links.get .b).absenceDue = false ∧
      x.instantHealth.unguarded = none ∧ x.handed Rig.b.other = (x.health.get Rig.b.other).state ∧
      x.handed Rig.b.other = .healthy ∧ y.handed Rig.b.other ≠ .healthy ∧
      y.handed Rig.b.other = (y.health.get Rig.b.other).state ∧ y.completionHolds = false := by decide +kernel
/-- R90, R91: the incoming rig goes down: a reversal toward a HEALTHY outgoing rig, else the changeover goes on. -/
theorem test_incoming_rig_fails :
    let t := fun a => (after (.qualification .b) (failingIncoming a)).arbiter
    ((t up).onAir, (t up).history.map (fun e => (e.cause, e.ending)), (t { up with state := .suspect }).onAir,
      (t { up with state := .suspect }).history.map (·.ending)) =
      (some .a, [(.take, .reversed), (.reversal, .inFlight)], some .b, [.inFlight]) := by decide +kernel
/-- Rig A asks for a handover. -/
def asking : Acceptance := { taken (playing 1500000 520000) with handover := true }
theorem witness_FailureOnAirChangesOverOrBlinds_ArbiterReads :
    live.arbiter.onAir ≠ some Rig.b ∧ live.arbiter.onAir = some asking.rig ∧ live.bank.exchange = none ∧
      live.completionHolds = false ∧ live.arbiter.state = .steady ∧ (taken (playing 1500000 520000)).handover = false ∧
      asking.handover = true ∧ live.arbiter.mode = .auto ∧ live.arbiter.inhibit = false ∧
      (live.bank.front.song.get (songIndex asking.new.song)).auto = true ∧ live.arbiter.eligible = true ∧
      (live.handed asking.rig.other).down = false ∧ ineligible.arbiter.state = .steady ∧
      ineligible.arbiter.eligible = false ∧ (changing 3).arbiter.onAir = some Rig.b ∧ blind.arbiter.mode = .manual ∧
      (live.arbiterReads asking).arbiter.onAir = some .b ∧ (ineligible.arbiterReads asking).arbiter.onAir = some .a := by
  decide +kernel
/-- BLIND in AUTO, the song in force without auto. -/
def blindSong : State :=
  { blind with
    arbiter := { blind.arbiter with mode := .auto }
    bank := { blind.bank with front := { blind.bank.front with
      song := blind.bank.front.song.set 3 { start := ⟨3, 0, 0, 0⟩, auto := false } } } }
/-- R82, R94: a beacon of a song that permits auto starts the late failover; one of the song that does not, and one in MANUAL, change
the song in force alone; a request is refused. -/
theorem witness_FailureOnAirChangesOverOrBlinds_BlindReads :
    let x : Acceptance := taken { playing 1500000 520000 with song := 4 }
    let y : Acceptance := taken (playing 1500000 520000)
    blindSong.arbiter.onAir = some x.rig ∧ blindSong.bank.exchange = none ∧ blindSong.completionHolds = false ∧
      blindSong.arbiter.state = .blind ∧ blindSong.arbiter.mode = .auto ∧ blindSong.arbiter.inhibit = false ∧
      (blindSong.bank.front.song.get (songIndex x.new.song)).auto = true ∧
      (blindSong.bank.front.song.get (songIndex y.new.song)).auto = false ∧ blindSong.arbiter.eligible = true ∧
      (blindSong.handed x.rig.other).down = false ∧ x.handover = false ∧ asking.handover = true ∧
      ((blindSong.arbiterReads x).arbiter.onAir, (blindSong.arbiterReads x).arbiter.history.map (·.cause)) =
        (some .b, [.lateFailover]) ∧
      (blindSong.arbiterReads y).arbiter.state = .blind ∧ (blind.arbiterReads x).arbiter.state = .blind ∧
      (blindSong.arbiterReads asking).ports.p.notices.get Notice.handoverRefused.idx = true := by decide +kernel
theorem witness_ClearHistoryClearsCounts : Port.a ≠ .p ∧ Port.b ≠ .p := by decide
theorem witness_OffsetAcceptance :
    confirming.alignment.state = .confirming ∧ confirming.alignment.candidate = some ⟨210, 4⟩ ∧
      confirming.alignment.acceptDue = true ∧ confirming.arbiter.state ≠ .blind ∧ confirming.completionHolds = false ∧
      inReach (confirming.requiredDelay 210) = true ∧ inReach (confirming.requiredDelay 512) = true ∧
      inReach (confirming.requiredDelay 513) = false ∧ (changing 3).arbiter.state = .changing ∧
      (changing 3).completionHolds = false ∧ confirming.onAirDown = false ∧
      (State.endInstant { confirming with health := ⟨failed, up⟩ }).onAirDown = true := by decide +kernel
/-- R201: once the on-air rig is down the confirmed candidate is not accepted. -/
theorem test_acceptance_lapses :
    let t := after .offsetAcceptance (State.endInstant { confirming with health := ⟨failed, up⟩ })
    (t.alignment.state, t.alignment.acceptDue, t.arbiter.onAir) = (.confirming, false, some .a) := by decide +kernel
/-- Rig A's records across the tolerance of 2 and the pair window of 2P from Rig B's record in `live`. -/
def pairing (anchor : Stamp) (age : Stamp) : Acceptance := taken (playing (1499698 + age) anchor)
theorem witness_OffsetAcceptance_Pairs :
    live.parsers.b.record = some (playing 1499698 520210) ∧
      (pairing 520000 1024).new.song = (playing 1499698 520210).song ∧
      stampDiff (pairing 520000 1024).new.stamp 1499698 = 1024 ∧ stampDiff (pairing 520000 0).new.stamp 1499698 = 0 ∧
      stampDiff (pairing 520000 1025).new.stamp 1499698 = 1025 ∧ 2 * live.bank.setup.period.samples = 1024 ∧
      (live.handed .a).down = false ∧ (live.handed .b).down = false ∧
      live.arbiter.state ≠ .blind ∧ live.completionHolds = false ∧
      live.pairOf .a (pairing 520000 1024).new = some 210 ∧ live.pairOf .a (pairing 520000 1025).new = none ∧
      live.alignment.accepted = some 210 ∧ live.alignment.state = .accepted ∧ live.bank.front.monitor.tolerance = 2 ∧
      (live.alignmentReads (pairing 519998 0)).alignment.state = .accepted ∧
      (live.alignmentReads (pairing 519997 0)).alignment.state = .confirming := by decide +kernel
theorem witness_AlignmentHeldAndHoldLimit :
    2 ≤ (aligned { live.alignment with pairless := 2 }).alignment.pairless ∧
      (aligned { live.alignment with pairless := 2 }).alignment.state = .accepted ∧
      (aligned { live.alignment with state := .outOfReach, pairless := 2 }).alignment.state = .outOfReach ∧
      (aligned { live.alignment with state := .held, limitDue := true }).alignment.state = .held ∧
      (aligned { live.alignment with state := .held, limitDue := true }).alignment.limitDue = true ∧
      ({ blind with alignment := { live.alignment with state := .held, limitDue := true } } : State).completionHolds = false ∧
      (aligned { live.alignment with state := .held, limitDue := true }).completionHolds = false := by decide +kernel
theorem witness_EntryLayoutsRoundTrip :
    (Bank.default.group.get 0).fadeLength ≤ 4095 ∧ (Bank.default.song.get 23).start.h ≤ 23 ∧
      (Bank.default.fault.get 7).delay ≤ 255 ∧ MonitorPolicy.default.holdLimit ≤ 255 ∧
      ShowSetup.default.baseDelay ≤ 1023 ∧ ClockControl.default.slewWindow ≤ 48000 := by decide +kernel
theorem witness_WriteBankedTable :
    tableShape (bankedId .group) = some (8, 3) ∧ 7 + 1 ≤ 8 ∧ [0x23, 0x28, (0 : Byte)].length = 1 * 3 ∧
      (staged.opened .p 7).bank.claim = some .a ∧ (staged.opened .a 7).bank.claim = some .a ∧
      (live.opened .p 7).bank.claim = none ∧ (requested.opened .a 7).bank.exchange ≠ none ∧
      (live.opened .p 7).editable.written .group { id := 17, first := 7, count := 1, data := [0, 0, 2] } = none ∧
      ((live.opened .p 7).editable.written .group { id := 17, first := 7, count := 1, data := [0x23, 0x28, 1] }).isSome = true ∧
      (live.opened .p 7).arbiter.state ≠ .stopped ∧ (stopped.opened .p 7).arbiter.state = .stopped := by decide +kernel
/-- Whether a table refuses an entry. -/
def refuses (k : BankedTable) (data : List Byte) : Bool :=
  (Bank.default.written k { id := bankedId k, first := 0, count := 1, data }).isNone
/-- R160: the greatest value of every refused field is taken, one more is refused. -/
theorem witness_WriteBankedTable_Entries :
    [refuses .route [1, 1, 63, 63, 7], refuses .route [2, 1, 63, 63, 7], refuses .route [1, 2, 63, 63, 7],
      refuses .route [1, 1, 64, 63, 7], refuses .route [1, 1, 63, 64, 7], refuses .route [1, 1, 63, 63, 8]] =
        [false, true, true, true, true, true] ∧
    [refuses .group [0xFF, 0xFF, 1], refuses .group [0, 0, 2]] = [false, true] ∧
    [refuses .song [23, 59, 59, 29, 1], refuses .song [24, 59, 59, 29, 1], refuses .song [23, 60, 59, 29, 1],
      refuses .song [23, 59, 60, 29, 1], refuses .song [23, 59, 59, 30, 1], refuses .song [23, 59, 59, 29, 2]] =
        [false, true, true, true, true, true] ∧
    [refuses .matcher [0xFF, 2, 0xFF, 0xFF, 0, 0, 0, 4, 5, 7], refuses .matcher [0, 3, 0, 0, 0, 0, 0, 4, 5, 7],
      refuses .matcher [0, 2, 0, 0, 0, 0, 0, 5, 5, 7], refuses .matcher [0, 2, 0, 0, 0, 0, 0, 4, 6, 7],
      refuses .matcher [0, 2, 0, 0, 0, 0, 0, 4, 5, 8]] = [false, true, true, true, true] ∧
    [refuses .faultPolicy [1, 0xFF], refuses .faultPolicy [2, 0]] = [false, true] ∧
    (Bank.default.written .monitorPolicy ⟨21, 0, 1, [0xFF, 21, 16, 0, 0xFF, 0x10, 0]⟩).map (·.monitor) =
      some { positionTolerance := 255, silenceExponent := 20, tolerance := 15, confirm := 1, holdLimit := 255,
             restoreTime := 4095 } := by decide +kernel
/-- `stopped` with group 5 pinned to Rig A and group 6 on its way from Rig B to SILENT. -/
def grouped : State :=
  { stopped with
    mixer := { stopped.mixer with
      groups := (stopped.mixer.groups.set 5 { Group.reset with mode := .pinA, base := .pinA }).set 6
        { Group.reset with current := .b, transition := some ⟨.b, .silent, 3, 480⟩ } } }
/-- R106: a WRITE to the FRONT Group table makes every group evaluate its target; another WRITE touches none. -/
theorem witness_WriteBankedTable_Groups :
    let write := fun k data => after (.writeBankedTable .p k (writeBody (bankedId k) 5 1 data)) grouped
    let t := write .group [0, 7, 1]
    (grouped.opened .p 7).arbiter.state = .stopped ∧ (grouped.opened .p 7).bank.claim = none ∧
      ((t.mixer.groups.get 5).target, (t.mixer.groups.get 5).transition, (t.mixer.groups.get 6).transition) =
        (.a, some ⟨.silent, .a, 0, 7⟩, some ⟨.b, .silent, 3, 480⟩) ∧
      (write .song [0, 0, 0, 0, 1]).mixer = grouped.mixer := by decide +kernel
/-- A Fault Policy with SELF alone enabled, or none, its delay 0, as the bytes of its table. -/
def selfPolicy (on : Bool) : Table 11 FaultEntry :=
  (Table.fill 11 { enabled := false, delay := 1 }).set FaultKind.self.idx { enabled := on, delay := 0 }
/-- STOPPED under the policy with SELF disabled, Rig A RECOVERING with SELF flagged. -/
def flagged : State := State.endInstant
  { stopped with
    bank := { stopped.bank with front := { stopped.bank.front with fault := selfPolicy false } }
    health := { stopped.health with a := { up with state := .recovering, restore := 500, flags := oneKind .self } } }
/-- The WRITE of a whole Fault Policy. -/
def writePolicy (x : Table 11 FaultEntry) : List Byte := x.list.flatMap writeFault
theorem witness_WriteBankedTable_Policies :
    let p := flagged.opened .p 26
    let q := flagged.opened .p 11
    let policy : WriteRequest := { id := 20, first := 0, count := 11, data := writePolicy (selfPolicy true) }
    let monitor := writeMonitor { MonitorPolicy.default with restoreTime := 500 }
    (writePolicy (selfPolicy true)).length = 11 * 2 ∧ p.arbiter.state = .stopped ∧ p.bank.claim = none ∧
      p.bank.exchange = none ∧ ((p.editable.written .faultPolicy policy).map (·.fault)) = some (selfPolicy true) ∧
      ((q.editable.written .monitorPolicy { id := 21, first := 0, count := 1, data := monitor }).map
        (·.monitor.restoreTime)) = some 500 ∧
      q.instantHealth.unguarded = none ∧ (p.parsers.get .a).record = none ∧ (p.parsers.get .b).record = none := by
  decide +kernel
/-- R41, R58: an enabled kind whose flag stands relapses a RECOVERING rig; a restore time at the counter makes it HEALTHY. -/
theorem test_front_policies :
    let a := fun c => (after c flagged).health.a
    let x := a (.writeBankedTable .p .faultPolicy (writeBody 20 0 11 (writePolicy (selfPolicy true))))
    let y := a (.writeBankedTable .p .monitorPolicy
      (writeBody 21 0 1 (writeMonitor { MonitorPolicy.default with restoreTime := 500 })))
    (x.state, x.failures, x.history, x.restore, y.state, y.restore) =
      (.failed, 1, oneKind .self, 0, .healthy, 500) := by decide +kernel
/-- Bytes of a Route entry that differs from entry 5 of the default bank, of a Monitor Policy of another silence exponent, and
of a Matcher entry that is enabled. -/
def routeBytes : List Byte := writeRoute { Bank.default.route.get 5 with guardFlag := true }
def exponentBytes : List Byte := writeMonitor { MonitorPolicy.default with silenceExponent := 9 }
def matcherBytes : List Byte := writeMatcher { MatcherEntry.default with enable := true }
/-- STOPPED with monitors that have marks, SILENT of Rig A, and a matcher that has matched. -/
def monitored : State :=
  { stopped with
    guards := { live.guards with a := { Guard.reset with marks := some [], void := false, silent := true } }
    matchers := stopped.matchers.map fun m => { m with matched := true, fires := 3 } }
theorem witness_WriteBankedTable_Monitors :
    let write := fun (k : BankedTable) (first : Nat) (data : List Byte) =>
      (monitored.opened .p (4 + data.length)).editable.written k { id := bankedId k, first, count := 1, data }
    monitored.arbiter.state = .stopped ∧
      (write .route 5 routeBytes).map (fun b => decide (b.route = monitored.bank.front.route)) = some false ∧
      (write .monitorPolicy 0 exponentBytes).map (·.monitor.silenceExponent) = some 9 ∧
      monitored.bank.front.monitor.silenceExponent = 8 ∧
      (write .matcher 2 matcherBytes).map (fun b => decide (b.matcher = monitored.bank.front.matcher)) = some false := by
  decide +kernel
/-- R45, R154: which WRITE to the FRONT bank restarts the monitors, and which clears the memories. -/
theorem test_front_monitors :
    let x := fun (k : BankedTable) (first : Nat) (data : List Byte) =>
      let t := after (.writeBankedTable .p k (writeBody (bankedId k) first 1 data)) monitored
      [t.guards.a.void, t.guards.a.silent, (t.matchers.get 7).matched]
    x .route 5 routeBytes = [true, false, true] ∧ x .monitorPolicy 0 exponentBytes = [true, false, true] ∧
      x .matcher 2 matcherBytes = [false, true, false] ∧
      x .route 5 (writeRoute (Bank.default.route.get 5)) = [false, true, true] := by
  decide +kernel
/-- What a WRITE of Show Setup on Port P in STOPPED answers, and the base delay it leaves. -/
def setupWritten (data : List Byte) : ResultCode × Nat :=
  let t := after (.writeShowSetup .p (writeBody 24 0 1 data)) stopped
  (t.ports.p.lastResult, t.bank.setup.baseDelay)
/-- R161: the greatest value of every refused field is taken, one more is refused; the base delay is clamped. -/
theorem witness_WriteShowSetup :
    let p := stopped.opened .p 13
    (live.opened .p 13).arbiter.state ≠ .stopped ∧ p.arbiter.state = .stopped ∧ p.bank.setup.rate = .r48k ∧
      p.bank.setup.period = .p512 ∧ p.bank.setup.pilot = ⟨63, 63⟩ ∧
      setupWritten [1, 3, 2, 63, 63, 4, 0, 1, 1] = (.done, 1023) ∧ setupWritten [0, 1, 2, 0, 63, 3, 255, 0, 0] = (.done, 1023) ∧
      [[2, 3, 2, 63, 63, 0, 0, 1, 1], [1, 4, 2, 63, 63, 0, 0, 1, 1], [1, 3, 3, 63, 63, 0, 0, 1, 1],
        [1, 3, 2, 64, 63, 0, 0, 1, 1], [1, 3, 2, 63, 64, 0, 0, 1, 1], [1, 3, 2, 63, 63, 0, 0, 2, 1],
        [1, 3, 2, 63, 63, 0, 0, 1, 2]].all (fun d => setupWritten d == (.invalid, p.bank.setup.baseDelay)) = true := by
  decide +kernel
/-- STOPPED at S = 511 with Rig A's beacon age and MISSING as given. -/
def stoppedAged (age : Option Nat) (missing : Bool) : State :=
  { stopped with
    clock := { stopped.clock with count := 511 }
    parsers := { stopped.parsers with a := { stopped.parsers.a with age, missing } } }
/-- What a WRITE of a beacon period leaves of MISSING and its flag, and whether the next sample instant ends a tick. -/
def periodWritten (period : Byte) (s : State) : Bool × Bool × Bool :=
  let t := after (.writeShowSetup .p (writeBody 24 0 1 [0, period, 2, 63, 63, 2, 0, 0, 0])) s
  (t.parsers.a.missing, t.health.a.flags.get FaultKind.missing.idx, t.instant.tickDue)
/-- R34, R39, R162: an age of 512 is twice the period of 256, 513 is beyond it; 512 ends a tick of 256 and of 512, not of 1024. -/
theorem witness_WriteShowSetup_Period :
    let p := (stoppedAged (some 513) false).opened .p 13
    p.arbiter.state = .stopped ∧ p.bank.setup.period = .p512 ∧ p.parsers.a.age = some 513 ∧ p.parsers.a.missing = false ∧
      p.parsers.a.judging = none ∧ (p.links.get .a).window = none ∧ (p.health.get .a).state ≠ .offline ∧
      periodWritten 0 (stoppedAged (some 513) false) = (true, true, true) ∧
      periodWritten 0 (stoppedAged (some 512) false) = (false, false, true) ∧
      periodWritten 2 (stoppedAged (some 2048) true) = (false, false, false) ∧
      periodWritten 0 (stoppedAged none true) = (true, false, true) := by decide +kernel
/-- Log 64: CLOCK_HOLDOVER at a change of the rate in LOCKED. -/
theorem test_rate_change_raises_clock_holdover :
    let s : State := { stopped with clock := live.clock }
    (after (.writeShowSetup .p (writeBody 24 0 1 [1, 1, 2, 63, 63, 2, 0, 0, 0])) s).ports.a.notices.get Notice.clockHoldover.idx =
      true := by decide +kernel
theorem witness_ReleaseClaimAndCopyBank :
    (live.opened .a 1).bank.claim = none ∧ (staged.opened .a 1).bank.claim = some .a ∧ Port.a ≠ .b ∧
      (staged.opened .p 1).bank.claim = some .a ∧ (stopped.opened .a 1).arbiter.state = .stopped ∧
      (staged.opened .a 1).arbiter.state ≠ .stopped ∧ (requested.opened .a 1).bank.exchange ≠ none ∧
      (staged.opened .a 1).bank.exchange = none := by decide +kernel
/-- Port A's claim over a BACK bank that R168 calls invalid. -/
def invalidBack : State := { staged with bank := { staged.bank with back := invalidFront.bank.front } }
theorem witness_ExchangeAndCancel :
    (staged2.opened .a 2).bank.claim = some .a ∧ (staged2.opened .p 2).operates .p = true ∧
      ¬ ((staged2.opened .p 2).bank.claim = none ∨ (staged2.opened .p 2).bank.claim = some .p) ∧ 2 ≤ (2 : Byte).toNat ∧
      (stopped.opened .p 2).arbiter.state = .stopped ∧ (staged2.opened .a 2).arbiter.state ≠ .stopped ∧
      (invalidBack.opened .a 2).bank.back.valid (invalidBack.opened .a 2).bank.setup = false ∧
      (staged2.opened .a 2).bank.back.valid (staged2.opened .a 2).bank.setup = true ∧
      (staged2.opened .a 2).bank.exchange = none ∧ ((changing 3).opened .p 2).arbiter.state = .changing ∧
      (requested.opened .a 2).bank.exchange = some { timing := .atSong, due := false } ∧
      (requested.opened .a 2).arbiter.state ≠ .changing := by decide +kernel
/-- `live` in MANUAL, the BACK bank with another start timecode of song 3. -/
def rebasing : State :=
  { live with
    arbiter := { live.arbiter with mode := .manual }
    bank := { live.bank with back := { live.bank.back with
      song := live.bank.back.song.set 3 { start := ⟨5, 0, 0, 0⟩, auto := true } } } }
/-- R141, R172: the exchange re-bases the Show Clock. -/
theorem witness_ExchangeAndCancel_Rebase :
    let p := rebasing.opened .p 2
    p.arbiter.mode = .manual ∧ p.arbiter.state ≠ .changing ∧ p.bank.back.valid p.bank.setup = true ∧
      p.bank.exchange = none ∧ p.bank.claim = none ∧ p.instantHealth.unguarded = none ∧
      p.parsers.a.record = some (playing 1500000 520000) ∧ p.parsers.b.record = some (playing 1499698 520210) ∧
      p.showClock.song = some 3 ∧ p.showClock.state = .running ∧
      (p.bank.front.song.get (songIndex 3)).start ≠ (p.bank.back.song.get (songIndex 3)).start ∧
      ((after (.exchange .p (withCheck 0x20 [0])) rebasing).showClock.jumped,
        (after (.exchange .p (withCheck 0x20 [0])) rebasing).showClock.lastFrame,
        (after (.exchange .p (withCheck 0x20 [0])) { live with arbiter := p.arbiter }).showClock.jumped) =
        (true, .absent, false) := by decide +kernel
/-- A BACK bank whose groups fade to SILENT in BLIND, in 7 steps. -/
def fadeOut (s : State) : State :=
  { s with bank := { s.bank with back := { s.bank.back with group := Table.fill 8 { fadeLength := 7, policy := .fadeOut } } } }
/-- `live` in MANUAL, SELF of Rig A flagged under a FRONT policy without it, to be enabled with delay 0 by the BACK bank. -/
def takenDown : State :=
  { live with
    arbiter := { live.arbiter with mode := .manual }
    health := { live.health with a := { up with flags := oneKind .self } }
    bank :=
      { live.bank with
        front := { live.bank.front with fault := selfPolicy false }
        back := { live.bank.back with fault := selfPolicy true } } }
/-- R106, R172: the groups after an exchange in STEADY, in BLIND with the on-air rig down and no changeover permitted, and
where the exchange takes the on-air rig down. -/
theorem witness_ExchangeAndCancel_Groups :
    let p := (fadeOut live).opened .p 2
    let q := (fadeOut blind).opened .p 2
    let x := fun s => after (.exchange .p (withCheck 0x20 [0])) s
    p.arbiter.state = .steady ∧ p.arbiter.onAir = some .a ∧ ((x (fadeOut live)).health.get .a).state.down = false ∧
      q.arbiter.state = .blind ∧ q.arbiter.mode = .manual ∧ q.instantHealth.unguarded = none ∧ q.arbiter.onAir = some .a ∧
      (q.health.get .a).state.down = true ∧ q.bank.back.valid q.bank.setup = true ∧
      ((x (fadeOut live)).mixer.groups.get 0).transition = none ∧
      (((x (fadeOut blind)).mixer.groups.get 0).target, ((x (fadeOut blind)).mixer.groups.get 0).transition) =
        (.silent, some ⟨.a, .silent, 0, 7⟩) ∧
      ((x (fadeOut takenDown)).arbiter.state, ((x (fadeOut takenDown)).mixer.groups.get 0).target) = (.blind, .silent) := by
  decide +kernel
/-- R169: a NOW request takes a pending AT_SONG exchange at once. -/
theorem test_exchange_now_over_at_song :
    let t := after (.exchange .a (withCheck 0x20 [0])) requested
    (t.bank.exchange, t.bank.claim, (t.bank.front.group.get 0).fadeLength) = (none, none, 4095) := by decide +kernel
/-- A song boundary of Rig A. -/
def bound : Acceptance := { taken (playing 1500000 520000) with boundary := true }
/-- A one-song override of group 5 from FOLLOW to PIN_B, its fade done. -/
def oneSong : State :=
  let g : Group := { Group.reset with mode := .pinB, base := .follow, oneSong := true, current := .b, target := .b }
  { live with mixer := { live.mixer with groups := live.mixer.groups.set 5 g } }
theorem witness_ExchangeAndCancel_SongBoundary :
    (taken (playing 1500000 520000)).boundary = false ∧ bound.boundary = true ∧ live.arbiter.onAir = some bound.rig ∧
      requested.arbiter.onAir = some bound.rig ∧ requested.bank.exchange = some { timing := .atSong, due := false } ∧
      requested.arbiter.state ≠ .changing ∧ (pendingEx .atSong false (changing 3)).arbiter.state = .changing ∧
      oneSong.arbiter.state = .steady ∧ (oneSong.mixer.groups.get 5).oneSong = true ∧
      (oneSong.mixer.groups.get 4).oneSong = false ∧ (oneSong.mixer.groups.get 5).transition = none ∧
      (requested.bankReads bound).bank.exchange = none ∧
      ((oneSong.groupsRead bound).mixer.groups.get 5).transition = some { src := .b, dst := .a, k := 0, n := 480 } := by
  decide +kernel
/-- `rebasing` with an AT_SONG exchange to a bank that changes the start timecode of a song more, and a beacon of Rig A in
song 4 to judge. -/
def rebound (n : Fin 256) : State :=
  let s := pendingEx .atSong false rebasing
  let back := s.bank.back
  { s with
    bank := { s.bank with back := { back with song := back.song.set n { start := ⟨6, 0, 0, 0⟩, auto := true } } }
    parsers := { live.parsers with a := { live.parsers.a with judging := some songFour } } }
theorem witness_ExchangeAndCancel_SongChange :
    let x : Acceptance := { bound with new := { playing 1500000 520000 with song := 4 }, rebases := true }
    x.boundary = true ∧ (rebound 4).arbiter.onAir = some x.rig ∧
      (rebound 4).bank.exchange = some { timing := .atSong, due := false } ∧ (rebound 4).arbiter.state ≠ .changing ∧
      (rebound 4).arbiter.mode = .manual ∧ x.rebases = !(rebound 4).showClock.jumped ∧
      (rebound 4).showClock.state = .running ∧ (rebound 4).showClock.song = some 3 ∧ x.new.transport = .playing ∧
      x.new.song ≠ 3 ∧ ((rebound 4).bank.front.song.get (songIndex x.new.song)).start ≠
        ((rebound 4).bank.back.song.get (songIndex x.new.song)).start ∧
      ((rebound 5).bank.front.song.get (songIndex x.new.song)).start =
        ((rebound 5).bank.back.song.get (songIndex x.new.song)).start := by decide +kernel
/-- R142: the exchange taken first, the record after the boundary carries SONG_CHANGED alone, though the ending song's start
timecode changes too; the song change taken first, JUMPED beside it only where the new song's start timecode changes. -/
theorem test_song_change_and_exchange :
    let x := fun (n : Fin 256) order =>
      let t := after (.beaconComplete .a order) (rebound n)
      [t.showClock.jumped, t.showClock.songChanged, t.bank.exchange.isSome]
    x 4 [.bankStore, .showClock] = [false, true, false] ∧ x 4 [.showClock, .bankStore] = [true, true, false] ∧
      x 5 [.showClock, .bankStore] = [false, true, false] := by decide +kernel
/-- Matcher 0 of chapter 8's inhibited passage as a NOTICE, and an accepted beacon of section 3. -/
def cue (x : MatchAction) : State :=
  { live with bank := { live.bank with front := { live.bank.front with
      matcher := live.bank.front.matcher.set 0
        { MatcherEntry.default with
          enable := true, edge := true, mask := 0x40, crc := 0xFD08, lastByte := 3, action := x, lamp := 5, pattern := 7 } } } }
def accepted (sect : Byte) : Acceptance :=
  { rig := .a, bytes := (beaconA 0 sect).bytes, new := playing 1500000 520000, boundary := false, handover := false,
    kinds := noKinds, rebases := false }
/-- The same in BLIND, inhibited in AUTO. -/
def inhibited (x : MatchAction) : State :=
  { blind with bank := (cue x).bank, arbiter := { blind.arbiter with mode := .auto, inhibit := true } }
theorem test_matcher_fires_inhibit :
    let s := cue .inhibitOn
    let t := after (.beaconComplete .a []) { s with parsers := (judged (beaconA 0 3)).parsers }
    (t.arbiter.inhibit, (t.matchers.get 0).fires, (t.matchers.get 0).lastResult) = (true, 1, some .done) := by decide +kernel
/-- The bank of matcher 0 with the EXCHANGE action, an unclaimed valid BACK bank beside it. -/
def cueExchange (s : State) : State :=
  { s with bank := { s.bank with front := (cue .exchange).bank.front, claim := none, exchange := none } }
theorem witness_MatchersExamineTogether_Exchange :
    examines ((cueExchange live).bank.front.matcher.get 0).source (cueExchange live).arbiter.onAir (accepted 3).rig = true ∧
      (cueExchange live).matcherFires 0 (accepted 3).bytes = true ∧
      ((cueExchange live).bank.front.matcher.get 0).action = .exchange ∧
      (∀ j, j ≠ 0 → ((cueExchange live).bank.front.matcher.get j).action = .notice ∨
        ((cueExchange live).bank.front.matcher.get j).action = .lamp) ∧
      (cueExchange live).arbiter.state ≠ .changing ∧ (cueExchange (changing 3)).arbiter.state = .changing := by
  decide +kernel
/-- R55: a rig that leaves OFFLINE at a beacon whose matcher takes an exchange that relapses it: FAILED alone is handed on, and
the other rig's DIVERGED sees no RECOVERING. -/
theorem test_exchange_of_the_same_instant :
    let s : State := State.endInstant
      { apart Health.reset with
        parsers := { live.parsers with
          a := { live.parsers.a with judging := some (beaconA 1 3) }, b := parserOf (resting .stopped 3) }
        bank := { (cueExchange live).bank with
          front := { (cueExchange live).bank.front with fault := selfPolicy false }
          back := { (cueExchange live).bank.back with fault := (selfPolicy true).set 10 { enabled := true, delay := 9 } } } }
    let t := after (.beaconComplete .a []) s
    (t.handed .a, t.health.a.failures, t.parsers.b.diverged, t.health.b.flags.get FaultKind.diverged.idx,
      (t.matchers.get 0).lastResult) = (.failed, 1, false, false, some .done) := by decide +kernel
/-- `live` at a tick end, with a beacon of Rig A that bears SELF under delay 0, and whose matcher takes an exchange to a bank
with SELF disabled. -/
def failsThenClean : State :=
  (State.endInstant
    { judged (beaconA 1 3) with
      bank := { (cueExchange live).bank with
        front := { (cueExchange live).bank.front with fault := selfPolicy true }
        back := { (cueExchange live).bank.back with fault := selfPolicy false } } }).setTickDue true
/-- R53, R55: while the exchange may still make the tick end of the instant clean, FAILED is not handed on. -/
theorem test_failure_waits_for_a_clean_tick_end :
    let t := after (.beaconComplete .a []) failsThenClean
    (t.health.a.state, t.handed .a, t.tickDue) = (.failed, .healthy, true) := by decide +kernel
/-- The tick end of that instant, after the exchange. -/
def failedThenClean : State := after (.healthTickEnd .a) (after (.beaconComplete .a []) failsThenClean)
/-- R53, R55: the exchange has made that tick end clean, so RECOVERING alone is handed on. -/
theorem test_exchange_before_a_clean_tick_end :
    (failedThenClean.health.a.state, failedThenClean.handed .a, failedThenClean.health.a.failures) =
      (.recovering, .recovering, 1) := by decide +kernel
/-- R152: each answer to the EXCHANGE action. -/
theorem test_matcher_exchange_answers :
    (stopped.matcherExchange.2, staged.matcherExchange.2, (cueExchange (changing 3)).matcherExchange.2,
      ({ live with bank := { live.bank with back := invalidFront.bank.front } } : State).matcherExchange.2,
      ((cueExchange live).matchersRead (accepted 3)).bank.claim,
      (((cueExchange live).matchersRead (accepted 3)).bank.front.matcher.get 0).enable) =
      (.wrongState, .claimed, .done, .invalid, none, false) := by decide +kernel
theorem witness_MatchersExamineTogether :
    (∀ j, ((cue .lamp).bank.front.matcher.get j).action ≠ .exchange) ∧
      (∀ j, ((cue .inhibitOff).bank.front.matcher.get j).action ≠ .exchange) ∧
      (cue .inhibitOff).arbiter.state ≠ .blind ∧ (cue .inhibitOff).completionHolds = false ∧
      (∀ j, (0 : Fin 8).val < j.val → ((cue .inhibitOff).bank.front.matcher.get j).action ≠ .inhibitOn) ∧
      (inhibited .inhibitOff).arbiter.state = .blind ∧ (inhibited .inhibitOff).bank.exchange = none ∧
      (inhibited .inhibitOff).arbiter.onAir = some Rig.b.other ∧ (inhibited .inhibitOff).arbiter.mode = .auto ∧
      ((inhibited .inhibitOff).bank.front.song.get (songIndex (inhibited .inhibitOff).arbiter.song)).auto = true ∧
      (inhibited .inhibitOff).arbiter.eligible = true ∧ ((inhibited .inhibitOff).handed .b).down = false ∧
      ((inhibited .inhibitOff).matchersRead (accepted 3)).arbiter.onAir = some .b ∧
      (cue .lamp).arbiter.onAir = some (accepted 3).rig ∧ crc16 [beaconByte (accepted 3).bytes 6] = 0xFD08 ∧
      ((cue .lamp).matchers.get 0).matched = false ∧ crc16 [beaconByte (accepted 2).bytes 6] ≠ 0xFD08 ∧
      (((cue .lamp).matchersRead (accepted 3)).matchers.get 0).fires = 1 ∧
      (((cue .lamp).matchersRead (accepted 2)).matchers.get 0).fires = 0 := by decide +kernel
theorem witness_LampStepBoundary :
    (lampsDue live).prepare.lamps.due = true ∧ (lampsDue live).prepare.lamps.override.get 0 = none ∧
      ({ lampsDue live with lamps := { (lampsDue live).lamps with override := live.lamps.override.set 5 (some 7) } }
        : State).prepare.lamps.override.get 5 = some 7 := by decide +kernel
theorem witness_LampOverridesAndPatterns :
    6 ≤ (6 : Byte).toNat ∧ (8 ≤ (0xFE : Byte).toNat ∧ (0xFE : Byte) ≠ 0xFF) ∧ (5 : Byte).toNat = (5 : Fin 6).val ∧
      (7 : Byte).toNat = (7 : Fin 8).val := by decide
theorem witness_EngineRestart :
    ((changing 3).opened .p 1).links.a.state = .locked ∧ (((changing 3).opened .p 1).mixer.groups.get 0).base = .follow ∧
      ((changing 3).opened .p 1).arbiter.state = .changing ∧ (live.opened .p 1).arbiter.state ≠ .changing ∧
      ((changing 3).opened .p 1).instantHealth.unguarded = none ∧
      ((after (.healthTickEnd .a) (marked true true 0 up)).opened .p 1).instantHealth.unguarded.isSome = true := by
  decide +kernel
/-- `lastGroup` with an exchange due, at a tick end at which Rig B's watched channel is silent. -/
def silentAtCompletion : State :=
  (pendingEx .now true { lastGroup with guards := (marked true true 0 up).guards }).setTickDue true
/-- The tick end of that instant, taken before the transition completes. -/
def silentDecided : State := after (.healthTickEnd .a) silentAtCompletion
/-- R45, R170: the exchange taken at the completion of the same instant undoes the guard decision of its tick end, whether the
completion is commanded or left to the end of the instant. -/
theorem test_exchange_at_the_end_undoes_a_guard_decision :
    let silent := FaultKind.silent.idx
    (silentDecided.health.b.flags.get silent, silentDecided.health.b.state) = (true, .suspect) ∧
      (silentDecided.closeInstant.bank.exchange, silentDecided.closeInstant.health.b.flags.get silent,
        silentDecided.closeInstant.health.b.state) = (none, false, .healthy) ∧
      ((after (.transitionComplete 0) silentDecided).health.b.flags.get silent,
        (after (.transitionComplete 0) silentDecided).health.b.state) = (false, .healthy) := by decide +kernel
/-- A changeover at its first step with an exchange due, at a tick end at which the incoming Rig B's watched channel is frozen
under a delay of 0, its health as given, and Rig A's is silent. -/
def frozenIncoming (b : Health) : State :=
  let s : State := State.endInstant { changing 0 with health := ⟨up, b⟩ }
  let policy := (s.bank.front.fault.set FaultKind.frozen.idx { enabled := true, delay := 0 }).set FaultKind.corrupt.idx
    { enabled := true, delay := 1 }
  State.setTickDue (pendingEx .now true
    { s with
      guards := ⟨(marked true true 0 up).guards.b, (marked false true 256 up).guards.b⟩
      bank := { s.bank with front := { s.bank.front with fault := policy } } }) true
/-- R45, R170: CORRUPT qualifies for Rig B beside FROZEN, so it fails with or without the guard decision: the reversal that it
makes completes, and the restart that the exchange brings undoes FROZEN. -/
theorem test_restart_by_a_failure_that_stands_anyway :
    let t := (frozenIncoming { up with state := .suspect, flags := oneKind .corrupt }).closeInstant
    (t.arbiter.state, t.arbiter.onAir, t.bank.exchange) = (.steady, some .a, none) ∧
      (t.health.b.state, t.health.b.failures, t.health.b.history) = (.failed, 1, oneKind .corrupt) ∧
      t.health.b.flags = noKinds ∧ t.health.a.state = .healthy := by decide +kernel
/-- Log 59: where FROZEN alone fails Rig B, its state stands as it was handed on, and Rig A's guard decision is undone. -/
theorem test_restart_by_a_failure_of_a_guard_condition :
    let t := (frozenIncoming up).closeInstant
    (t.arbiter.onAir, t.bank.exchange, t.guards.b.frozen) = (some .a, none, false) ∧
      (t.health.b.state, t.health.b.history, t.health.a.state) = (.failed, oneKind .frozen, .healthy) ∧
      t.health.a.flags = noKinds := by decide +kernel
/-- R159: with no exchange pending and no matcher of the FRONT bank that asks for one, the BACK bank has no part in when a
state is handed on. -/
theorem test_back_bank_has_no_effect :
    let s := fun (back : Bank) => ({ judged (beaconA 0 0) with bank := { live.bank with back } }).applyEvidence .b
      (oneKind .position)
    let other : Bank := { (cue .exchange).bank.front with fault := selfPolicy true }
    ((s other).handed .b, (s other).asksExchange, (s live.bank.back).handed .b) = (.suspect, false, .suspect) := by
  decide +kernel
/-- Rig B at the last tick of its restore, its watched channel silent, with a longer restore time in the BACK bank. -/
def restoredSilent : State := State.setTickDue (State.endInstant
  { marked true true 0 { up with state := .recovering, restore := 959 } with
    bank := { live.bank with
      back := { live.bank.back with monitor := { live.bank.back.monitor with restoreTime := 4095 } } } }) true
/-- R45, R54: an exchange of the instant leaves the rig as the tick end leaves it without the guard condition: HEALTHY, the end
of its restore taken before the longer restore time is in force. -/
theorem test_restart_keeps_the_end_of_a_restore :
    let s := after (.healthTickEnd .a) restoredSilent
    (s.health.b.state, (after (.exchange .p (withCheck 0x20 [0])) s).health.b.state) = (.suspect, .healthy) := by
  decide +kernel
/-- Rig A OFFLINE with a PLAYING record and a beacon to judge, Rig B at rest with a corrupt one, restore time 0 and DIVERGED of
delay 0. -/
def risesPlaying : State := State.endInstant
  { apart Health.reset with
    parsers :=
      { a := { live.parsers.a with judging := some (beaconA 0 3) }
        b := { parserOf (resting .stopped 3) with judging := some { bytes := [], stamp := 0 } } }
    bank := { live.bank with front := { live.bank.front with
      monitor := { live.bank.front.monitor with restoreTime := 0 }
      fault := live.bank.front.fault.set FaultKind.diverged.idx { enabled := true, delay := 0 } } } }
/-- Both beacons judged, Rig A's restore not ended yet. -/
def risen : State := after (.beaconComplete .a []) (after (.beaconComplete .b []) risesPlaying)
/-- R36, R55: SUSPECT is not handed on while the other rig's rise, not handed on yet, may bring DIVERGED; FAILED alone is. -/
theorem test_divergence_of_a_rising_rig :
    (risen.health.b.state, risen.handed .b, risen.health.a.state, risen.handed .a) =
        (.suspect, .healthy, .recovering, .offline) ∧
      ((after (.restoreComplete .a) risen).handed .a, (after (.restoreComplete .a) risen).handed .b) =
        (.healthy, .failed) := by decide +kernel

end Sys2Proof.Tests
end

/-! PROOFS. The crossfade (R113, R114): the weights, the rounded mix and its bounds, the mixed sample in 24 bits, and an enabled
channel's sample outside and within a transition. -/

namespace Sys2Proof.Machine

open Sys2Proof

/-! ### The weights -/

theorem weightTo_nonneg (k n : Nat) : (0 : Int) ≤ weightTo k n := Int.natCast_nonneg _

theorem weightTo_le {k n : Nat} (hk : k ≤ n) : (weightTo k n : Int) ≤ 32768 :=
  Int.ofNat_le.mpr (Nat.div_le_of_le_mul (Nat.mul_le_mul_right 32768 hk))

theorem weightTo_self {n : Nat} (hn : 1 ≤ n) : weightTo n n = 32768 :=
  Nat.mul_div_cancel_left 32768 hn

theorem weightTo_cast (k n : Nat) : (weightTo k n : Int) = k * 32768 / n := by
  simp [weightTo]

/-! ### The rounded mix -/

/-- R113: the sum of two inputs at the weights 32768 − w and w, divided by 32768 and rounded to the nearest integer. -/
def roundedMix (w xFrom xTo : Int) : Int := (xFrom * (32768 - w) + xTo * w + 16384) / 32768

/-- At the whole weight the mix is the `to` input unmixed: rounding leaves an exact integer unchanged. -/
theorem roundedMix_whole (xFrom xTo : Int) : roundedMix 32768 xFrom xTo = xTo := by
  unfold roundedMix
  omega

section Bounds

variable {w xFrom xTo b : Int} (h0 : 0 ≤ w) (h1 : w ≤ 32768)
include h0 h1

/-- A lower bound of both inputs bounds the mix: the weights are not negative and sum to 32768. -/
theorem le_roundedMix (hFrom : b ≤ xFrom) (hTo : b ≤ xTo) : b ≤ roundedMix w xFrom xTo := by
  have hf : b * (32768 - w) ≤ xFrom * (32768 - w) := Int.mul_le_mul_of_nonneg_right hFrom (by omega)
  have ht : b * w ≤ xTo * w := Int.mul_le_mul_of_nonneg_right hTo h0
  have hsum : b * (32768 - w) + b * w = b * 32768 := by ring
  unfold roundedMix
  omega

/-- An upper bound of both inputs bounds the mix: the half added before the division does not reach the next integer. -/
theorem roundedMix_le (hFrom : xFrom ≤ b) (hTo : xTo ≤ b) : roundedMix w xFrom xTo ≤ b := by
  have hf : xFrom * (32768 - w) ≤ b * (32768 - w) := Int.mul_le_mul_of_nonneg_right hFrom (by omega)
  have ht : xTo * w ≤ b * w := Int.mul_le_mul_of_nonneg_right hTo h0
  have hsum : b * (32768 - w) + b * w = b * 32768 := by ring
  unfold roundedMix
  omega

end Bounds

/-! ### The mixed sample -/

theorem mixSample_eq (k n : Nat) (xFrom xTo : Sample) :
    mixSample k n xFrom xTo = BitVec.ofInt 24 (roundedMix (weightTo k n) xFrom.toInt xTo.toInt) := rfl

/-- R113: no saturation stage is needed, as the mix of two samples is within the range of a sample. -/
theorem toInt_mixSample {k n : Nat} (hk : k ≤ n) (xFrom xTo : Sample) :
    (mixSample k n xFrom xTo).toInt = roundedMix (weightTo k n) xFrom.toInt xTo.toInt := by
  have h0 := weightTo_nonneg k n
  have h1 := weightTo_le hk
  have hlow := le_roundedMix h0 h1 (BitVec.le_toInt xFrom) (BitVec.le_toInt xTo)
  have hhigh := roundedMix_le h0 h1 (Int.le_sub_one_of_lt (BitVec.toInt_lt (x := xFrom)))
    (Int.le_sub_one_of_lt (BitVec.toInt_lt (x := xTo)))
  rw [mixSample_eq]
  exact BitVec.toInt_ofInt_eq_self (by decide) hlow (Int.lt_of_le_sub_one hhigh)

/-- R111: the last mixed sample of a transition is the `to` source unmixed. -/
theorem mixSample_last {n : Nat} (hn : 1 ≤ n) (xFrom xTo : Sample) : mixSample n n xFrom xTo = xTo := by
  rw [mixSample_eq, weightTo_self hn]
  exact (congrArg _ (roundedMix_whole _ _)).trans BitVec.ofInt_toInt

/-! ### An enabled channel's sample -/

section Channel

variable {s : State} {i : Fin 64} (he : (s.bank.front.route.get i).enable = true)
include he

theorem State.channelSample_mixed {f : Transition}
    (ht : (s.mixer.groups.get (s.bank.front.route.get i).group).transition = some f) :
    s.channelSample i = mixSample f.k f.n (s.sourceSample (s.bank.front.route.get i) f.src)
      (s.sourceSample (s.bank.front.route.get i) f.dst) := by
  simp [State.channelSample, he, ht]

theorem State.channelSample_unmixed
    (ht : (s.mixer.groups.get (s.bank.front.route.get i).group).transition = none) :
    s.channelSample i = s.sourceSample (s.bank.front.route.get i)
      (s.mixer.groups.get (s.bank.front.route.get i).group).current := by
  simp [State.channelSample, he, ht]

end Channel

/-- Settles O25: the mix lies between its inputs, so 24 bits hold it, and its last step has the whole weight. -/
theorem crossfadeArithmetic : Obligations.CrossfadeArithmetic := by
  refine ⟨fun k n xFrom xTo hk hkn _ => ?arithmetic,
    fun s i => ⟨rfl, fun he f ht => State.channelSample_mixed he ht, fun he ht => State.channelSample_unmixed he ht⟩⟩
  case arithmetic =>
    have h0 := weightTo_nonneg k n
    have h1 := weightTo_le hkn
    rw [← weightTo_cast, toInt_mixSample hkn]
    refine ⟨h0, Int.sub_nonneg_of_le h1, rfl, le_roundedMix h0 h1 (min_le_left _ _) (min_le_right _ _),
      roundedMix_le h0 h1 (le_max_left _ _) (le_max_right _ _), ?lastStep⟩
    case lastStep =>
      rintro rfl
      exact ⟨congrArg Nat.cast (weightTo_self hk), mixSample_last hk xFrom xTo⟩

end Sys2Proof.Machine

/-! PROOFS. CLOCK_FINISH (R140): what Port P's command does, the end of a slew, and the slew step that then does not occur. -/

namespace Sys2Proof.Machine

open Sys2Proof

/-! ### A transaction that ends with DONE -/

theorem DoneOnly.doneOn {p t : State} {q : Port} (h : DoneOnly p t q) : DoneOn t q := by
  obtain ⟨-, hport⟩ := h
  simp [DoneOn, hport]

/-- R184: the end of a transaction with DONE takes no notice back. -/
theorem noticesKept_deselect_done (s : State) (q : Port) : NoticesKept s (s.deselect q .done) := by
  obtain ⟨⟨-, hothers⟩, hport⟩ := deselect_done s q
  intro k n hn
  by_cases hk : k = q
  · subst hk
    rwa [hport]
  · rwa [hothers k hk]

theorem Noted.kept {s t : State} {n : Notice} (h : Noted s n) (hk : NoticesKept s t) : Noted t n :=
  fun q => hk q n.idx (h q)

theorem noted_raiseAll (s : State) (n : Notice) : Noted (s.raiseAll n) n := by
  intro q
  simp [State.raiseAll]

/-- R181: Port P has the panel's right in every state. -/
theorem allowed_panel (s : State) : s.allowed .p .panel = true := rfl

/-! ### The end of a slew -/

/-- R140: the part with the slew ended at its target in one marked step. -/
def State.finishSlew (s : State) : State :=
  let c := s.showClock
  (s.setShowClock { c with
    anchor := c.target, state := .running, slewCounter := none, jumped := true, lastFrame := .absent }).raiseAll .clockJumped

theorem State.touches_finishSlew (s : State) : Touches [.showClock, .ports] s s.finishSlew :=
  (Touches.refl.setShowClock (by decide)).raiseAll (by decide)

theorem State.noted_finishSlew (s : State) : Noted s.finishSlew .clockJumped := noted_raiseAll _ _

theorem State.finishSlew_showClock (s : State) :
    s.finishSlew.showClock = { s.showClock with
      anchor := s.showClock.target, state := .running, slewCounter := none, jumped := true, lastFrame := .absent } := rfl

/-- R133: outside SLEWING no slew step occurs. -/
theorem State.takeSlewStep_of_not_slewing {s : State} (h : s.showClock.state ≠ .slewing) : s.takeSlewStep = s := by
  unfold State.takeSlewStep
  dsimp only
  split
  case h_1 hslew _ _ _ => exact absurd hslew h
  case h_2 => rfl

theorem State.answerFinish_slewing {s : State} (h : s.showClock.state = .slewing) : s.answerFinish = (s.finishSlew, .done) :=
  if_pos h

theorem State.answerFinish_not_slewing {s : State} (h : s.showClock.state ≠ .slewing) : s.answerFinish = (s, .done) :=
  if_neg h

theorem exec_clockFinish (s : State) (q : Port) (body : List Byte) :
    exec (.clockFinish q body) s = .next (s.command q 0x32 2 .panel body State.answerFinish) := rfl

/-- CLOCK_FINISH from Port P is judged by the Show Clock, whose state stands where it answers DONE. -/
theorem exec_clockFinish_of_answer {s t : State} (h : (s.opened .p 1).answerFinish = (t, .done)) :
    exec (.clockFinish .p (withCheck 0x32 [])) s = .next (t.deselect .p .done) := by
  have owned := command_owner (code := 0x32) (length := 2) (operands := []) rfl rfl (allowed_panel _) h
  rw [exec_clockFinish, owned, if_pos rfl]

/-- Settles O31: by whether the clock, once the port is open, is SLEWING. -/
theorem clockFinishEndsSlew : Obligations.ClockFinishEndsSlew := by
  intro s p
  by_cases h : p.showClock.state = .slewing
  case neg =>
    exact ⟨_, exec_clockFinish_of_answer (State.answerFinish_not_slewing h), fun _ => deselect_done p .p,
      fun hs => absurd hs h⟩
  case pos =>
    have doneOn := (deselect_done p.finishSlew .p).doneOn
    obtain ⟨⟨endTouches, -⟩, -⟩ := deselect_done p.finishSlew .p
    have touched := p.touches_finishSlew.andThen endTouches (by decide)
    have clock := endTouches.showClock.trans p.finishSlew_showClock
    have noted := p.noted_finishSlew.kept (noticesKept_deselect_done _ .p)
    have notSlewing : (p.finishSlew.deselect .p .done).showClock.state ≠ .slewing := by simp [clock]
    exact ⟨_, exec_clockFinish_of_answer (State.answerFinish_slewing h), fun hn => absurd h hn,
      fun _ => ⟨doneOn, touched, clock, noted, State.takeSlewStep_of_not_slewing notSlewing⟩⟩

end Sys2Proof.Machine

/-! PROOFS. CLEAR_HISTORY (R57, R155): what it makes of the histories and the fire counts, what it leaves, and its refusal on a
rig port. -/

namespace Sys2Proof.Machine

open Sys2Proof

/-! ### A named command without its right -/

/-- R181: no port but Port P has the panel's right. -/
theorem not_allowed_panel (s : State) {q : Port} (h : q ≠ .p) : s.allowed q .panel = false := beq_eq_false_iff_ne.mpr h

/-- R178: a named command whose length and check are in order is refused with DENIED where its right is missing. -/
theorem commandRefused_denied (s : State) (q : Port) (right : Right) (code : Byte) (operands : List Byte)
    (h : s.allowed q right = false) :
    s.commandRefused q (operands.length + 2) right (code :: withCheck code operands) = some .denied := by
  simp [State.commandRefused, checkOk_withCheck, length_withCheck, h]

/-- A named command with its operands in order and without its right does not reach its owner. -/
theorem command_denied {s : State} {q : Port} {code : Byte} {length n : Nat} {right : Right} {operands : List Byte}
    {o : State → Answer} (hl : length = operands.length + 2) (hn : n = operands.length + 1)
    (hr : (s.opened q n).allowed q right = false) :
    s.command q code length right (withCheck code operands) o = (s.opened q n).deselect q .denied := by
  subst hl hn
  unfold State.command
  rw [length_withCheck]
  exact transact_refused (commandRefused_denied _ q right code operands hr)

/-! ### The notices after a transaction that ends with DONE -/

/-- R182, R184: the end of a transaction with DONE moves no notice. -/
theorem notices_deselect_done (s : State) (q k : Port) :
    ((s.deselect q .done).ports.get k).notices = (s.ports.get k).notices := by
  obtain ⟨⟨-, hothers⟩, hport⟩ := deselect_done s q
  by_cases hk : k = q
  case pos => rw [hk, hport]
  case neg => rw [hothers k hk]

/-! ### The cleared part -/

/-- R45: what a move makes of the rigs' health does not depend on what is kept of the instant. -/
theorem State.moveHealth_health (s : State) (r : Rig) (f : Health → Health) :
    (s.moveHealth r f).health = s.health.set r (f (s.health.get r)) := State.moveHealthBy_health f f

/-- R57, R155: the part with both fault histories, both failure counts and every fire count cleared. -/
def State.clearHistory (s : State) : State :=
  ((s.moveHealth .a Health.forget).moveHealth .b Health.forget).setMatchers (s.matchers.map fun m => { m with fires := 0 })

theorem State.answerClear_eq (s : State) : s.answerClear = (s.clearHistory, .done) := rfl

theorem State.touches_clearHistory (s : State) : Touches [.health, .matchers] s s.clearHistory :=
  ((Touches.refl.moveHealth (by decide)).moveHealth (by decide)).setMatchers (by decide)

/-- R57: each rig forgets its own history, and the other rig's move does not disturb it. -/
theorem State.clearHistory_health (s : State) (r : Rig) : s.clearHistory.health.get r = (s.health.get r).forget := by
  have health : s.clearHistory.health = (s.health.set .a (s.health.get .a).forget).set .b (s.health.get .b).forget := by
    simp [State.clearHistory, State.moveHealth_health, PerRig.get_set]
  cases r <;> simp [health, PerRig.get_set]

/-- R155: a matcher keeps all but its fire count. -/
theorem State.clearHistory_matchers (s : State) (k : Fin 8) :
    s.clearHistory.matchers.get k = { s.matchers.get k with fires := 0 } := by
  simp [State.clearHistory]

/-! ### The command -/

theorem exec_clearHistory (s : State) (q : Port) (body : List Byte) :
    exec (.clearHistory q body) s = .next (s.command q 0x31 2 .panel body State.answerClear) := rfl

/-- R57: CLEAR_HISTORY from Port P is taken in every state. -/
theorem exec_clearHistory_panel (s : State) :
    exec (.clearHistory .p (withCheck 0x31 [])) s = .next ((s.opened .p 1).clearHistory.deselect .p .done) := by
  have owned := command_owner (code := 0x31) (length := 2) (operands := []) rfl rfl (allowed_panel _)
    (State.answerClear_eq (s.opened .p 1))
  rw [exec_clearHistory, owned, if_pos rfl]

/-- R57, R181: CLEAR_HISTORY from a rig port is denied. -/
theorem exec_clearHistory_rigPort (s : State) {q : Port} (h : q ≠ .p) :
    exec (.clearHistory q (withCheck 0x31 [])) s = .next ((s.opened q 1).deselect q .denied) := by
  have denied := command_denied (code := 0x31) (length := 2) (n := 1) (operands := []) (o := State.answerClear) rfl rfl
    (not_allowed_panel (s.opened q 1) h)
  rw [exec_clearHistory, denied]

/-- Settles O48: Port P's command is the cleared part with its transaction ended, whose end touches the ports alone; a rig
port's ends with DENIED before the owner is asked. -/
theorem clearHistoryClearsCounts : Obligations.ClearHistoryClearsCounts := by
  refine ⟨fun s => ?panel, fun s q hq => ⟨_, exec_clearHistory_rigPort s hq, deselect_refused _ q _ (by decide)⟩⟩
  case panel =>
    intro p
    obtain ⟨⟨endTouches, -⟩, -⟩ := deselect_done p.clearHistory .p
    have touched : Touches [.health, .matchers, .ports] p (p.clearHistory.deselect .p .done) :=
      (p.touches_clearHistory.mono (by decide)).andThen endTouches (by decide)
    refine ⟨_, exec_clearHistory_panel s, touched, (deselect_done _ .p).doneOn, fun q => ?notices, fun k => ?matchers,
      fun r => ?health⟩
    case notices => rw [notices_deselect_done, p.touches_clearHistory.ports]
    case matchers => rw [endTouches.matchers, p.clearHistory_matchers]
    case health => rw [endTouches.health, p.clearHistory_health, Health.forget]

end Sys2Proof.Machine

/-! PROOFS. PORT_SELECT (R175, R191): what the select does to its port, and the port status byte as the number its fields spell. -/

namespace Sys2Proof.Machine

open Sys2Proof

/-! ### One port replaced -/

theorem setPort_get (s : State) (q k : Port) (c : ControlPort) :
    (s.setPort q c).ports.get k = if k = q then c else s.ports.get k := by
  rw [State.setPort, setPorts_ports, PerPort.get_set]

theorem onlyPort_setPort (s : State) (q : Port) (c : ControlPort) : OnlyPort q s (s.setPort q c) :=
  ⟨Touches.refl.setPort (by decide), fun k hk => by rw [setPort_get, if_neg hk]⟩

/-! ### The select -/

theorem onlyPort_select (s : State) (q : Port) : OnlyPort q s (s.select q) := onlyPort_setPort s q _

theorem select_get_self (s : State) (q : Port) :
    (s.select q).ports.get q = { s.ports.get q with tx := .command, dataOut := [s.statusByte q] } := by
  rw [State.select, setPort_get, if_pos rfl]

/-- R175: PORT_SELECT asserts select on a port that is IDLE, after what stood due. -/
theorem exec_portSelect_of_idle {s : State} {q : Port} (h : (s.ports.get q).tx = .idle) :
    exec (.portSelect q) s = .next (s.prepare.select q) := by
  change execPortSelect q s = _
  simp only [execPortSelect, h]

/-! ### Attention (R185) -/

/-- R183: every number below 13 is a notice's. -/
theorem Notice.idx_surjective : Function.Surjective Notice.idx
  | 0 => ⟨.onAirChanged, rfl⟩
  | 1 => ⟨.changeDone, rfl⟩
  | 2 => ⟨.healthChanged, rfl⟩
  | 3 => ⟨.alignmentChanged, rfl⟩
  | 4 => ⟨.blindEntered, rfl⟩
  | 5 => ⟨.clockJumped, rfl⟩
  | 6 => ⟨.bankExchanged, rfl⟩
  | 7 => ⟨.matcherFired, rfl⟩
  | 8 => ⟨.handoverRefused, rfl⟩
  | 9 => ⟨.claimLost, rfl⟩
  | 10 => ⟨.engineRestarted, rfl⟩
  | 11 => ⟨.clockHoldover, rfl⟩
  | 12 => ⟨.refused, rfl⟩

theorem ControlPort.attention_iff_idx (c : ControlPort) :
    c.attention = true ↔ ∃ i, c.notices.get i = true ∧ c.mask.get i = false := by
  simp [ControlPort.attention]

theorem ControlPort.attention_iff (c : ControlPort) :
    c.attention = true ↔ ∃ n : Notice, c.notices.get n.idx = true ∧ c.mask.get n.idx = false := by
  rw [c.attention_iff_idx, Notice.idx_surjective.exists]

/-! ### The port status byte (R191) -/

theorem resultByte_lt (r : ResultCode) : (resultByte r).toNat < 16 := by cases r <;> decide

theorem toNat_bit (b : Bool) : (bit b).toNat = b.toNat := by cases b <;> rfl

theorem rigByte?_lt (o : Option Rig) : (rigByte? o).toNat < 4 := by rcases o with _ | _ | _ <;> decide

/-- A byte whose low field of `k` bits holds `lo`, and the bits above it `hi`, is the number `hi · 2^k + lo`. -/
theorem toNat_shiftLeft_or {hi lo : Byte} {k : Nat} (fits : hi.toNat * 2 ^ k < 256) (low : lo.toNat < 2 ^ k) :
    (hi <<< k ||| lo).toNat = hi.toNat * 2 ^ k + lo.toNat := by
  rw [BitVec.toNat_or, BitVec.toNat_shiftLeft, Nat.shiftLeft_eq, Nat.mod_eq_of_lt fits, ← Nat.shiftLeft_eq,
    Nat.shiftLeft_add_eq_or_of_lt low]

/-- R191: the result in the upper four bits, attention in bit 3, whether the show runs in bit 2, the on-air rig in the
lower two; the fields do not overlap, so the byte is their sum. -/
theorem State.toNat_statusByte (s : State) (q : Port) :
    (s.statusByte q).toNat = (resultByte (s.ports.get q).lastResult).toNat * 16 + ((s.ports.get q).attention.toNat * 8 +
      ((s.arbiter.state != .stopped).toNat * 4 + (rigByte? s.arbiter.onAir).toNat)) := by
  have hresult := resultByte_lt (s.ports.get q).lastResult
  have hattention := (s.ports.get q).attention.toNat_lt
  have hrunning := (s.arbiter.state != .stopped).toNat_lt
  have honAir := rigByte?_lt s.arbiter.onAir
  have low2 := toNat_shiftLeft_or (hi := bit (s.arbiter.state != .stopped)) (k := 2) (by rw [toNat_bit]; omega) honAir
  have low3 := toNat_shiftLeft_or (hi := bit (s.ports.get q).attention) (k := 3) (by rw [toNat_bit]; omega)
    (by rw [low2, toNat_bit]; omega)
  have whole := toNat_shiftLeft_or (hi := resultByte (s.ports.get q).lastResult) (k := 4) (by omega)
    (by rw [low3, low2, toNat_bit, toNat_bit]; omega)
  rw [low3, low2, toNat_bit, toNat_bit] at whole
  simp only [State.statusByte, BitVec.or_assoc]
  exact whole

/-- Bit `k` of a byte, read from the number it spells. -/
theorem getLsbD_iff_div_mod (b : Byte) (k : Nat) : b.getLsbD k = true ↔ b.toNat / 2 ^ k % 2 = 1 := by
  rw [BitVec.getLsbD, Nat.testBit_eq_decide_div_mod_eq, decide_eq_true_iff]

section Fields

variable (s : State) (q : Port)

theorem State.statusByte_result :
    (s.statusByte q).toNat / 16 = (resultByte (s.ports.get q).lastResult).toNat := by
  have honAir := rigByte?_lt s.arbiter.onAir
  have hattention := (s.ports.get q).attention.toNat_lt
  have hrunning := (s.arbiter.state != .stopped).toNat_lt
  rw [s.toNat_statusByte]
  omega

theorem State.statusByte_attention : (s.statusByte q).getLsbD 3 = true ↔ (s.ports.get q).attention = true := by
  have honAir := rigByte?_lt s.arbiter.onAir
  have hattention := (s.ports.get q).attention.toNat_lt
  have hrunning := (s.arbiter.state != .stopped).toNat_lt
  rw [getLsbD_iff_div_mod, s.toNat_statusByte, ← Bool.toNat_eq_one]
  omega

theorem State.statusByte_running : (s.statusByte q).getLsbD 2 = true ↔ s.arbiter.state ≠ .stopped := by
  have honAir := rigByte?_lt s.arbiter.onAir
  have hrunning := (s.arbiter.state != .stopped).toNat_lt
  rw [getLsbD_iff_div_mod, s.toNat_statusByte, ← bne_iff_ne, ← Bool.toNat_eq_one]
  omega

theorem State.statusByte_onAir : (s.statusByte q).toNat % 4 = (rigByte? s.arbiter.onAir).toNat := by
  have honAir := rigByte?_lt s.arbiter.onAir
  rw [s.toNat_statusByte]
  omega

end Fields

/-- Settles O9: the select changes its own port alone, and each field is read off the number the status byte spells. -/
theorem portSelectFormsStatusByte : Obligations.PortSelectFormsStatusByte := by
  intro s q idle p b
  refine ⟨⟨p.select q, exec_portSelect_of_idle idle, onlyPort_select p q, select_get_self p q⟩,
    p.statusByte_result q, ?attention, p.statusByte_running q, (p.statusByte_onAir q).trans ?onAir⟩
  case attention => exact (p.statusByte_attention q).trans (ControlPort.attention_iff _)
  case onAir => rcases p.arbiter.onAir with _ | _ | _ <;> rfl

end Sys2Proof.Machine

/-! PROOFS. What a step can do to the parts the four laws speak of: the arbiter, the Alignment Monitor, the delay lines, the group
records and the banks. Every operation is a chain of the moves below, so a law is kept by every step once it is kept by each. -/

namespace Sys2Proof.Machine

open Sys2Proof

/- In order: bodies elaborated side by side while the kernel still checks the text above each hold a thread's stack. -/
set_option Elab.async false

/-! ### The arbiter's moves -/

/-- R102: a history before a new entry joins it, its oldest entry lost where it is full. -/
def keptHistory (l : List HistoryEntry) : List HistoryEntry := if l.length < Config.historyLength then l else l.drop 1

/-- R101: a history with its IN_FLIGHT entry closed. -/
def closedHistory (ending : Ending) (l : List HistoryEntry) : List HistoryEntry :=
  l.map fun e => if e.ending = .inFlight then { e with ending := ending } else e

/-- R82, R86 to R88, R91, R93, R95: the moves of the arbiter that do not end a changeover. -/
inductive ArbMove (x : Arbiter) : Arbiter → Prop
  | soft (mode : Mode) (inhibit : Bool) (song : Byte) (eligible : Bool) :
      ArbMove x { x with mode, inhibit, song, eligible }
  | blind (h : x.state = .steady) : ArbMove x { x with state := .blind }
  | recover (h : x.state = .blind) : ArbMove x { x with state := .steady }
  | change (r : Rig) (e : HistoryEntry) (n : BitVec 16) (hs : x.state ≠ .changing) (hr : x.onAir = some r)
      (he : e.ending = .inFlight) :
      ArbMove x { x with
        state := .changing, onAir := some r.other, outgoing := some r, history := keptHistory x.history ++ [e]
        nextSequence := n }
  | reverse (r : Rig) (e : HistoryEntry) (n : BitVec 16) (hs : x.state = .changing) (hr : x.onAir = some r)
      (he : e.ending = .inFlight) :
      ArbMove x { x with
        onAir := some r.other, outgoing := some r, nextSequence := n
        history := keptHistory (closedHistory .reversed x.history) ++ [e] }

/-- R84, R85, R89, R103: the moves of the arbiter that leave it not CHANGING, whatever it was. -/
inductive ArbRest (x : Arbiter) : Arbiter → Prop
  | start (h : x.state = .stopped) (r : Rig) (state : ArbState) (song : Byte) (hs : state = .steady ∨ state = .blind) :
      ArbRest x { x with state, onAir := some r, outgoing := none, song }
  | complete (h : x.state = .changing) (state : ArbState) (hs : state = .steady ∨ state = .blind) :
      ArbRest x { x with state, outgoing := none, history := closedHistory .completed x.history }
  | stop (inhibit eligible : Bool) :
      ArbRest x { x with
        state := .stopped, onAir := none, outgoing := none, inhibit, eligible
        history := if x.state = .changing then closedHistory .aborted x.history else x.history }

/-! ### The moves of the other four -/

/-- R65 to R73: a move of the Alignment Monitor that accepts no offset. -/
structure AlignMove (x y : Alignment) : Prop where
  accepted : y.state = .accepted ∨ y.state = .held → (x.state = .accepted ∨ x.state = .held) ∧ y.accepted = x.accepted
  outOfReach : y.state = .outOfReach → x.state = .outOfReach ∧ y.accepted = x.accepted

/-- R63: the delays stand as they were or at the base delay, the rings as they were. -/
def LinesMove (base : Nat) (x y : PerRig TrimLine) : Prop :=
  ∀ r, (y.get r).rings = (x.get r).rings ∧ ((y.get r).delay = (x.get r).delay ∨ (y.get r).delay = base)

/-- R105 to R121: the moves of a group record; `fade` is its fade length in FRONT. -/
inductive GroupMove (fade : Nat) (g : Group) : Group → Prop
  | same : GroupMove fade g g
  | retarget (target : Source) : GroupMove fade g (g.retarget fade target)
  | advance : GroupMove fade g g.advance
  | assign (w : GroupWrite) (h : g.forbids w = false) : GroupMove fade g (g.assign w)
  | revert : GroupMove fade g { g with mode := g.base, oneSong := false }
  | restart : GroupMove fade g g.restart

/-- R160: the fade lengths of both banks stand in their range. -/
def BankStore.fadesOk (b : BankStore) : Prop :=
  (∀ i, (b.front.group.get i).fadeLength ≤ 4095) ∧ (∀ i, (b.back.group.get i).fadeLength ≤ 4095)

/-- R160, R161: a move of the Bank Store keeps the clamped fields that the laws read in their ranges. -/
structure BankMove (b c : BankStore) : Prop where
  fades : b.fadesOk → c.fadesOk
  base : b.setup.baseDelay ≤ 1023 → c.setup.baseDelay ≤ 1023

/-- R63, R68, R70, R84, R85, R89: `u` is the part `s` right before the standby delay is settled: the arbiter at rest or as it was,
the alignment as it was or with an offset accepted. -/
structure Settling (s u : State) : Prop where
  arbiter : ArbRest s.arbiter u.arbiter ∨ u.arbiter = s.arbiter
  alignment : u.alignment = s.alignment ∨ u.alignment.accepted.isSome = true
  lines : LinesMove s.bank.setup.baseDelay s.lines u.lines
  mixer : u.mixer = s.mixer
  bank : BankMove s.bank u.bank
  setup : u.bank.setup = s.bank.setup
  notices : NoticesKept s u
  device : u.device = s.device
  queue : u.pending = s.pending

/-- R187: `u` is the part `s` right after an engine restart has put arbiter, lines and alignment at their restart values. -/
structure Restarting (s u : State) : Prop where
  arbiter : ArbRest s.arbiter u.arbiter
  alignment : u.alignment = Alignment.reset
  lines : u.lines = ⟨TrimLine.restart s.bank.setup.baseDelay, TrimLine.restart s.bank.setup.baseDelay⟩
  mixer : u.mixer = s.mixer
  bank : u.bank = s.bank
  notices : NoticesKept s u
  device : u.device = s.device
  queue : u.pending = s.pending

/-- The blocks that no law speaks of, but for the ports, Device Status and the queue. -/
abbrev outerBlocks : List Block :=
  [.clock, .links, .parsers, .guards, .health, .showClock, .tcOutput, .matchers, .lamps, .tickDue]

/-- What the operations of the part do to it, as far as the laws and the notices go; `writes` is whether Show Setup may be
written. -/
inductive Moves (writes : Prop) : State → State → Prop
  | frame {s t : State} (h : Touches outerBlocks s t) : Moves writes s t
  | ports {s t : State} (h : Touches [.ports] s t) (hn : NoticesKept s t) : Moves writes s t
  | arbiter {s : State} {x : Arbiter} (h : ArbMove s.arbiter x) : Moves writes s (s.setArbiter x)
  | alignment {s : State} {x : Alignment} (h : AlignMove s.alignment x) : Moves writes s (s.setAlignment x)
  | settle {s u : State} (h : Settling s u) : Moves writes s u.settleDelay
  | restart {s u : State} (h : Restarting s u) : Moves writes s u
  | ring {s : State} (r : Rig) (pos : Nat) (f : Frame) (hp : pos < Config.ringLength) :
      Moves writes s (s.setLines (s.lines.set r { s.lines.get r with rings := ringWrite (s.lines.get r).rings pos f }))
  | groups {s : State} {x : Mixer}
      (h : ∀ i, GroupMove (s.bank.front.group.get i).fadeLength (s.mixer.groups.get i) (x.groups.get i)) :
      Moves writes s (s.setMixer x)
  | bank {s : State} {x : BankStore} (h : BankMove s.bank x) (hs : writes ∨ x.setup = s.bank.setup) : Moves writes s (s.setBank x)
  | trans {s t u : State} (h : Moves writes s t) (k : Moves writes t u) : Moves writes s u

variable {s t u : State}

/-! ### The laws' own view of each move -/

theorem keptHistory_length (l : List HistoryEntry) (h : l.length ≤ Config.historyLength) :
    (keptHistory l).length < Config.historyLength := by
  unfold keptHistory
  have : Config.historyLength = 16 := rfl
  split
  · assumption
  · simp only [List.length_drop]; omega

@[simp] theorem closedHistory_length (e : Ending) (l : List HistoryEntry) : (closedHistory e l).length = l.length := by
  simp [closedHistory]

/-- R101: the entries of a history that are IN_FLIGHT. -/
abbrev inFlight (l : List HistoryEntry) : List HistoryEntry := l.filter fun e => e.ending = .inFlight

theorem inFlight_closedHistory (e : Ending) (he : e ≠ .inFlight) (l : List HistoryEntry) : inFlight (closedHistory e l) = [] := by
  simp only [inFlight, closedHistory, List.filter_eq_nil_iff, List.mem_map]
  rintro x ⟨y, -, rfl⟩
  by_cases hy : y.ending = .inFlight <;> simp [hy, he]

theorem inFlight_keptHistory (l : List HistoryEntry) (h : inFlight l = []) : inFlight (keptHistory l) = [] := by
  unfold keptHistory
  split
  · exact h
  · simp only [inFlight, List.filter_eq_nil_iff] at h ⊢
    exact fun x hx => h x (List.mem_of_mem_drop hx)

theorem inFlight_append_open (l : List HistoryEntry) (e : HistoryEntry) (h : inFlight l = []) (he : e.ending = .inFlight) :
    (inFlight (l ++ [e])).length = 1 := by
  simp only [inFlight] at h
  simp [inFlight, List.filter_append, h, he]

/-- R100 to R102: a history after an entry is opened in it, none being open before. -/
theorem history_opened (l : List HistoryEntry) (e : HistoryEntry) (hl : l.length ≤ Config.historyLength)
    (h : inFlight l = []) (he : e.ending = .inFlight) :
    (keptHistory l ++ [e]).length ≤ Config.historyLength ∧ (inFlight (keptHistory l ++ [e])).length = 1 :=
  ⟨by simpa using keptHistory_length l hl, inFlight_append_open _ _ (inFlight_keptHistory l h) he⟩

/-- R80, R101, R102: the arbiter's law through its moves that end no changeover. -/
theorem ArbMove.ok {x y : Arbiter} (h : ArbMove x y) (hx : x.ok) : y.ok := by
  obtain ⟨stopped, outgoing, noOutgoing, short, one⟩ := hx
  cases h with
  | soft => exact ⟨stopped, outgoing, noOutgoing, short, one⟩
  | blind hs => simp_all [Arbiter.ok]
  | recover hs => simp_all [Arbiter.ok]
  | change r e n hs hr he =>
    rw [if_neg hs] at one
    obtain ⟨len, open1⟩ := history_opened _ e short (List.length_eq_zero_iff.mp one) he
    exact ⟨by simp, by simp, by simp, len, by simpa using open1⟩
  | reverse r e n hs hr he =>
    obtain ⟨len, open1⟩ := history_opened (closedHistory .reversed x.history) e (by simpa using short)
      (inFlight_closedHistory _ (by decide) _) he
    exact ⟨by simp [hs], by simp, by simp [hs], len, by simpa [hs] using open1⟩

/-- R80, R101, R102: the arbiter's law through its moves to rest. -/
theorem ArbRest.ok {x y : Arbiter} (h : ArbRest x y) (hx : x.ok) : y.ok := by
  obtain ⟨stopped, outgoing, noOutgoing, short, one⟩ := hx
  cases h with
  | start h r state song hs =>
    rw [if_neg (by simp [h])] at one
    rcases hs with rfl | rfl <;> exact ⟨by simp, by simp, by simp, short, by simpa using one⟩
  | complete h state hs =>
    have closed := congrArg List.length (inFlight_closedHistory .completed (by decide) x.history)
    have onAir : x.onAir ≠ none := fun hn => by simp [stopped.mpr hn] at h
    rcases hs with rfl | rfl <;>
      exact ⟨by simpa using onAir, by simp, by simp, by simpa using short, by simpa using closed⟩
  | stop inhibit eligible =>
    refine ⟨by simp, by simp, by simp, ?_, ?_⟩
    · by_cases h : x.state = .changing <;> simpa [h] using short
    · by_cases h : x.state = .changing
      · simpa [h] using congrArg List.length (inFlight_closedHistory .aborted (by decide) x.history)
      · simpa [h] using one

theorem ArbRest.not_changing {x y : Arbiter} (h : ArbRest x y) : y.state ≠ .changing := by
  cases h with
  | start h r state song hs => rcases hs with rfl | rfl <;> simp
  | complete h state hs => rcases hs with rfl | rfl <;> simp
  | stop => simp

theorem ArbMove.changing_of {x y : Arbiter} (h : ArbMove x y) (hy : y.state ≠ .changing) : x.state ≠ .changing := by
  cases h with
  | soft => exact hy
  | blind h => simp [h]
  | recover h => simp [h]
  | change r e n hs hr he => simp at hy
  | reverse r e n hs hr he => exact absurd hs hy

end Sys2Proof.Machine

/-! PROOFS. Every operation of the part is a chain of moves. -/

namespace Sys2Proof.Machine

open Sys2Proof

/- In order: bodies elaborated side by side while the kernel still checks the text above each hold a thread's stack. -/
set_option Elab.async false

variable {writes : Prop} {s t u : State}

/-! ### Notices are only raised -/

theorem NoticesKept.refl (s : State) : NoticesKept s s := fun _ _ h => h

theorem NoticesKept.trans (h : NoticesKept s t) (k : NoticesKept t u) : NoticesKept s u :=
  fun q n hn => k q n (h q n hn)

theorem NoticesKept.of_ports (h : t.ports = s.ports) : NoticesKept s t := fun q n hn => by rwa [h]

theorem noticesKept_raiseAll (s : State) (n : Notice) : NoticesKept s (s.raiseAll n) := by
  intro q m hm
  by_cases hn : m = n.idx
  · simp [State.raiseAll, hn]
  · simpa [State.raiseAll, Ne.symm hn] using hm

theorem noticesKept_setPort (s : State) (q : Port) (c : ControlPort)
    (h : ∀ n, (s.ports.get q).notices.get n = true → c.notices.get n = true) : NoticesKept s (s.setPort q c) := by
  intro k n hn
  rw [setPort_get]
  split
  · rename_i hk; exact h n (hk ▸ hn)
  · exact hn

theorem noticesKept_raiseOn (s : State) (q : Port) (n : Notice) : NoticesKept s (s.raiseOn q n) := by
  refine noticesKept_setPort s q _ fun m hm => ?_
  by_cases hn : m = n.idx
  · simp [hn]
  · simpa [Ne.symm hn] using hm

theorem noticesKept_raiseAll_of {n : Notice} (h : t.ports = s.ports) : NoticesKept s (t.raiseAll n) :=
  (NoticesKept.of_ports h).trans (noticesKept_raiseAll t n)

theorem State.placeDelay_ports (s : State) (d : Int) : (s.placeDelay d).ports = s.ports :=
  (Touches.refl.placeDelay (by decide) : Touches [.lines, .alignment] s (s.placeDelay d)).ports

theorem settleDelay_noticesKept (s : State) : NoticesKept s s.settleDelay := by
  unfold State.settleDelay
  dsimp only
  split
  · exact .of_ports rfl
  · exact .of_ports rfl
  · split
    · exact noticesKept_raiseAll_of (by rw [State.placeDelay_ports]; rfl)
    · exact .of_ports rfl
  all_goals
    split
    · exact .of_ports (State.placeDelay_ports _ _)
    · exact noticesKept_raiseAll_of rfl

/-- R184: no move takes a notice back. -/
theorem Moves.noticesKept (h : Moves writes s t) : NoticesKept s t := by
  induction h with
  | frame h => exact .of_ports h.ports
  | ports _ hn => exact hn
  | settle h => exact h.notices.trans (settleDelay_noticesKept _)
  | restart h => exact h.notices
  | trans _ _ ih ik => exact ih.trans ik
  | arbiter | alignment | ring | groups | bank => exact .refl _

/-- Log 1, R200: no move touches the queue or Device Status. -/
theorem Moves.queue_device (h : Moves writes s t) : t.pending = s.pending ∧ t.device = s.device := by
  induction h with
  | frame h => exact ⟨h.pending, h.device⟩
  | ports h => exact ⟨h.pending, h.device⟩
  | @settle s u h =>
    have settled : Touches [.lines, .alignment, .ports] u u.settleDelay := Touches.refl.settleDelay (by decide)
    exact ⟨settled.pending.trans h.queue, settled.device.trans h.device⟩
  | restart h => exact ⟨h.queue, h.device⟩
  | trans _ _ ih ik => exact ⟨ik.1.trans ih.1, ik.2.trans ih.2⟩
  | arbiter | alignment | ring | groups | bank => exact ⟨rfl, rfl⟩

/-- R161: no move but a write of Show Setup moves it. -/
theorem Moves.setup (h : Moves writes s t) (none : ¬ writes) : t.bank.setup = s.bank.setup := by
  induction h with
  | frame h => rw [h.bank]
  | ports h => rw [h.bank]
  | @settle s u h =>
    have settled : Touches [.lines, .alignment, .ports] u u.settleDelay := Touches.refl.settleDelay (by decide)
    rw [settled.bank, h.setup]
  | restart h => rw [h.bank]
  | bank _ hs => exact hs.resolve_left none
  | trans _ _ ih ik => exact ik.trans ih
  | arbiter | alignment | ring | groups => rfl

/-! ### Chains of moves -/

theorem Moves.refl (s : State) : Moves writes s s := .frame Touches.refl

/-- A chain goes on with an operation that none of the laws speaks of. -/
theorem Moves.outer {bs : List Block} (h : Moves writes s t) (k : Touches bs t u) (sub : bs ⊆ outerBlocks := by decide) :
    Moves writes s u := h.trans (.frame (k.mono sub))

theorem Moves.raiseAll (h : Moves writes s t) (n : Notice) : Moves writes s (t.raiseAll n) :=
  h.trans (.ports (Touches.refl.raiseAll (by decide)) (noticesKept_raiseAll t n))

theorem Moves.raiseOn (h : Moves writes s t) (q : Port) (n : Notice) : Moves writes s (t.raiseOn q n) :=
  h.trans (.ports (Touches.refl.raiseOn (by decide)) (noticesKept_raiseOn t q n))

theorem Moves.setArbiter {x : Arbiter} (h : Moves writes s t) (hx : ArbMove t.arbiter x) : Moves writes s (t.setArbiter x) :=
  h.trans (.arbiter hx)

theorem Moves.setAlignment {x : Alignment} (h : Moves writes s t) (hx : AlignMove t.alignment x) : Moves writes s (t.setAlignment x) :=
  h.trans (.alignment hx)

theorem Moves.setBank {x : BankStore} (h : Moves writes s t) (hx : BankMove t.bank x)
    (hs : writes ∨ x.setup = t.bank.setup := by exact .inr rfl) : Moves writes s (t.setBank x) :=
  h.trans (.bank hx hs)

theorem Moves.ite {p : Prop} [Decidable p] {u v : State} (hu : p → Moves writes s u) (hv : ¬ p → Moves writes s v) :
    Moves writes s (if p then u else v) := by
  split
  · exact hu ‹_›
  · exact hv ‹_›

/-- A fold of operations that are chains of moves is one. -/
theorem Moves.foldl {α : Type} {f : State → α → State} (hf : ∀ u x, Moves writes u (f u x)) :
    ∀ (l : List α) (t : State), Moves writes t (l.foldl f t)
  | [], t => .refl t
  | x :: l, t => (hf t x).trans (Moves.foldl hf l (f t x))

/-! ### Groups -/

theorem Moves.retargetGroup (h : Moves writes s t) (i : Fin 8) : Moves writes s (t.retargetGroup i) := by
  refine h.trans (.groups fun j => ?_)
  by_cases hj : i = j
  · subst hj; simpa using GroupMove.retarget _
  · simpa [hj] using GroupMove.same

theorem Moves.retargetAll (h : Moves writes s t) : Moves writes s t.retargetAll :=
  h.trans (.groups fun j => by simpa using GroupMove.retarget _)

theorem Moves.produce (h : Moves writes s t) : Moves writes s t.produce := by
  refine (h.trans (.groups (x := { t.mixer with groups := t.mixer.groups.map Group.advance }) fun j => ?_)).trans
    (.groups fun j => .same)
  simpa using GroupMove.advance

theorem Moves.handTargets (h : Moves writes s t) : Moves writes s t.handTargets := .ite (fun _ => h) fun _ => h.retargetAll

/-! ### The Show Clock -/

theorem Moves.setShowClock (h : Moves writes s t) (x : ShowClock) : Moves writes s (t.setShowClock x) :=
  h.outer (bs := [.showClock]) (Touches.refl.setShowClock (by decide))

theorem Moves.enterHeld (h : Moves writes s t) (x : Timecode) : Moves writes s (t.enterHeld x) :=
  h.outer (bs := [.showClock, .tcOutput]) (Touches.refl.enterHeld (by decide))

theorem Moves.takeFreewheelLimit (h : Moves writes s t) : Moves writes s t.takeFreewheelLimit :=
  h.outer (bs := [.showClock, .tcOutput]) (Touches.refl.takeFreewheelLimit (by decide))

theorem Moves.enterFreewheel (h : Moves writes s t) : Moves writes s t.enterFreewheel :=
  h.outer (bs := [.showClock, .tcOutput]) (Touches.refl.enterFreewheel (by decide))

theorem Moves.clockCorrect (h : Moves writes s t) (x : Stamp) : Moves writes s (t.clockCorrect x) :=
  .ite (fun _ => h.setShowClock _) fun _ => .ite (fun _ => h.setShowClock _) fun _ => (h.setShowClock _).raiseAll _

theorem Moves.clockFollow (h : Moves writes s t) (r : Rig) (rec : RigRecord) : Moves writes s (t.clockFollow r rec) := by
  unfold State.clockFollow
  split
  · dsimp only
    split
    · exact .ite (fun _ => h) fun _ => h.setShowClock _
    · exact .ite (fun _ => h.setShowClock _) fun _ => h.setShowClock _
    all_goals exact .ite (fun _ => h.clockCorrect _) fun _ => h.setShowClock _
  · split
    · exact h
    · exact .ite (fun _ => h) fun _ => h.setShowClock _
    all_goals exact (h.setShowClock _).enterHeld _
  · split
    · exact h
    · exact h
    all_goals exact h.enterHeld _

theorem Moves.clockReevaluate (h : Moves writes s t) : Moves writes s t.clockReevaluate := by
  unfold State.clockReevaluate
  split
  · exact h
  · rename_i r _
    have followed : Moves writes s (match (t.parsers.get r).record with
        | some rec => t.clockFollow r rec
        | none => t) := by
      split
      · exact h.clockFollow _ _
      · exact h
    exact .ite (fun _ => followed.enterFreewheel) fun _ => followed

/-! ### Settling and the arbiter's own transitions -/

theorem LinesMove.refl (base : Nat) (x : PerRig TrimLine) : LinesMove base x x := fun _ => ⟨rfl, .inl rfl⟩

theorem BankMove.refl (b : BankStore) : BankMove b b := ⟨id, id⟩

/-- R63, R161: a Bank Store whose Group tables and Show Setup stand. -/
theorem BankMove.of_same {b c : BankStore} (hf : c.front.group = b.front.group) (hb : c.back.group = b.back.group)
    (hs : c.setup = b.setup) : BankMove b c :=
  ⟨fun h => ⟨by rw [hf]; exact h.1, by rw [hb]; exact h.2⟩, by rw [hs]; exact id⟩

theorem Moves.settleDelay (h : Moves writes s t) : Moves writes s t.settleDelay :=
  h.trans (.settle ⟨.inr rfl, .inl rfl, .refl _ _, rfl, .refl _, rfl, .refl t, rfl, rfl⟩)

theorem Moves.reEligible (h : Moves writes s t) : Moves writes s t.reEligible := h.setArbiter (.soft ..)

theorem Moves.updateSong (h : Moves writes s t) : Moves writes s t.updateSong := by
  unfold State.updateSong
  split
  · exact h
  · split
    · exact h
    · exact h.setArbiter (.soft ..)

theorem Moves.handOnAir (h : Moves writes s t) : Moves writes s t.handOnAir := h.settleDelay.reEligible.clockReevaluate.handTargets

theorem Moves.enterChanging (h : Moves writes s t) (c : Cause) (hc : t.arbiter.state ≠ .changing) : Moves writes s (t.enterChanging c) := by
  unfold State.enterChanging
  split
  · exact h
  · rename_i old hold
    have changed := h.setArbiter (.change old
      { sequence := t.arbiter.nextSequence, stamp := t.clock.count, timecode := t.shown.map (·.1), fromRig := old
        toRig := old.other, cause := c, ending := .inFlight, failing := t.qualified old }
      (t.arbiter.nextSequence + 1) hc hold rfl)
    exact (changed.updateSong.raiseAll .onAirChanged).handOnAir

theorem Moves.reverse (h : Moves writes s t) (hc : t.arbiter.state = .changing) : Moves writes s t.reverse := by
  unfold State.reverse
  split
  · exact h
  · rename_i incoming hin
    have reversed := h.setArbiter (.reverse incoming
      { sequence := t.arbiter.nextSequence, stamp := t.clock.count, timecode := t.shown.map (·.1), fromRig := incoming
        toRig := incoming.other, cause := .reversal, ending := .inFlight, failing := t.qualified incoming }
      (t.arbiter.nextSequence + 1) hc hin rfl)
    exact (reversed.updateSong.raiseAll .onAirChanged).handOnAir

theorem Moves.enterBlind (h : Moves writes s t) (hs : t.arbiter.state = .steady) : Moves writes s t.enterBlind :=
  ((h.setArbiter (.blind hs)).raiseAll .blindEntered).handTargets

theorem State.changing_of_completionHolds (h : t.completionHolds = true) : t.arbiter.state = .changing := by
  simp only [State.completionHolds, Bool.and_eq_true, beq_iff_eq] at h
  exact h.1

theorem State.blind_of_lateFailoverHolds (h : t.lateFailoverHolds = true) : t.arbiter.state = .blind := by
  simp only [State.lateFailoverHolds, Bool.and_eq_true, beq_iff_eq] at h
  exact h.1.1

/-- R89: the part as a completion hands it to the Alignment Monitor. -/
theorem Settling.of_complete (x : Arbiter) (hx : ArbRest t.arbiter x) (hu : Touches [.arbiter, .ports] t u)
    (ha : u.arbiter = x) (hn : NoticesKept t u) : Settling t u where
  arbiter := .inl (ha ▸ hx)
  alignment := .inl hu.alignment
  lines := by rw [hu.lines]; exact .refl _ _
  mixer := hu.mixer
  bank := by rw [hu.bank]; exact .refl _
  setup := by rw [hu.bank]
  notices := hn
  device := hu.device
  queue := hu.pending

theorem Moves.completeWith {bank : State → State} (h : Moves writes s t) (hb : ∀ u, Moves writes u (bank u))
    (hc : t.arbiter.state = .changing) : Moves writes s (t.completeWith bank) := by
  let x : Arbiter := { t.arbiter with
    state := if t.onAirDown then .blind else .steady, outgoing := none
    history := closedHistory .completed t.arbiter.history }
  have hx : ArbRest t.arbiter x := .complete hc _ (by split <;> simp)
  let v := if x.state = .blind then (t.setArbiter x).raiseAll .blindEntered else t.setArbiter x
  have touched : Touches [.arbiter, .ports] t (v.raiseAll .changeDone) := by
    refine Touches.raiseAll ?_ (by decide)
    show Touches _ _ (if _ then _ else _)
    split
    · exact (Touches.refl.setArbiter (by decide)).raiseAll (by decide)
    · exact Touches.refl.setArbiter (by decide)
  have kept : NoticesKept t (v.raiseAll .changeDone) := by
    refine NoticesKept.trans ?_ (noticesKept_raiseAll v _)
    show NoticesKept _ (if _ then _ else _)
    split
    · exact noticesKept_raiseAll (t.setArbiter x) _
    · exact .of_ports rfl
  have arb : (v.raiseAll .changeDone).arbiter = x := by
    show State.arbiter (if _ then _ else _) = x
    split <;> rfl
  have settled := (h.trans (.settle (Settling.of_complete x hx touched arb kept))).reEligible.trans (hb _)
  exact .ite (fun _ => settled.handTargets) fun _ => settled

theorem Moves.arbRunWith {bank : State → State} (hb : ∀ u, Moves writes u (bank u)) :
    ∀ (n : Nat) {t : State}, Moves writes s t → Moves writes s (arbRunWith bank n t)
  | 0, _, h => h
  | n + 1, _, h =>
    .ite (fun hc => Moves.arbRunWith hb n (h.completeWith hb (State.changing_of_completionHolds hc)))
      fun _ => .ite (fun hl => Moves.arbRunWith hb n
        (h.enterChanging _ (by simp [State.blind_of_lateFailoverHolds hl]))) fun _ => h

theorem Moves.goesDown (h : Moves writes s t) (r : Rig) : Moves writes s (t.goesDown r) := by
  refine .ite (fun _ => ?_) fun _ => h
  split
  · exact h
  · exact h
  · rename_i hs
    exact .ite (fun _ => h.enterChanging _ (by simp [hs])) fun _ => h.enterBlind hs
  · rename_i hs
    exact .ite (fun _ => h.reverse hs) fun _ => h

theorem Moves.comesUp (h : Moves writes s t) (r : Rig) : Moves writes s (t.comesUp r) :=
  .ite (fun hb => (h.setArbiter (.recover hb.1)).retargetAll) fun _ => h

end Sys2Proof.Machine

/-! PROOFS. Every operation of the part is a chain of moves: evidence, exchanges, the readers of a beacon, and the part's own
events. -/

namespace Sys2Proof.Machine

open Sys2Proof

/- In order: bodies elaborated side by side while the kernel still checks the text above each hold a thread's stack. -/
set_option Elab.async false

variable {writes : Prop} {s t u : State}

/-! ### Handing a health state on (R55) -/

theorem Moves.takeEvidence (h : Moves writes s t) (r : Rig) (k : KindSet) : Moves writes s (t.takeEvidence r k) :=
  h.outer (bs := [.health]) (Touches.refl.takeEvidence (by decide))

section Handing

variable {run : State → State} (hr : ∀ u, Moves writes u (run u))
include hr

theorem Moves.takeHealthWith (h : Moves writes s t) (r : Rig) (x : Handing) : Moves writes s (t.takeHealthWith run r x) :=
  (Moves.ite (fun _ => h.reEligible.goesDown r) fun _ => .ite (fun _ => h.reEligible.comesUp r) fun _ => h.reEligible).trans
    (hr _)

theorem Moves.handOneWith (h : Moves writes s t) (r : Rig) : Moves writes s (t.handOneWith run r) := by
  refine .ite (fun _ => h) fun _ => Moves.takeHealthWith hr ?_ r _
  have handed := h.outer (bs := [.health])
    (Touches.refl.setHanding (r := r)
      (x := { t.instantHealth.handing.get r with handed := (t.health.get r).state }) (by decide))
  exact (handed.raiseAll .healthChanged).outer (bs := [.parsers, .health]) (Touches.refl.reDiverged (by decide))

theorem Moves.handHealthWith (h : Moves writes s t) (r : Rig) : Moves writes s (t.handHealthWith run r) :=
  .ite (fun _ => h) fun _ => .ite (fun _ => h.handOneWith hr r) fun _ => (h.handOneWith hr r).handOneWith hr _

theorem Moves.handSettledWith (h : Moves writes s t) (r : Rig) : Moves writes s (t.handSettledWith run r) :=
  .ite (fun _ => h) fun _ => h.handHealthWith hr r

theorem Moves.applyEvidenceWith (h : Moves writes s t) (r : Rig) (k : KindSet) : Moves writes s (t.applyEvidenceWith run r k) :=
  (h.takeEvidence r k).handSettledWith hr r

theorem Moves.handBothWith (h : Moves writes s t) : Moves writes s (t.handBothWith run) :=
  ((h.handSettledWith hr .a).handSettledWith hr .b).trans (hr _)

/-! ### Exchanges (R170, R172) -/

theorem Moves.exchangeTakenWith (h : Moves writes s t) : Moves writes s (t.exchangeTakenWith run) := by
  have restarted := h.outer (bs := [.parsers, .guards, .health]) (Touches.refl.guardRestartBoth (by decide))
  have swapped := restarted.setBank (x := { t.guardRestartBoth.bank with
    front := t.guardRestartBoth.bank.back, back := t.bank.front, claim := none, exchange := none })
    ⟨fun f => ⟨f.2, by
      rw [show t.bank = t.guardRestartBoth.bank from
        ((Touches.refl.guardRestartBoth (by decide) : Touches [.parsers, .guards, .health] t _).bank).symm]
      exact f.1⟩, id⟩
  have judged := (swapped.raiseAll .bankExchanged).outer (bs := [.health])
    ((((Touches.refl.restoreChange (r := .a) (by decide)).restoreChange (r := .b) (by decide)).policyChange (r := .a)
      (f := t.bank.front.fault) (by decide)).policyChange (r := .b) (f := t.bank.front.fault) (by decide))
  have grouped : ∀ v, Moves writes s v → Moves writes s (if v.arbiter.state = .blind then v else v.retargetAll) :=
    fun v hv => .ite (fun _ => hv) fun _ => hv.retargetAll
  have rebased := ((grouped _ judged).outer (bs := [.showClock])
    (Touches.refl.rebase (f := t.bank.front.song) (by decide))).outer (bs := [.matchers]) (Touches.refl.clearMemories (by decide))
  exact .ite (fun _ => (rebased.handBothWith hr).retargetAll) fun _ => rebased.handBothWith hr

theorem Moves.dueExchangeWith (h : Moves writes s t) : Moves writes s (t.dueExchangeWith run) := by
  unfold State.dueExchangeWith
  split
  · exact h
  · exact .ite (fun _ => (h.outer (bs := [.health]) (Touches.refl.settleDues (by decide))).exchangeTakenWith hr) fun _ => h

end Handing

theorem Moves.settleArbiter (h : Moves writes s t) : Moves writes s t.settleArbiter := h.arbRunWith (fun u => .refl u) 4

theorem Moves.run (h : Moves writes s t) : Moves writes s t.run :=
  h.arbRunWith (fun u => (Moves.refl u).dueExchangeWith fun v => (Moves.refl v).settleArbiter) 4

theorem moves_run (u : State) : Moves writes u u.run := (Moves.refl u).run

theorem Moves.exchangeTaken (h : Moves writes s t) : Moves writes s t.exchangeTaken := h.exchangeTakenWith moves_run

/-- R169 to R171: the claim and the pending exchange move, and no law speaks of them. -/
theorem Moves.setExchange (h : Moves writes s t) (c : Option Port) (e : Option PendingExchange) :
    Moves writes s (t.setBank { t.bank with claim := c, exchange := e }) := h.setBank (.of_same rfl rfl rfl)

theorem Moves.exchangeFallsDueWith {take : State → State} (ht : ∀ u, Moves writes u (take u)) (h : Moves writes s t) :
    Moves writes s (t.exchangeFallsDueWith take) := by
  unfold State.exchangeFallsDueWith
  split
  · exact h
  · exact .ite (fun _ => h.setExchange _ _) fun _ => h.trans (ht _)

theorem Moves.exchangeFallsDue (h : Moves writes s t) : Moves writes s t.exchangeFallsDue :=
  h.exchangeFallsDueWith fun u => (Moves.refl u).exchangeTaken

theorem Moves.exchangeFallsDueInside (h : Moves writes s t) : Moves writes s t.exchangeFallsDueInside :=
  h.exchangeFallsDueWith fun u =>
    ((Moves.refl u).outer (bs := [.health]) (Touches.refl.settleDues (by decide))).exchangeTaken

theorem Moves.handHealth (h : Moves writes s t) (r : Rig) : Moves writes s (t.handHealth r) := h.handHealthWith moves_run r

theorem Moves.handSettled (h : Moves writes s t) (r : Rig) : Moves writes s (t.handSettled r) := h.handSettledWith moves_run r

theorem Moves.handNew (h : Moves writes s t) : Moves writes s t.handNew := (h.handSettled .a).handSettled .b

theorem Moves.applyEvidence (h : Moves writes s t) (r : Rig) (k : KindSet) : Moves writes s (t.applyEvidence r k) :=
  h.applyEvidenceWith moves_run r k

/-! ### Parsers, links, monitors and health as chains see them -/

theorem Moves.setParser (h : Moves writes s t) (r : Rig) (p : Parser) : Moves writes s (t.setParser r p) :=
  h.outer (bs := [.parsers]) (Touches.refl.setParser (by decide))

theorem Moves.setLink (h : Moves writes s t) (r : Rig) (l : LinkRx) : Moves writes s (t.setLink r l) :=
  h.outer (bs := [.links]) (Touches.refl.setLink (by decide))

theorem Moves.setGuard (h : Moves writes s t) (r : Rig) (g : Guard) : Moves writes s (t.setGuard r g) :=
  h.outer (bs := [.guards]) (Touches.refl.setGuard (by decide))

theorem Moves.moveHealthBy (h : Moves writes s t) (r : Rig) (f g : Health → Health) : Moves writes s (t.moveHealthBy r f g) :=
  h.outer (bs := [.health]) (Touches.refl.moveHealthBy (by decide))

theorem Moves.moveHealth (h : Moves writes s t) (r : Rig) (f : Health → Health) : Moves writes s (t.moveHealth r f) :=
  h.moveHealthBy r f f

theorem Moves.setMatchers (h : Moves writes s t) (x : Table 8 MatcherState) : Moves writes s (t.setMatchers x) :=
  h.outer (bs := [.matchers]) (Touches.refl.setMatchers (by decide))

theorem Moves.reDiverged (h : Moves writes s t) (r : Rig) : Moves writes s (t.reDiverged r) :=
  h.outer (bs := [.parsers, .health]) (Touches.refl.reDiverged (by decide))

theorem Moves.recordAbsent (h : Moves writes s t) (r : Rig) : Moves writes s (t.recordAbsent r) :=
  h.outer (bs := [.parsers, .guards, .health]) (Touches.refl.recordAbsent (by decide))

theorem Moves.silentAbandon (h : Moves writes s t) (r : Rig) : Moves writes s (t.silentAbandon r) :=
  h.outer (bs := [.parsers]) (Touches.refl.silentAbandon (by decide))

theorem Moves.setClock (h : Moves writes s t) (x : ClockInput) : Moves writes s (t.setClock x) :=
  h.outer (bs := [.clock]) (Touches.refl.setClock (by decide))

theorem Moves.missingBegins (h : Moves writes s t) (r : Rig) : Moves writes s (t.missingBegins r) :=
  (Moves.ite (fun _ => (h.setParser r _).enterFreewheel) fun _ => h.setParser r _).applyEvidence r _

/-! ### The Alignment Monitor -/

theorem AlignMove.of_loose {x y : Alignment} (h : y.state = .none ∨ y.state = .confirming) : AlignMove x y := by
  rcases h with h | h <;> exact ⟨by simp [h], by simp [h]⟩

theorem AlignMove.of_same {x y : Alignment} (hs : y.state = x.state) (ha : y.accepted = x.accepted) : AlignMove x y :=
  ⟨fun h => ⟨hs ▸ h, ha⟩, fun h => ⟨hs ▸ h, ha⟩⟩

/-- R71, R72: between ACCEPTED and HELD an accepted offset stands. -/
theorem AlignMove.of_held {x y : Alignment} (hx : x.state = .accepted ∨ x.state = .held)
    (hy : y.state = .accepted ∨ y.state = .held) (ha : y.accepted = x.accepted) : AlignMove x y :=
  ⟨fun _ => ⟨hx, ha⟩, fun h => by simp [h] at hy⟩

theorem alignMove_tick (x : Alignment) (limit : Nat) : AlignMove x (x.tick limit) := by
  unfold Alignment.tick
  cases hx : x.state <;> exact .of_same hx.symm rfl

theorem Moves.takePair (h : Moves writes s t) (r : Rig) (m : Int) : Moves writes s (t.takePair r m) := by
  refine Moves.run (Moves.reEligible ?_)
  dsimp only
  split
  · exact h.setAlignment (.of_loose (.inr rfl))
  · split
    · exact h.setAlignment (.of_loose (.inr rfl))
    · exact .ite (fun _ => h.setAlignment (.of_loose (.inr rfl))) fun _ => h.setAlignment (.of_loose (.inr rfl))
  · exact .ite (fun _ => h.setAlignment (.of_same rfl rfl)) fun _ => (h.setAlignment (.of_loose (.inr rfl))).raiseAll _
  · exact .ite (fun _ => h.setAlignment (.of_same rfl rfl)) fun _ => (h.setAlignment (.of_loose (.inr rfl))).raiseAll _
  · rename_i held
    exact .ite (fun _ => h.setAlignment (.of_held (.inr held) (.inl rfl) rfl)) fun _ =>
      (h.setAlignment (.of_loose (.inr rfl))).raiseAll _

theorem Moves.takeAcceptance (h : Moves writes s t) : Moves writes s t.takeAcceptance := by
  unfold State.takeAcceptance
  dsimp only
  split
  · exact h
  · rename_i c _
    refine .ite (fun confirming => .ite (fun _ => h.setAlignment (.of_same rfl rfl)) fun _ => ?_) fun _ => h
    refine Moves.run (Moves.reEligible (h.trans (.settle ?_)))
    exact ⟨.inr rfl, .inr rfl, .refl _ _, rfl, .refl _, rfl, noticesKept_raiseAll _ _, rfl, rfl⟩

theorem Moves.takeAlignmentHeld (h : Moves writes s t) : Moves writes s t.takeAlignmentHeld := by
  refine .ite (fun _ => ?_) fun _ => h
  split
  · exact h
  · exact h
  · rename_i accepted
    exact h.setAlignment (.of_held (.inl accepted) (.inr rfl) rfl)
  · exact h.setAlignment (.of_loose (.inl rfl))
  · exact (h.setAlignment (.of_loose (.inl rfl))).raiseAll _

theorem Moves.takeHoldLimit (h : Moves writes s t) : Moves writes s t.takeHoldLimit :=
  .ite (fun _ => ((h.setAlignment (.of_loose (.inl rfl))).raiseAll _).reEligible.run) fun _ => h

theorem Moves.alignmentReads (h : Moves writes s t) (x : Acceptance) : Moves writes s (t.alignmentReads x) := by
  unfold State.alignmentReads
  split
  · exact h
  · exact h.takePair _ _

/-! ### The other readers of a beacon -/

theorem Moves.matcherExchange (h : Moves writes s t) : Moves writes s t.matcherExchange.1 := by
  unfold State.matcherExchange
  split
  · exact h
  · split
    · exact h
    · split
      · split
        · exact h
        · exact (h.setExchange t.bank.claim (some _)).exchangeFallsDueInside
      · split
        · exact (h.setExchange t.bank.claim (some _)).exchangeFallsDueInside
        · exact h

theorem Moves.setInhibit (h : Moves writes s t) (b : Bool) : Moves writes s (t.setInhibit b) := (h.setArbiter (.soft ..)).run

theorem Moves.perform (h : Moves writes s t) (e : MatcherEntry) : Moves writes s (t.perform e).1 := by
  unfold State.perform
  split
  · exact h
  · exact h.matcherExchange
  · exact h.setInhibit true
  · exact h.setInhibit false
  · exact h.outer (bs := [.lamps]) (Touches.refl.setOverride (by decide))

theorem Moves.fire (h : Moves writes s t) (x : Stamp) (k : Fin 8) (e : MatcherEntry) : Moves writes s (t.fire x k e) :=
  (((h.setMatchers _).raiseAll .matcherFired).perform e).setMatchers _

theorem Moves.setComing (h : Moves writes s t) (x : Coming) : Moves writes s (t.setComing x) :=
  h.outer (bs := [.health]) (Touches.refl.setComing (by decide))

theorem Moves.fireAll (x : Stamp) (e : Table 8 MatcherEntry) (b : Bool) :
    ∀ (l : List (Fin 8)) {t : State}, Moves writes s t → Moves writes s (State.fireAll x e b l t)
  | [], _, h => h
  | k :: rest, _, h =>
    Moves.fireAll x e b rest (Moves.fire (.ite (fun _ => h.setComing _) fun _ => h) x k (e.get k))

theorem Moves.matchersRead (h : Moves writes s t) (x : Acceptance) : Moves writes s (t.matchersRead x) :=
  (h.setMatchers _).fireAll ..

theorem Moves.healthReads (h : Moves writes s t) (x : Acceptance) : Moves writes s (t.healthReads x) :=
  .ite (fun _ => (h.moveHealthBy _ _ _).handSettled _) fun _ => h.applyEvidence _ _

theorem Moves.guardReads (h : Moves writes s t) (x : Acceptance) : Moves writes s (t.guardReads x) :=
  .ite (fun _ => h) fun _ => h.setGuard _ _

theorem Moves.clockReads (h : Moves writes s t) (x : Acceptance) : Moves writes s (t.clockReads x) :=
  .ite (fun _ => (h.outer (bs := [.showClock]) (Touches.refl.dropRebase (by decide))).clockFollow _ _) fun _ => h

theorem Moves.arbiterReads (h : Moves writes s t) (x : Acceptance) : Moves writes s (t.arbiterReads x) := by
  refine .ite (fun _ => ?_) fun _ => h
  have sung := (h.setArbiter (.soft t.arbiter.mode t.arbiter.inhibit x.new.song t.arbiter.eligible)).run
  refine .ite (fun _ => ?_) fun _ => sung
  split
  · exact sung
  · rename_i steady
    exact .ite (fun _ => (sung.enterChanging _ (by simp [steady])).run) fun _ => sung.raiseAll _
  · exact sung.raiseAll _
  · exact sung.raiseAll _

theorem Moves.bankReads (h : Moves writes s t) (x : Acceptance) : Moves writes s (t.bankReads x) := by
  refine .ite (fun _ => ?_) fun _ => h
  split
  · exact h
  · split
    · exact h
    · exact h.exchangeFallsDueInside

/-- R105: one group's record moves. -/
theorem Moves.setGroup (h : Moves writes s t) (i : Fin 8) {g : Group}
    (hg : GroupMove (t.bank.front.group.get i).fadeLength (t.mixer.groups.get i) g) :
    Moves writes s (t.setMixer { t.mixer with groups := t.mixer.groups.set i g }) := by
  refine h.trans (.groups fun j => ?_)
  by_cases hj : i = j
  · subst hj; simpa using hg
  · simpa [hj] using GroupMove.same

theorem moves_revertGroup (t : State) (i : Fin 8) : Moves writes t (t.revertGroup i) := by
  refine .ite (fun _ => ?_) fun _ => .refl t
  have reverted := (Moves.refl (writes := writes) t).setGroup i .revert
  exact .ite (fun _ => reverted) fun _ => reverted.retargetGroup i

theorem Moves.groupsRead (h : Moves writes s t) (x : Acceptance) : Moves writes s (t.groupsRead x) :=
  .ite (fun _ => (h.trans (Moves.foldl moves_revertGroup _ t)).run) fun _ => h

theorem Moves.otherReads (h : Moves writes s t) (x : Acceptance) : Moves writes s (t.otherReads x) := (h.reDiverged _).handSettled _

theorem Moves.readerTakes (h : Moves writes s t) (x : Acceptance) : ∀ y, Moves writes s (State.readerTakes x t y)
  | .health => h.takeAcceptance.healthReads x
  | .guardMonitor => h.takeAcceptance.guardReads x
  | .alignment => h.alignmentReads x
  | .showClock => h.takeAcceptance.clockReads x
  | .matchers => h.takeAcceptance.matchersRead x
  | .arbiter => h.takeAcceptance.arbiterReads x
  | .bankStore => h.takeAcceptance.bankReads x
  | .groupMixer => h.takeAcceptance.groupsRead x
  | .otherParser => h.takeAcceptance.otherReads x

theorem Moves.readersTake (x : Acceptance) :
    ∀ (l : List BeaconReader) {t : State}, Moves writes s t → Moves writes s (State.readersTake x l t)
  | [], _, h => h
  | y :: rest, _, h => Moves.readersTake x rest ((h.setComing _).readerTakes x y)

theorem Moves.rejectBeacon (h : Moves writes s t) (r : Rig) (k : FaultKind) : Moves writes s (t.rejectBeacon r k) :=
  (h.setParser _ _).applyEvidence _ _

theorem Moves.acceptBeacon (h : Moves writes s t) (r : Rig) (j : Judging) (l : List BeaconReader) :
    Moves writes s (t.acceptBeacon r j l) :=
  (((h.outer (bs := [.parsers]) (Touches.refl.replaceRecord (by decide))).readersTake _ _).setComing _).handNew

theorem Moves.judgeBeacon (h : Moves writes s t) (r : Rig) (l : List BeaconReader) : Moves writes s (t.judgeBeacon r l) := by
  unfold State.judgeBeacon
  split
  · exact h
  · exact .ite (fun _ => (h.setParser _ _).rejectBeacon _ _) fun _ =>
      .ite (fun _ => (h.setParser _ _).rejectBeacon _ _) fun _ => (h.setParser _ _).acceptBeacon _ _ _

/-! ### Links and windows -/

theorem Moves.frameArrives (h : Moves writes s t) (r : Rig) (f : Option Frame) : Moves writes s (t.frameArrives r f) :=
  .ite (fun _ => (h.setLink _ _).applyEvidence _ _) fun _ => h.setLink _ _

theorem Moves.takeMissingFrame (h : Moves writes s t) (r : Rig) : Moves writes s (t.takeMissingFrame r) :=
  .ite (fun _ => (h.setLink _ _).frameArrives _ _) fun _ => h

theorem Moves.takeLockGained (h : Moves writes s t) (r : Rig) : Moves writes s (t.takeLockGained r) :=
  .ite (fun _ => ((h.setLink _ _).setParser _ _).reEligible.run) fun _ => h

theorem Moves.takeLockLost (h : Moves writes s t) (r : Rig) : Moves writes s (t.takeLockLost r) :=
  .ite (fun _ => ((((h.judgeBeacon r []).setLink r _).silentAbandon r).recordAbsent r).reEligible.run.applyEvidence _ _)
    fun _ => h

theorem Moves.closeBad (h : Moves writes s t) (r : Rig) (x : Table 4 Bool) : Moves writes s (t.closeBad r x) :=
  (h.setLink _ _).frameArrives _ _

theorem Moves.closeWindow (h : Moves writes s t) (r : Rig) : Moves writes s (t.closeWindow r) := by
  unfold State.closeWindow
  dsimp only
  split
  · exact h
  · exact .ite (fun _ => (h.setLink _ _).frameArrives _ _) fun _ => h.closeBad _ _

theorem Moves.closeDueWindow (h : Moves writes s t) (r : Rig) : Moves writes s (t.closeDueWindow r) :=
  .ite (fun _ => ((h.closeWindow r).takeLockLost r).takeLockGained r) fun _ => h

theorem Moves.closeDueWindows (h : Moves writes s t) : Moves writes s t.closeDueWindows := (h.closeDueWindow .a).closeDueWindow .b

theorem Moves.takeLinkAbsent (h : Moves writes s t) (r : Rig) : Moves writes s (t.takeLinkAbsent r) := by
  refine .ite (fun _ => ?_) fun _ => h
  refine Moves.run (Moves.reEligible (Moves.handHealth (.ite (fun _ => ?_) fun _ => Moves.missingBegins ?_ r) r))
  all_goals
    exact (((((h.judgeBeacon r []).setLink r _).moveHealth r _).silentAbandon r).recordAbsent r).setParser r _

theorem Moves.takeMissingPresent (h : Moves writes s t) (r : Rig) : Moves writes s (t.takeMissingPresent r) := by
  have judged := (Moves.ite (p := t.missingDue r = true) (fun _ => h.closeDueWindow r) fun _ => h).judgeBeacon r []
  exact .ite (fun _ => judged.missingBegins r) fun _ => judged

/-! ### The instant -/

theorem Moves.takeQualification (h : Moves writes s t) (r : Rig) : Moves writes s (t.takeQualification r) :=
  .ite (fun _ => (h.moveHealth r _).handSettled r) fun _ => h

theorem Moves.takeRestoreComplete (h : Moves writes s t) (r : Rig) : Moves writes s (t.takeRestoreComplete r) :=
  .ite (fun _ => (h.moveHealth r _).handSettled r) fun _ => h

theorem Moves.settleRig (h : Moves writes s t) (r : Rig) : Moves writes s (t.settleRig r) := by
  have settled := h.outer (bs := [.health]) (Touches.refl.settleUnguarded (r := r) (by decide))
  exact .ite (fun _ => settled) fun _ => (settled.takeQualification r).takeRestoreComplete r

theorem Moves.resolve (h : Moves writes s t) : Moves writes s t.resolve :=
  ((((((h.takeAcceptance.takeLockLost .a).takeLockLost .b).takeLockGained .a).takeLockGained .b).settleRig .a).settleRig
    .b).handNew.takeAlignmentHeld.takeHoldLimit.takeFreewheelLimit

theorem Moves.takeInstantEvidence (h : Moves writes s t) : Moves writes s t.takeInstantEvidence :=
  (((((((h.takeMissingFrame .a).takeMissingFrame .b).resolve.takeLinkAbsent .a).takeLinkAbsent .b).judgeBeacon .a
    []).judgeBeacon .b []).takeMissingPresent .a |>.takeMissingPresent .b).resolve

theorem Moves.takeTransitionComplete (h : Moves writes s t) (i : Fin 8) : Moves writes s (t.takeTransitionComplete i) := by
  unfold State.takeTransitionComplete
  split
  · exact h
  · exact .ite (fun _ => (h.retargetGroup i).run) fun _ => h

theorem Moves.setUnguarded (h : Moves writes s t) (x : Option (PerRig Unguarded)) : Moves writes s (t.setUnguarded x) :=
  h.outer (bs := [.health]) (Touches.refl.setUnguarded (by decide))

theorem Moves.takeTickEnd (h : Moves writes s t) (r : Rig) : Moves writes s (t.takeTickEnd r) := by
  refine .ite (fun _ => ?_) fun _ => h
  have ended := (h.closeDueWindows.takeInstantEvidence.outer (bs := [.tickDue])
    (Touches.refl.setTickDue (x := false) (by decide))).setUnguarded none
  have judged := ended.outer (bs := [.parsers, .guards, .health]) (Touches.refl.judgeTick (by decide))
  exact (((judged.setUnguarded _).setAlignment (alignMove_tick _ _)).handSettled r).handSettled _

theorem Moves.handLast (h : Moves writes s t) (r : Rig) : Moves writes s (t.handLast r) :=
  (h.outer (bs := [.health]) (Touches.refl.standGuards (r := r) (by decide))).resolve.handHealth r

theorem Moves.handBoth (h : Moves writes s t) : Moves writes s t.handBoth := (h.handLast _).handLast _

theorem Moves.closeInstant (h : Moves writes s t) : Moves writes s t.closeInstant := by
  have completed := h.resolve.takeInstantEvidence.trans
    (Moves.foldl (fun u i => (Moves.refl u).takeTransitionComplete i) (List.finRange 8) _)
  have handed := ((completed.outer (bs := [.showClock]) (Touches.refl.takeSlewStep (by decide))).takeTickEnd .a).resolve.handBoth
  have examined := (handed.outer (bs := [.showClock, .tcOutput])
    ((Touches.refl.takeRecordSendEnd (by decide)).takeFrameBoundary (by decide))).resolve
  exact examined.outer (bs := [.showClock, .tcOutput, .lamps, .health])
    (((Touches.refl.takeHeldRecord (by decide)).takeLampStep (by decide)).endInstant (by decide))

theorem Moves.closeMoment (h : Moves writes s t) : Moves writes s t.closeMoment := h.closeDueWindows.closeInstant

theorem Moves.sampleLink (h : Moves writes s t) (r : Rig) : Moves writes s (t.sampleLink r).1 := by
  have read := h.setLink r (t.links.get r).read.2.1.watch
  have written := read.trans (.ring r (ringPos t.clock.count) (t.links.get r).read.1 (ringPos_lt _))
  have guarded := written.outer (bs := [.guards])
    (Touches.refl.guardSample (r := r) (f := (t.links.get r).read.1) (by decide))
  exact guarded.setParser r _

theorem Moves.instantBlocks (h : Moves writes s t) : Moves writes s t.instantBlocks.1 := by
  have counted := h.outer (bs := [.clock, .tickDue]) (Touches.refl.countInstant (by decide))
  have produced := ((counted.sampleLink .a).sampleLink .b).produce
  exact produced.outer (bs := [.showClock, .tcOutput, .lamps])
    (((Touches.refl.setShowClock (by decide)).setTcOutput (by decide)).setLamps (by decide))

theorem Moves.instant (h : Moves writes s t) : Moves writes s t.instant := ((h.instantBlocks.takeEvidence .a _).takeEvidence .b _).handNew

theorem Moves.sampleInstant (h : Moves writes s t) : Moves writes s t.sampleInstant := h.closeInstant.instant

/-! ### Time -/

theorem Moves.later (h : Moves writes s t) (n : Nat) : Moves writes s (t.later n) :=
  h.outer (bs := [.clock, .links, .parsers])
    (((Touches.refl.setClock (by decide)).setLinks (by decide)).setParsers (by decide))

theorem Moves.takeClock (h : Moves writes s t) : ∀ e, Moves writes s (t.takeClock e)
  | .substituted => h.sampleInstant.setClock _
  | .holdover => h.sampleInstant
  | .loss => (h.setClock _).raiseAll _
  | .timeout => h.setClock _

theorem Moves.takeTimed (h : Moves writes s t) : ∀ e, Moves writes s (t.takeTimed e)
  | .clock e => h.takeClock e
  | .window r => h.closeWindow r

theorem Moves.elapseWith : ∀ (n d : Nat) {t : State}, Moves writes s t → Moves writes s (elapseWith n d t)
  | 0, d, _, h => h.later d
  | n + 1, d, t, h => by
    unfold Machine.elapseWith
    split
    · exact h.later d
    · exact .ite (fun _ => Moves.elapseWith n _ ((h.later _).takeTimed _).closeMoment) fun _ => h.later d

theorem Moves.elapse (h : Moves writes s t) (d : Nat) : Moves writes s (t.elapse d) :=
  .ite (fun _ => h) fun _ => h.closeMoment.elapseWith _ _

theorem Moves.takeClockReturn (h : Moves writes s t) : Moves writes s t.takeClockReturn := by
  refine .ite (fun _ => ?_) fun _ => h
  have locked := (h.setClock { t.clock with source := .locked, returnCounter := 0 }).raiseAll .clockHoldover
  exact .ite (fun _ => locked.sampleInstant) fun _ => locked.setClock _

theorem Moves.prepare (h : Moves writes s t) : Moves writes s t.prepare := h.takeClockReturn.resolve

theorem Moves.houseEdge (h : Moves writes s t) : Moves writes s t.houseEdge := by
  unfold State.houseEdge
  split
  · exact .ite (fun _ => h.sampleInstant.setClock _) fun _ => h.setClock _
  · split
    · exact h.setClock _
    · exact (h.setClock _).setClock _

theorem Moves.clockEvent (h : Moves writes s t) (e : ClockEvent) : Moves writes s (t.clockEvent e) := by
  unfold State.clockEvent
  split
  · exact h
  · exact .ite (fun _ => (h.elapse _).takeClock e) fun _ => h.elapse _

theorem Moves.linkDues (h : Moves writes s t) (r : Rig) : Moves writes s (t.linkDues r) := (h.takeMissingFrame r).resolve.takeLinkAbsent r

theorem Moves.laneMarker (h : Moves writes s t) (r : Rig) (i : Fin 4) (x : Table 4 Bool) : Moves writes s (t.laneMarker r i x) := by
  have closed : Moves writes s (match ((t.linkDues r).links.get r).window with
      | none => t.linkDues r
      | some w =>
        if w.expired (t.linkDues r).nominal then ((t.linkDues r).closeWindow r).resolve
        else if w.marked.get i then ((t.linkDues r).closeBad r ((lanesNot x).set i true)).resolve
        else t.linkDues r) := by
    split
    · exact h.linkDues r
    · exact .ite (fun _ => ((h.linkDues r).closeWindow r).resolve) fun _ =>
        .ite (fun _ => ((h.linkDues r).closeBad r _).resolve) fun _ => h.linkDues r
  unfold State.laneMarker
  dsimp only
  split <;> exact closed.setLink _ _

theorem Moves.frameArrival (h : Moves writes s t) (r : Rig) (x : LaneFrames) : Moves writes s (t.frameArrival r x) := by
  unfold State.frameArrival
  dsimp only
  split
  · exact h
  · exact .ite (fun _ => (h.setLink _ _).closeWindow r) fun _ => h.setLink _ _

end Sys2Proof.Machine

/-! PROOFS. Every command but FULL_RESET is a chain of moves, up to its own port's notices where it acknowledges them. -/

namespace Sys2Proof.Machine

open Sys2Proof

/- In order: bodies elaborated side by side while the kernel still checks the text above each hold a thread's stack. -/
set_option Elab.async false

variable {s t u : State}

/-! ### Transactions -/

theorem Moves.setPort (h : Moves True s t) (q : Port) {c : ControlPort} (hc : c.notices = (t.ports.get q).notices) :
    Moves True s (t.setPort q c) :=
  h.trans (.ports (Touches.refl.setPort (by decide)) (noticesKept_setPort t q c fun n hn => by rwa [hc]))

theorem Moves.select (h : Moves True s t) (q : Port) : Moves True s (t.select q) := h.setPort q rfl

theorem Moves.deselect (h : Moves True s t) (q : Port) (r : ResultCode) : Moves True s (t.deselect q r) :=
  .ite (fun _ => h.setPort q rfl) fun _ =>
    (h.setPort q (c := { t.ports.get q with tx := .idle, lastResult := r }) rfl).raiseOn q .refused

theorem Moves.endRead (h : Moves True s t) (q : Port) : Moves True s (t.endRead q) := by
  unfold State.endRead
  split
  · exact h
  · exact h.setPort q rfl
  · exact h.deselect q _
  · exact h.deselect q _

theorem Moves.begin (h : Moves True s t) (q : Port) : Moves True s (t.begin q) := by
  unfold State.begin
  split
  · exact h.select q
  · exact h
  · exact (h.endRead q).select q
  · exact (h.endRead q).select q

theorem Moves.opened (h : Moves True s t) (q : Port) (n : Nat) : Moves True s (t.opened q n) := (h.prepare.begin q).setPort q rfl

/-- R178: a transaction is a chain of moves where its owner's answer is one. -/
theorem Moves.transact (h : Moves True s t) (q : Port) (n : Nat) (f : State → Option ResultCode) {o : State → Answer}
    (ho : ∀ v, Moves True v (o v).1) : Moves True s (t.transact q n f o) := by
  have opened := h.opened q n
  unfold State.transact
  dsimp only
  split
  · exact opened.deselect q _
  · split
    · rename_i v hv
      have owned := ho (t.opened q n)
      rw [hv] at owned
      exact (opened.trans owned).deselect q _
    · exact opened.deselect q _

theorem Moves.command (h : Moves True s t) (q : Port) (code : Byte) (n : Nat) (right : Right) (body : List Byte)
    {o : State → Answer} (ho : ∀ v, Moves True v (o v).1) : Moves True s (t.command q code n right body o) := h.transact q _ _ ho

theorem Moves.writeCommand (h : Moves True s t) (q : Port) (bytes : List Byte) {o : WriteRequest → State → Answer}
    (ho : ∀ w v, Moves True v (o w v).1) : Moves True s (t.writeCommand q bytes o) := by
  refine h.transact q _ _ fun v => ?_
  split
  · exact .refl v
  · exact ho _ v

/-! ### START, STOP, TAKE and SET_MODE -/

theorem linesMove_baseDelays (s : State) : LinesMove s.bank.setup.baseDelay s.lines s.baseDelays.lines := by
  rintro (_ | _) <;> exact ⟨rfl, .inr rfl⟩

/-- R82: the song in force once rig `r` is on air: that of its record, if present. -/
def State.songOn (s : State) (r : Rig) : Byte :=
  match (s.parsers.get r).record with
  | none => s.arbiter.song
  | some rec => rec.song

theorem State.updateSong_of_onAir {r : Rig} (h : s.arbiter.onAir = some r) :
    s.updateSong = s.setArbiter { s.arbiter with song := s.songOn r } := by
  unfold State.updateSong State.songOn
  rw [h]
  dsimp only
  cases (s.parsers.get r).record <;> rfl

/-- R84: the part a START hands its on-air rig to, before the delay is settled. -/
def State.started (s : State) (r : Rig) : State :=
  let down := (s.handed r).down
  let s := s.baseDelays
  let s := s.setArbiter { s.arbiter with state := if down then .blind else .steady, onAir := some r, outgoing := none }
  let s := s.updateSong.raiseAll .onAirChanged
  let s := if down then s.raiseAll .blindEntered else s
  s.setBank { s.bank with claim := none }

theorem State.startShow_eq (s : State) (r : Rig) : s.startShow r = (s.started r).handOnAir.run := rfl

/-- R184: raising a notice or not is raising it where a condition holds. -/
theorem touches_raiseIf (v : State) (b : Bool) (n : Notice) : Touches [.ports] v (if b then v.raiseAll n else v) := by
  split
  · exact Touches.refl.raiseAll (by decide)
  · exact .refl

theorem noticesKept_raiseIf (v : State) (b : Bool) (n : Notice) : NoticesKept v (if b then v.raiseAll n else v) := by
  split
  · exact noticesKept_raiseAll v n
  · exact .refl v

theorem State.touches_started (s : State) (r : Rig) : Touches [.lines, .arbiter, .bank, .ports] s (s.started r) :=
  (((((Touches.refl.baseDelays (by decide)).setArbiter (by decide)).updateSong (by decide)).raiseAll (by decide)).andThen
    (touches_raiseIf _ _ _) (by decide)).setBank (by decide)

theorem State.started_arbiter (s : State) (r : Rig) : (s.started r).arbiter = { s.arbiter with
    state := if (s.handed r).down then .blind else .steady, onAir := some r, outgoing := none, song := s.songOn r } := by
  unfold State.started
  rw [setBank_arbiter, (touches_raiseIf _ _ _).arbiter, State.updateSong_of_onAir rfl]
  rfl

theorem State.started_lines (s : State) (r : Rig) : (s.started r).lines = s.baseDelays.lines := by
  unfold State.started
  rw [setBank_lines, (touches_raiseIf _ _ _).lines, State.updateSong_of_onAir rfl]
  rfl

theorem State.started_bank (s : State) (r : Rig) : (s.started r).bank = { s.bank with claim := none } := by
  unfold State.started
  rw [setBank_bank, (touches_raiseIf _ _ _).bank, State.updateSong_of_onAir rfl]
  rfl

theorem State.started_notices (s : State) (r : Rig) : NoticesKept s (s.started r) := by
  unfold State.started
  dsimp only
  rw [State.updateSong_of_onAir rfl]
  refine NoticesKept.trans ?_ (.of_ports (setBank_ports _ _))
  refine NoticesKept.trans ?_ (noticesKept_raiseIf _ _ _)
  exact noticesKept_raiseAll_of rfl

theorem State.settling_started (s : State) (r : Rig) (hs : s.arbiter.state = .stopped) : Settling s (s.started r) where
  arbiter := by
    rw [s.started_arbiter]
    exact .inl (.start hs r _ _ (by split <;> simp))
  alignment := .inl (s.touches_started r).alignment
  lines := by rw [s.started_lines]; exact linesMove_baseDelays s
  mixer := (s.touches_started r).mixer
  bank := by rw [s.started_bank]; exact .of_same rfl rfl rfl
  setup := by rw [s.started_bank]
  notices := s.started_notices r
  device := (s.touches_started r).device
  queue := (s.touches_started r).pending

theorem Moves.startShow (h : Moves True s t) (r : Rig) (hs : t.arbiter.state = .stopped) : Moves True s (t.startShow r) :=
  (h.trans (.settle (t.settling_started r hs))).reEligible.clockReevaluate.handTargets.run

theorem moves_answerStart (rig : Option Rig) (v : State) : Moves True v (v.answerStart rig).1 := by
  unfold State.answerStart
  split
  · exact .refl v
  · split
    · exact .refl v
    · rename_i hs
      split
      · exact (Moves.refl (writes := True) v).startShow _ (not_not.mp hs)
      · exact .refl v

/-- R85: the part a STOP leaves before the delay is settled. -/
def State.showEnded (s : State) : State :=
  let s := if s.arbiter.state = .changing then s.closeEntry .aborted else s
  let s := s.setArbiter { s.arbiter with state := .stopped, onAir := none, outgoing := none }
  let s := (s.raiseAll .onAirChanged).clockIdle
  s.setBank { s.bank with claim := none, exchange := none }

theorem State.stopShow_eq (s : State) : s.stopShow = s.showEnded.settleDelay.reEligible.retargetAll := rfl

/-- R85, R101: the arbiter once the show has ended. -/
def Arbiter.ended (x : Arbiter) : Arbiter :=
  { x with
    state := .stopped, onAir := none, outgoing := none
    history := if x.state = .changing then closedHistory .aborted x.history else x.history }

theorem State.showEnded_eq (s : State) : s.showEnded =
    ((s.setArbiter s.arbiter.ended).raiseAll .onAirChanged).clockIdle.setBank { s.bank with claim := none, exchange := none } := by
  unfold State.showEnded Arbiter.ended
  by_cases hc : s.arbiter.state = .changing <;> simp only [hc, if_true, if_false] <;> rfl

theorem State.settling_showEnded (s : State) : Settling s s.showEnded := by
  rw [State.showEnded_eq]
  exact {
    arbiter := .inl (.stop s.arbiter.inhibit s.arbiter.eligible)
    alignment := .inl rfl
    lines := .refl _ _
    mixer := rfl
    bank := .of_same rfl rfl rfl
    setup := rfl
    notices := noticesKept_raiseAll (s.setArbiter s.arbiter.ended) .onAirChanged
    device := rfl
    queue := rfl }

theorem Moves.stopShow (h : Moves True s t) : Moves True s t.stopShow :=
  (h.trans (.settle t.settling_showEnded)).reEligible.retargetAll

theorem moves_answerStop (v : State) : Moves True v v.answerStop.1 := by
  unfold State.answerStop
  split
  · exact .refl v
  · exact (Moves.refl (writes := True) v).stopShow

theorem moves_answerTake (rig : Option Rig) (force : Option Bool) (v : State) : Moves True v (v.answerTake rig force).1 := by
  have change : ∀ c, v.arbiter.state ≠ .changing → Moves True v (v.enterChanging c).run :=
    fun c hc => ((Moves.refl (writes := True) v).enterChanging c hc).run
  unfold State.answerTake
  split
  · exact .refl v
  · exact .refl v
  · split
    · exact .refl v
    · rename_i changing
      split
      · exact .refl v
      · exact ((Moves.refl (writes := True) v).reverse changing).run
    all_goals
      rename_i resting
      split
      · exact .refl v
      · split
        · exact change _ (by simp [resting])
        · split
          · exact change _ (by simp [resting])
          · exact .refl v

theorem arbMove_change (x : Arbiter) (m : ModeChange) : ArbMove x (x.change m) := by
  cases m <;> exact .soft ..

theorem moves_answerMode (m : Option ModeChange) (v : State) : Moves True v (v.answerMode m).1 := by
  unfold State.answerMode
  split
  · exact .refl v
  · exact ((Moves.refl (writes := True) v).setArbiter (arbMove_change _ _)).run

/-! ### The Bank Store's answers -/

theorem readGroup_fade {l : List Byte} {e : GroupEntry} (h : readGroup l = some e) : e.fadeLength ≤ 4095 := by
  unfold readGroup at h
  split at h
  · rename_i hi lo p
    cases hp : policyOf p with
    | none => simp [hp] at h
    | some y =>
      simp only [hp, Option.bind_eq_bind, Option.bind_some, Option.pure_def, Option.some.injEq] at h
      subst h
      simp [clamp]
  · simp at h

theorem readSetup_base {l : List Byte} {u : ShowSetup} (h : readSetup l = some u) : u.baseDelay ≤ 1023 := by
  unfold readSetup at h
  split at h
  · simp only [Option.bind_eq_bind, Option.bind_eq_some_iff, Option.pure_def, Option.some.injEq] at h
    obtain ⟨_, -, _, -, _, -, _, -, _, -, _, -, _, -, rfl⟩ := h
    simp [clamp]
  · simp at h

/-- What holds of every entry read holds of every entry stored, where it held before. -/
theorem storeFrom_all {n : Nat} {α : Type} {p : α → Prop} {f : List Byte → Option α} (hf : ∀ l x, f l = some x → p x)
    {w : WriteRequest} {len : Nat} {ys : List α} (hy : w.entries len f = some ys) {x : Table n α}
    (hx : ∀ i, p (x.get i)) (i : Fin n) : p ((storeFrom x w.first ys).get i) := by
  rw [storeFrom_get]
  split
  · have mem : ys[i.val - w.first]'(by omega) ∈ ys := List.getElem_mem _
    have read : (some (ys[i.val - w.first]'(by omega))) ∈ (pieces len w.count w.data).map f := by
      rw [readAll_some hy]
      exact List.mem_map_of_mem mem
    obtain ⟨l, -, hl⟩ := List.mem_map.mp read
    exact hf l _ hl
  · exact hx i

/-- R160: a WRITE to a banked table leaves the fade lengths in their range. -/
theorem Bank.written_fades {b c : Bank} {x : BankedTable} {w : WriteRequest} (h : b.written x w = some c)
    (hb : ∀ i, (b.group.get i).fadeLength ≤ 4095) (i : Fin 8) : (c.group.get i).fadeLength ≤ 4095 := by
  cases x
  case group =>
    obtain ⟨ys, hy, rfl⟩ := Option.map_eq_some_iff.mp h
    exact storeFrom_all (p := fun e : GroupEntry => e.fadeLength ≤ 4095) (fun _ _ => readGroup_fade) hy hb i
  case monitorPolicy =>
    simp only [Bank.written] at h
    split at h
    · cases h; exact hb i
    · simp at h
  all_goals
    obtain ⟨ys, -, rfl⟩ := Option.map_eq_some_iff.mp h
    exact hb i

theorem touches_guardRestartUnder (v : State) (old : Bank) : Touches [.parsers, .guards, .health] v (v.guardRestartUnder old) := by
  have restarted : Touches [.parsers, .guards, .health] (v.setBank { v.bank with front := old })
      (v.setBank { v.bank with front := old }).guardRestartBoth := Touches.refl.guardRestartBoth (by decide)
  intro b hb
  have same := restarted b hb
  cases b <;> first | exact same | rfl

theorem Moves.frontWritten (h : Moves True s t) (x : BankedTable) (old : Bank) : Moves True s (t.frontWritten x old) := by
  have restart := fun v : State => (Moves.refl (writes := True) v).outer (touches_guardRestartUnder v old)
  cases x
  case route => exact .ite (fun _ => h) fun _ => (h.trans (restart t)).handBothWith moves_run
  case group => exact h.retargetAll.run
  case song => exact (h.outer (bs := [.showClock]) (Touches.refl.rebase (by decide))).run
  case matcher => exact .ite (fun _ => h) fun _ => h.setMatchers _
  case faultPolicy =>
    exact (h.outer (bs := [.health]) ((Touches.refl.policyChange (r := .a) (f := old.fault) (by decide)).policyChange
      (r := .b) (f := old.fault) (by decide))).handBothWith moves_run
  case monitorPolicy =>
    have restarted := Moves.ite (p := t.bank.front.monitor.silenceExponent = old.monitor.silenceExponent)
      (fun _ => h) fun _ => h.trans (restart t)
    exact (restarted.outer (bs := [.health]) ((Touches.refl.restoreChange (r := .a) (by decide)).restoreChange
      (r := .b) (by decide))).handBothWith moves_run

theorem Moves.takeClaim (h : Moves True s t) (q : Port) : Moves True s (t.takeClaim q) := h.setBank (.of_same rfl rfl rfl)

theorem moves_answerTable (q : Port) (x : BankedTable) (w : WriteRequest) (v : State) :
    Moves True v (v.answerTable q x w).1 := by
  unfold State.answerTable
  split
  · exact .refl v
  · split
    · exact .refl v
    · dsimp only
      split
      · exact .refl v
      · rename_i b hb
        have claimed := (Moves.refl (writes := True) v).takeClaim q
        split
        · rename_i front
          have editable : v.editable = v.bank.front := if_pos front
          rw [editable] at hb
          exact (claimed.setBank (x := { (v.takeClaim q).bank with front := b })
            ⟨fun f => ⟨Bank.written_fades hb f.1, f.2⟩, id⟩).frontWritten x _
        · rename_i front
          have editable : v.editable = v.bank.back := if_neg front
          rw [editable] at hb
          exact claimed.setBank (x := { (v.takeClaim q).bank with back := b })
            ⟨fun f => ⟨f.1, Bank.written_fades hb f.2⟩, id⟩

theorem Moves.newRate (h : Moves True s t) : Moves True s t.newRate := by
  unfold State.newRate
  dsimp only
  split
  · exact (h.setClock _).raiseAll _
  · exact h.setClock _

theorem Moves.reMissing (h : Moves True s t) (r : Rig) : Moves True s (t.reMissing r) :=
  .ite (fun _ => .ite (fun _ => h) fun _ => h.missingBegins r) fun _ => h.setParser r _

theorem Moves.setupTaken (h : Moves True s t) (old : ShowSetup) : Moves True s (t.setupTaken old) := by
  have rated := Moves.ite (p := t.bank.setup.rate = old.rate) (fun _ => h) fun _ => h.newRate
  have pilotA := Moves.ite (p := t.bank.setup.pilot.a = old.pilot.a) (fun _ => rated) fun _ => rated.silentAbandon .a
  have pilotB := Moves.ite (p := t.bank.setup.pilot.b = old.pilot.b) (fun _ => pilotA) fun _ => pilotA.silentAbandon .b
  exact .ite (fun _ => pilotB) fun _ => (pilotB.reMissing .a).reMissing .b

theorem moves_answerSetup (w : WriteRequest) (v : State) : Moves True v (v.answerSetup w).1 := by
  unfold State.answerSetup
  split
  · exact .refl v
  · split
    · rename_i u hu
      have read : u.baseDelay ≤ 1023 := by
        have all := readAll_some hu
        have mem : some u ∈ (pieces 9 w.count w.data).map readSetup := by rw [all]; simp
        obtain ⟨l, -, hl⟩ := List.mem_map.mp mem
        exact readSetup_base hl
      exact ((Moves.refl (writes := True) v).setBank (x := { v.bank with setup := u }) ⟨id, fun _ => read⟩ (.inl trivial)).setupTaken _
    · exact .refl v

theorem moves_answerRelease (q : Port) (v : State) : Moves True v (v.answerRelease q).1 := by
  unfold State.answerRelease
  split
  · exact .refl v
  · have released := (Moves.refl (writes := True) v).setExchange none v.bank.exchange
    dsimp only
    split
    · exact released
    · split
      · exact released.raiseOn _ _
      · exact .refl v

theorem moves_answerCopy (q : Port) (v : State) : Moves True v (v.answerCopy q).1 := by
  unfold State.answerCopy
  split
  · exact .refl v
  · split
    · exact .refl v
    · split
      · exact .refl v
      · exact ((Moves.refl (writes := True) v).takeClaim q).setBank ⟨fun f => ⟨f.1, f.1⟩, id⟩

theorem Moves.pendExchange (h : Moves True s t) (x : Timing) (due : Bool) : Moves True s (t.pendExchange x due) := by
  have pending := h.setExchange t.bank.claim (some { timing := x, due })
  cases x
  · exact pending.exchangeFallsDue
  · exact pending

theorem moves_answerExchange (q : Port) (x : Option Timing) (v : State) : Moves True v (v.answerExchange q x).1 := by
  unfold State.answerExchange
  split
  · exact .refl v
  · split
    · exact .refl v
    · split
      · exact .refl v
      · split
        · rename_i e _
          split
          · exact (Moves.refl (writes := True) v).pendExchange .now e.due
          · exact .refl v
          · exact .refl v
        · split
          · exact (Moves.refl (writes := True) v).pendExchange ‹Timing› false
          · exact .refl v

theorem moves_answerCancel (q : Port) (v : State) : Moves True v (v.answerCancel q).1 := by
  unfold State.answerCancel
  split
  · exact .refl v
  · exact (Moves.refl (writes := True) v).setExchange v.bank.claim none

/-! ### The answers of the Group Mixer, the Show Clock and the panel -/

theorem Moves.assignGroup (h : Moves True s t) (i : Fin 8) (w : GroupWrite)
    (hw : (t.mixer.groups.get i).forbids w = false) : Moves True s (t.assignGroup i w) :=
  .ite (fun _ => h.setGroup i (.assign w hw)) fun _ => (h.setGroup i (.assign w hw)).retargetGroup i

theorem moves_answerGroup (i : Option (Fin 8)) (w : Option GroupWrite) (v : State) : Moves True v (v.answerGroup i w).1 := by
  unfold State.answerGroup
  split
  · exact .refl v
  · exact .refl v
  · split
    · exact .refl v
    · rename_i allowed
      exact ((Moves.refl (writes := True) v).assignGroup _ _ (Bool.eq_false_iff.mpr allowed)).run

theorem State.retargetGroup_get_ne (s : State) {i j : Fin 8} (h : j ≠ i) :
    (s.retargetGroup i).mixer.groups.get j = s.mixer.groups.get j := by
  simp [State.retargetGroup, Ne.symm h]

/-- R117: a SET_GROUP leaves the other groups. -/
theorem State.assignGroup_get_ne (s : State) {i j : Fin 8} (w : GroupWrite) (h : j ≠ i) :
    (s.assignGroup i w).mixer.groups.get j = s.mixer.groups.get j := by
  unfold State.assignGroup
  dsimp only
  split
  · simp [Ne.symm h]
  · rw [State.retargetGroup_get_ne _ h]
    simp [Ne.symm h]

/-- R122: the groups a WRITE addresses are addressed once each. -/
theorem addressed_nodup (first : Nat) (ws : List GroupWrite) : ((addressed first ws).map Prod.fst).Nodup := by
  have rising : ∀ n, ((ws.zipIdx n).filterMap fun p =>
      if h : first + p.2 < 8 then some ((⟨first + p.2, h⟩ : Fin 8), p.1) else none).Pairwise (fun x y => x.1 < y.1) := by
    intro n
    induction ws generalizing n with
    | nil => exact .nil
    | cons w ws ih =>
      rw [List.zipIdx_cons, List.filterMap_cons]
      split
      · exact ih _
      · rename_i p hp
        refine List.pairwise_cons.mpr ⟨fun y hy => ?_, ih _⟩
        obtain ⟨x, hx, hxy⟩ := List.mem_filterMap.mp hy
        have above := List.le_snd_of_mem_zipIdx hx
        split at hp <;> split at hxy <;> simp_all
        subst hp hxy
        simp only [Fin.mk_lt_mk]
        omega
  exact (List.pairwise_map.mpr ((rising 0).imp fun h => ne_of_lt h))

theorem moves_assignAll : ∀ (l : List (Fin 8 × GroupWrite)) (v : State), (l.map Prod.fst).Nodup →
    (∀ p ∈ l, (v.mixer.groups.get p.1).forbids p.2 = false) →
    Moves True v (l.foldl (fun s p => s.assignGroup p.1 p.2) v)
  | [], v, _, _ => .refl v
  | p :: l, v, hn, hf => by
    obtain ⟨fresh, nodup⟩ := List.nodup_cons.mp hn
    refine ((Moves.refl (writes := True) v).assignGroup p.1 p.2 (hf p (by simp))).trans (moves_assignAll l _ nodup fun x hx => ?_)
    have ne : x.1 ≠ p.1 := fun e => fresh (e ▸ List.mem_map_of_mem hx)
    rw [State.assignGroup_get_ne _ _ ne]
    exact hf x (by simp [hx])

theorem moves_answerGroups (w : WriteRequest) (v : State) : Moves True v (v.answerGroups w).1 := by
  unfold State.answerGroups
  split
  · exact .refl v
  · rename_i ws _
    dsimp only
    split
    · exact .refl v
    · rename_i allowed
      refine Moves.run (moves_assignAll _ v (addressed_nodup _ _) fun p hp => ?_)
      exact Bool.eq_false_iff.mpr fun hf => allowed (List.any_eq_true.mpr ⟨p, hp, hf⟩)

theorem moves_answerFinish (v : State) : Moves True v v.answerFinish.1 := by
  unfold State.answerFinish
  split
  · exact ((Moves.refl (writes := True) v).setShowClock _).raiseAll _
  · exact .refl v

theorem moves_answerControl (w : WriteRequest) (v : State) : Moves True v (v.answerControl w).1 := by
  unfold State.answerControl
  split
  · exact .refl v
  · split
    · exact (Moves.refl (writes := True) v).setShowClock _
    · exact .refl v

theorem State.restartArbiter_rest (s : State) : ArbRest s.arbiter s.restartArbiter.arbiter := by
  have stopped := ArbRest.stop (x := s.arbiter) false false
  unfold State.restartArbiter
  by_cases hc : s.arbiter.state = .changing <;> simpa [hc, State.closeEntry, closedHistory] using stopped

theorem noticesKept_restartHealth (v : State) : NoticesKept v v.restartHealth := by
  unfold State.restartHealth
  dsimp only
  split
  · exact noticesKept_raiseAll_of rfl
  · exact .of_ports rfl

/-- R24, R29, R45, R55, R103: the part once an engine restart has reached arbiter, parsers, monitors and health. -/
def State.rigsRestarted (s : State) : State :=
  let s := s.restartArbiter
  (s.setParsers ⟨s.parsers.a.restart s.links.a.state, s.parsers.b.restart s.links.b.state⟩).guardRestartBoth.restartHealth

/-- R63, R79: the part once it has reached the lines and the Alignment Monitor too. -/
def State.linesRestarted (s : State) : State :=
  let s := s.rigsRestarted
  (s.setLines ⟨TrimLine.restart s.bank.setup.baseDelay, TrimLine.restart s.bank.setup.baseDelay⟩).setAlignment Alignment.reset

theorem State.touches_guardsRestarted (s : State) (p : PerRig Parser) :
    Touches [.parsers, .guards, .health] s.restartArbiter (s.restartArbiter.setParsers p).guardRestartBoth :=
  (Touches.refl.setParsers (by decide)).guardRestartBoth (by decide)

theorem State.touches_rigsRestarted (s : State) :
    Touches [.parsers, .guards, .health, .ports] s.restartArbiter s.rigsRestarted :=
  ((s.touches_guardsRestarted _).mono (by decide)).restartHealth (by decide)

theorem State.touches_restartArbiter (s : State) : Touches [.arbiter] s s.restartArbiter :=
  Touches.refl.restartArbiter (by decide)

theorem State.restarting_linesRestarted (s : State) : Restarting s s.linesRestarted where
  arbiter := s.touches_rigsRestarted.arbiter ▸ s.restartArbiter_rest
  alignment := rfl
  lines := by
    have bank : s.rigsRestarted.bank = s.bank := s.touches_rigsRestarted.bank.trans s.touches_restartArbiter.bank
    rw [← bank]
    rfl
  mixer := s.touches_rigsRestarted.mixer.trans s.touches_restartArbiter.mixer
  bank := s.touches_rigsRestarted.bank.trans s.touches_restartArbiter.bank
  notices := ((NoticesKept.of_ports s.touches_restartArbiter.ports).trans
    (.of_ports (s.touches_guardsRestarted _).ports)).trans (noticesKept_restartHealth _)
  device := s.touches_rigsRestarted.device.trans s.touches_restartArbiter.device
  queue := s.touches_rigsRestarted.pending.trans s.touches_restartArbiter.pending

/-- R187: an engine restart is a chain of moves, up to Device Status and the notice it raises. -/
theorem engineRestart_moves (v : State) : ∃ u, Moves True v u ∧ Touches [.ports, .device] u v.engineRestart := by
  have restarted := (Moves.refl (writes := True) v).trans (.restart v.restarting_linesRestarted)
  have silent := (restarted.trans (.groups (x := { v.linesRestarted.mixer with
    groups := v.linesRestarted.mixer.groups.map Group.restart }) fun i => by simpa using GroupMove.restart)).retargetAll
  have idle := silent.outer (bs := [.showClock, .tcOutput, .matchers])
    ((Touches.refl.clockIdle (by decide)).clearMemories (by decide))
  exact ⟨_, (idle.setExchange none none).outer (bs := [.lamps]) (Touches.refl.setLamps (by decide)),
    (Touches.refl.setDevice (by decide)).raiseAll (by decide)⟩

theorem moves_answerClear (v : State) : Moves True v v.answerClear.1 :=
  (((Moves.refl (writes := True) v).moveHealth _ _).moveHealth _ _).setMatchers _

theorem moves_answerLamp (i : Option (Fin 6)) (o : Option (Option (Fin 8))) (v : State) : Moves True v (v.answerLamp i o).1 := by
  unfold State.answerLamp
  split
  · exact .refl v
  · exact .refl v
  · exact (Moves.refl (writes := True) v).outer (bs := [.lamps]) (Touches.refl.setOverride (by decide))

theorem moves_answerPatterns (w : WriteRequest) (v : State) : Moves True v (v.answerPatterns w).1 := by
  unfold State.answerPatterns
  split
  · exact .refl v
  · exact (Moves.refl (writes := True) v).outer (bs := [.lamps]) (Touches.refl.setLamps (by decide))

theorem moves_answerMask (q : Port) (w : WriteRequest) (v : State) : Moves True v (v.answerMask q w).1 := by
  unfold State.answerMask
  split
  · exact (Moves.refl (writes := True) v).setPort q rfl
  · exact .refl v

/-! ### READ, FRAMING and the select -/

theorem Moves.shiftByte (h : Moves True s t) (q : Port) (b : Byte) : Moves True s (t.shiftByte q b) := by
  unfold State.shiftByte
  dsimp only
  split
  · exact h
  · exact h
  · exact h.setPort q rfl
  · exact h.setPort q rfl

theorem Moves.shiftBytes (h : Moves True s t) (q : Port) (l : List Byte) : Moves True s (l.foldl (fun s b => s.shiftByte q b) t) :=
  h.trans (Moves.foldl (fun u b => (Moves.refl u).shiftByte q b) l t)

theorem Moves.openRead (h : Moves True s t) (q : Port) : Moves True s (t.openRead q) := by
  unfold State.openRead
  split
  · exact (h.select q).setPort q rfl
  · exact h.setPort q rfl
  · exact h
  · exact h

theorem Moves.shiftWhole (h : Moves True s t) (q : Port) (l : List Byte) : Moves True s (t.shiftWhole q l) := by
  unfold State.shiftWhole
  split
  · exact h
  · exact h
  · exact .ite (fun _ => (h.openRead q).shiftBytes q _) fun _ => h.setPort q rfl
  · exact h.shiftBytes q _
  · exact h.shiftBytes q _

/-! ### ACK, which alone takes notices back -/

theorem touches_answerAck (q : Port) (x : Option NoticeSet) (v : State) : Touches [.ports] v (v.answerAck q x).1 := by
  unfold State.answerAck
  split
  · exact .refl
  · exact Touches.refl.setPort (by decide)

/-- R178: a transaction whose owner's answer is a chain of moves and then more is one too. -/
theorem transact_moves_then {bs : List Block} (hb : [.ports] ⊆ bs) (v : State) (q : Port) (n : Nat)
    (f : State → Option ResultCode) {o : State → Answer} (ho : ∀ v, ∃ u, Moves True v u ∧ Touches bs u (o v).1) :
    ∃ u, Moves True v u ∧ Touches bs u (v.transact q n f o) := by
  have opened := (Moves.refl (writes := True) v).opened q n
  unfold State.transact
  dsimp only
  split
  · exact ⟨_, opened, Touches.refl.deselect hb⟩
  · split
    · rename_i w hw
      obtain ⟨u, chain, own⟩ := ho (v.opened q n)
      rw [hw] at own
      exact ⟨u, opened.trans chain, own.deselect hb⟩
    · exact ⟨_, opened, Touches.refl.deselect hb⟩

/-! ### The commands -/

/-- What every command but FULL_RESET does: a chain of moves, and what ACK does to its own port and RESTART to Device
Status. -/
theorem exec_moves (c : Instr) (s : State) (hc : ∀ cause, c ≠ .fullReset cause) :
    ∃ u t, exec c s = .next t ∧ Moves True s u ∧ Touches [.ports, .device] u t ∧
      ((∀ q body, c ≠ .restart q body) → t.device = u.device) := by
  have next : ∀ t, exec c s = .next t → Moves True s t → ∃ u t, exec c s = .next t ∧ Moves True s u ∧ Touches [.ports, .device] u t ∧
      ((∀ q body, c ≠ .restart q body) → t.device = u.device) := fun t h m => ⟨t, t, h, m, .refl, fun _ => rfl⟩
  have m := Moves.refl (writes := True) s
  cases c with
  | fullReset cause => exact absurd rfl (hc cause)
  | restart q b =>
    obtain ⟨u, chain, own⟩ := transact_moves_then (by decide) s q b.length _ (o := State.answerRestart) engineRestart_moves
    exact ⟨u, _, rfl, chain, own, fun h => absurd rfl (h q b)⟩
  | houseClockEdge d => exact next _ rfl (m.prepare.elapse _).houseEdge
  | substitutedIncrement => exact next _ rfl (m.prepare.clockEvent _)
  | holdoverIncrement => exact next _ rfl (m.prepare.clockEvent _)
  | clockLoss => exact next _ rfl (m.prepare.clockEvent _)
  | returnCounterTimeout => exact next _ rfl (m.prepare.clockEvent _)
  | clockReturn => exact next _ rfl m.takeClockReturn
  | laneFrameMarker d r i x => exact next _ rfl ((m.prepare.elapse d).laneMarker r i x)
  | frameArrival d r x => exact next _ rfl ((m.prepare.elapse d).frameArrival r x)
  | missingFrame r => exact next _ rfl (m.prepare.takeMissingFrame r)
  | lockGained r => exact next _ rfl (m.takeLockGained r)
  | lockLost r => exact next _ rfl (m.takeLockLost r)
  | linkAbsent r => exact next _ rfl (m.prepare.takeLinkAbsent r)
  | beaconComplete r l => exact next _ rfl (m.prepare.judgeBeacon r l)
  | missingPresent r => exact next _ rfl (m.prepare.takeMissingPresent r)
  | healthTickEnd r => exact next _ rfl (m.prepare.takeTickEnd r)
  | qualification r => exact next _ rfl (m.takeQualification r)
  | restoreComplete r => exact next _ rfl (m.takeRestoreComplete r)
  | clearHistory q b => exact next _ rfl (m.command _ _ _ _ _ moves_answerClear)
  | offsetAcceptance => exact next _ rfl m.takeAcceptance
  | alignmentHeld => exact next _ rfl m.takeAlignmentHeld
  | holdLimit => exact next _ rfl m.takeHoldLimit
  | start q b => exact next _ rfl (m.command _ _ _ _ _ (moves_answerStart _))
  | stop q b => exact next _ rfl (m.command _ _ _ _ _ moves_answerStop)
  | take q b => exact next _ rfl (m.command _ _ _ _ _ (moves_answerTake _ _))
  | setMode q b => exact next _ rfl (m.command _ _ _ _ _ (moves_answerMode _))
  | transitionComplete i => exact next _ rfl (m.prepare.takeTransitionComplete i)
  | setGroup q b => exact next _ rfl (m.command _ _ _ _ _ (moves_answerGroup _ _))
  | writeGroupState q b => exact next _ rfl (m.writeCommand _ _ moves_answerGroups)
  | slewStep =>
    exact next _ rfl (m.prepare.outer (bs := [.showClock]) (Touches.refl.takeSlewStep (by decide)))
  | freewheelLimit => exact next _ rfl m.takeFreewheelLimit
  | frameBoundary =>
    exact next _ rfl (m.prepare.outer (bs := [.showClock, .tcOutput]) (Touches.refl.takeFrameBoundary (by decide)))
  | heldRecord =>
    exact next _ rfl (m.prepare.outer (bs := [.showClock, .tcOutput]) (Touches.refl.takeHeldRecord (by decide)))
  | recordSendEnd =>
    exact next _ rfl (m.prepare.outer (bs := [.tcOutput]) (Touches.refl.takeRecordSendEnd (by decide)))
  | writeClockControl q b => exact next _ rfl (m.writeCommand _ _ moves_answerControl)
  | clockFinish q b => exact next _ rfl (m.command _ _ _ _ _ moves_answerFinish)
  | writeBankedTable q x b => exact next _ rfl (m.writeCommand _ _ (moves_answerTable q x))
  | writeShowSetup q b => exact next _ rfl (m.writeCommand _ _ moves_answerSetup)
  | releaseClaim q b => exact next _ rfl (m.command _ _ _ _ _ (moves_answerRelease q))
  | copyBank q b => exact next _ rfl (m.command _ _ _ _ _ (moves_answerCopy q))
  | exchange q b => exact next _ rfl (m.command _ _ _ _ _ (moves_answerExchange q _))
  | cancelExchange q b => exact next _ rfl (m.command _ _ _ _ _ (moves_answerCancel q))
  | portSelect q =>
    refine next _ rfl ?_
    split
    · exact m.prepare.select q
    all_goals exact m.prepare
  | read q part =>
    cases part with
    | shift l => exact next _ rfl ((m.prepare.openRead q).shiftBytes q l)
    | deselect => exact next _ rfl (m.prepare.endRead q)
  | write q b =>
    exact next _ rfl (.ite (fun _ => m.writeCommand _ _ fun _ v => .refl v) fun _ => m)
  | framing q cut =>
    refine next _ rfl (.ite (fun _ => ?_) fun _ => m)
    exact (Moves.shiftWhole (.ite (fun _ => m.prepare.select q) fun _ => m.prepare) q cut.bytes).deselect q _
  | unknown q code b => exact next _ rfl (.ite (fun _ => m) fun _ => m.transact _ _ _ fun v => .refl v)
  | ack q b =>
    obtain ⟨u, chain, own⟩ := transact_moves_then (by decide) s q b.length _ (o := State.answerAck q _)
      fun v => ⟨v, .refl v, touches_answerAck q _ v⟩
    exact ⟨u, _, rfl, chain, own.mono (by decide), fun _ => own.device⟩
  | writeNoticeMask q b => exact next _ rfl (m.writeCommand _ _ (moves_answerMask q))
  | lampStepBoundary =>
    exact next _ rfl (m.prepare.outer (bs := [.lamps]) (Touches.refl.takeLampStep (by decide)))
  | writeLampPatterns q b => exact next _ rfl (m.writeCommand _ _ moves_answerPatterns)
  | setLamp q b => exact next _ rfl (m.command _ _ _ _ _ (moves_answerLamp _ _))

end Sys2Proof.Machine

/-! PROOFS. The step, and the four laws: every move keeps them, so every step does. -/

namespace Sys2Proof.Machine

open Sys2Proof

/- In order: bodies elaborated side by side while the kernel still checks the text above each hold a thread's stack. -/
set_option Elab.async false

variable {s t u : State}

/-! ### What settling leaves (R67, R68) -/

theorem State.touches_settleDelay (s : State) : Touches [.lines, .alignment, .ports] s s.settleDelay :=
  Touches.refl.settleDelay (by decide)

theorem State.placeDelay_of_changing (s : State) (d : Int) (h : s.arbiter.state = .changing) :
    s.placeDelay d =
      s.setAlignment { s.alignment with deferred := some { link := s.arbiter.standby, delay := d.toNat }, lastRequired := some d } := by
  simp [State.placeDelay, h]

theorem State.placeDelay_of_not_changing (s : State) (d : Int) (h : s.arbiter.state ≠ .changing) :
    s.placeDelay d =
      (s.setDelay s.arbiter.standby d.toNat).setAlignment { s.alignment with deferred := none, lastRequired := some d } := by
  simp [State.placeDelay, h]

@[simp] theorem State.placeDelay_alignment_state (s : State) (d : Int) : (s.placeDelay d).alignment.state = s.alignment.state := by
  unfold State.placeDelay
  dsimp only
  split <;> rfl

@[simp] theorem State.placeDelay_alignment_accepted (s : State) (d : Int) :
    (s.placeDelay d).alignment.accepted = s.alignment.accepted := by
  unfold State.placeDelay
  dsimp only
  split <;> rfl

@[simp] theorem State.placeDelay_arbiter (s : State) (d : Int) : (s.placeDelay d).arbiter = s.arbiter :=
  (Touches.refl.placeDelay (by decide) : Touches [.lines, .alignment] s (s.placeDelay d)).arbiter

theorem inReach_iff (d : Int) : inReach d = true ↔ 0 ≤ d ∧ d ≤ 1023 := by simp [inReach]

/-- R61, R63: the lines `y` have the rings of `x`, and each delay stands or lies in its range. -/
def DelaysMoved (x y : PerRig TrimLine) : Prop :=
  ∀ r, (y.get r).rings = (x.get r).rings ∧ ((y.get r).delay = (x.get r).delay ∨ (y.get r).delay ≤ 1023)

theorem DelaysMoved.refl (x : PerRig TrimLine) : DelaysMoved x x := fun _ => ⟨rfl, .inl rfl⟩

theorem delaysMoved_setDelay (s : State) (r : Rig) {d : Nat} (hd : d ≤ 1023) : DelaysMoved s.lines (s.setDelay r d).lines := by
  intro q
  by_cases h : r = q
  · subst h; simp [State.setDelay, hd]
  · simp [State.setDelay, PerRig.get_set, Ne.symm h]

theorem delaysMoved_placeDelay (s : State) {d : Int} (hd : inReach d = true) : DelaysMoved s.lines (s.placeDelay d).lines := by
  obtain ⟨low, high⟩ := (inReach_iff d).mp hd
  by_cases h : s.arbiter.state = .changing
  · rw [s.placeDelay_of_changing d h]; exact .refl _
  · rw [s.placeDelay_of_not_changing d h]; exact delaysMoved_setDelay s _ (by omega)

theorem delaysMoved_settleDelay (s : State) : DelaysMoved s.lines s.settleDelay.lines := by
  unfold State.settleDelay
  dsimp only
  split
  · exact .refl _
  · exact .refl _
  · split
    · exact delaysMoved_placeDelay (s.setAlignment _) ‹_›
    · exact .refl _
  all_goals
    split
    · exact delaysMoved_placeDelay _ ‹_›
    · exact .refl _

/-- R67: with the standby delay placed outside CHANGING, the two delays differ by the offset. -/
theorem delays_of_placeDelay (s : State) (o : Int) (hs : s.arbiter.state ≠ .changing) (hd : inReach (s.requiredDelay o) = true) :
    ((s.placeDelay (s.requiredDelay o)).lines.a.delay : Int) - (s.placeDelay (s.requiredDelay o)).lines.b.delay = o := by
  obtain ⟨low, -⟩ := (inReach_iff _).mp hd
  rw [s.placeDelay_of_not_changing _ hs]
  unfold State.requiredDelay at low ⊢
  cases hr : s.arbiter.standby <;> rw [hr] at low <;>
    simp only [PerRig.get] at low <;> simp [State.setDelay, PerRig.set, PerRig.get] <;> omega

/-- R67, R68: the law of alignment holds once the delay is settled. -/
theorem aligned_settleDelay (s : State)
    (h : s.alignment.state = .accepted ∨ s.alignment.state = .held ∨ s.alignment.state = .outOfReach →
      s.alignment.accepted.isSome = true) : s.settleDelay.aligned := by
  unfold State.settleDelay
  dsimp only
  have placed : ∀ v : State, v.requiredDelay = s.requiredDelay → v.alignment.accepted = s.alignment.accepted →
      s.alignment.accepted.isSome = true → inReach (s.requiredDelay (s.alignment.accepted.getD 0)) = true →
      (v.placeDelay (s.requiredDelay (s.alignment.accepted.getD 0))).aligned := by
    intro v hv ha hs hd
    refine ⟨fun _ => by rwa [State.placeDelay_alignment_accepted, ha], fun _ hc => ?_⟩
    rw [State.placeDelay_arbiter] at hc
    rw [← hv] at hd ⊢
    rw [State.placeDelay_alignment_accepted, ha]
    exact delays_of_placeDelay v _ hc hd
  split
  · rename_i hx; simp [State.aligned, hx]
  · rename_i hx; simp [State.aligned, hx]
  · rename_i hx
    split
    · exact placed _ rfl rfl (h (.inr (.inr hx))) ‹_›
    · simpa [State.aligned, hx] using h (.inr (.inr hx))
  · rename_i hx
    split
    · exact placed s rfl rfl (h (.inl hx)) ‹_›
    · simpa [State.aligned, State.raiseAll] using h (.inl hx)
  · rename_i hx
    split
    · exact placed s rfl rfl (h (.inr (.inl hx))) ‹_›
    · simpa [State.aligned, State.raiseAll] using h (.inr (.inl hx))

/-! ### Every move keeps the laws -/

theorem Moves.keeps_arbiter_ok (h : Moves True s t) : s.arbiter.ok → t.arbiter.ok := by
  induction h with
  | frame h => rw [h.arbiter]; exact id
  | ports h => rw [h.arbiter]; exact id
  | arbiter h => exact h.ok
  | settle h =>
    intro ok
    rw [(State.touches_settleDelay _).arbiter]
    rcases h.arbiter with rest | same
    · exact rest.ok ok
    · rwa [same]
  | restart h => exact h.arbiter.ok
  | trans _ _ ih ik => exact ik ∘ ih
  | alignment | ring | groups | bank => exact id

theorem DelaysMoved.line_ok {x y : PerRig TrimLine} (h : DelaysMoved x y) (r : Rig) (ok : (x.get r).ok) : (y.get r).ok := by
  obtain ⟨rings, delay⟩ := h r
  refine ⟨by rw [rings]; exact ok.1, ?_⟩
  rcases delay with same | small
  · rw [same]; exact ok.2
  · exact small

/-- R61, R63: the law of the lines, rig by rig. -/
theorem State.linesOk_iff (s : State) : s.linesOk ↔ (∀ r, (s.lines.get r).ok) ∧ s.bank.setup.baseDelay ≤ 1023 :=
  ⟨fun ⟨a, b, base⟩ => ⟨fun r => by cases r <;> assumption, base⟩, fun ⟨h, base⟩ => ⟨h .a, h .b, base⟩⟩

theorem DelaysMoved.keeps_linesOk (h : DelaysMoved s.lines t.lines)
    (hb : s.bank.setup.baseDelay ≤ 1023 → t.bank.setup.baseDelay ≤ 1023) : s.linesOk → t.linesOk := by
  rw [State.linesOk_iff, State.linesOk_iff]
  exact fun ⟨ok, base⟩ => ⟨fun r => h.line_ok r (ok r), hb base⟩

theorem LinesMove.delaysMoved {base : Nat} {x y : PerRig TrimLine} (h : LinesMove base x y) (hb : base ≤ 1023) :
    DelaysMoved x y := by
  intro r
  obtain ⟨rings, delay⟩ := h r
  exact ⟨rings, delay.imp id fun e => by omega⟩

theorem Moves.keeps_linesOk (h : Moves True s t) : s.linesOk → t.linesOk := by
  induction h with
  | frame h => exact DelaysMoved.keeps_linesOk (h.lines ▸ .refl _) (by rw [h.bank]; exact id)
  | ports h => exact DelaysMoved.keeps_linesOk (h.lines ▸ .refl _) (by rw [h.bank]; exact id)
  | @settle s u h =>
    intro ok
    have readied : u.linesOk := (h.lines.delaysMoved ok.2.2).keeps_linesOk h.bank.base ok
    exact (delaysMoved_settleDelay _).keeps_linesOk (by rw [(State.touches_settleDelay _).bank]; exact id) readied
  | @restart s u h =>
    rintro ⟨-, -, base⟩
    have restarted : (TrimLine.restart s.bank.setup.baseDelay).ok := ⟨rings_reset_wf, base⟩
    refine (State.linesOk_iff _).mpr ⟨fun r => ?_, by rw [h.bank]; exact base⟩
    rw [h.lines]
    cases r <;> exact restarted
  | @ring s r pos f hp =>
    rw [State.linesOk_iff, State.linesOk_iff]
    rintro ⟨ok, base⟩
    refine ⟨fun q => ?_, base⟩
    rw [setLines_lines, PerRig.get_set]
    split
    · exact ⟨ringWrite_wf (ok r).1 hp, (ok r).2⟩
    · exact ok q
  | bank h => exact DelaysMoved.keeps_linesOk (.refl _) h.base
  | trans _ _ ih ik => exact ik ∘ ih
  | arbiter | alignment | groups => exact id

/-! ### The group records -/

theorem Group.ok_land {g : Group} (h : g.ok) : g.land.ok := by
  unfold Group.land
  split
  · exact h
  · split
    · exact ⟨rfl, h.2⟩
    · exact h

theorem Group.ok_retarget {g : Group} {fade : Nat} (x : Source) (h : g.ok) (hf : fade ≤ 4095) : (g.retarget fade x).ok := by
  obtain ⟨flight, pins⟩ := Group.ok_land h
  unfold Group.retarget
  dsimp only
  split
  · rename_i rest
    split
    · exact ⟨by simp [rest], pins⟩
    · split
      · exact ⟨by simp [rest], pins⟩
      · rename_i moved long
        exact ⟨by simp [Ne.symm moved, hf, Nat.one_le_iff_ne_zero.mpr long], pins⟩
  · rename_i f flies
    simp only [flies, Option.all_some, Bool.and_eq_true, bne_iff_ne, decide_eq_true_eq] at flight
    split
    · exact ⟨by simpa [flies, and_assoc] using flight, pins⟩
    · split
      · split
        · exact ⟨rfl, pins⟩
        · exact ⟨by simp [Ne.symm flight.1.1.1, flight.1.2, flight.2], pins⟩
      · exact ⟨by simpa [flies, and_assoc] using flight, pins⟩

theorem Group.ok_advance {g : Group} (h : g.ok) : g.advance.ok := by
  obtain ⟨flight, pins⟩ := h
  unfold Group.advance
  split
  · exact ⟨flight, pins⟩
  · rename_i f flies
    simp only [flies, Option.all_some, Bool.and_eq_true, bne_iff_ne, decide_eq_true_eq] at flight
    split
    · exact ⟨by simp [flight.1.1.1, flight.1.2, flight.2]; omega, pins⟩
    · exact ⟨by simpa [flies, and_assoc] using flight, pins⟩

theorem pinChange_iff (x y : GroupMode) : pinChange x y = true ↔ (x = .pinA ∧ y = .pinB) ∨ (x = .pinB ∧ y = .pinA) := by
  cases x <;> cases y <;> decide

/-- R118: a mode equal to the base mode is no pin change against it. -/
theorem Group.ok_of_modes_eq {g : Group}
    (flight : (g.transition.all fun t => t.src != t.dst && decide (t.k ≤ t.n) && decide (1 ≤ t.n) && decide (t.n ≤ 4095)) = true)
    (h : g.mode = g.base) : g.ok :=
  ⟨flight, fun ⟨a, b⟩ => by simp [h, b] at a, fun ⟨a, b⟩ => by simp [h, b] at a, fun _ => h⟩

theorem Group.ok_assign {g : Group} {w : GroupWrite} (h : g.ok) (hw : g.forbids w = false) : (g.assign w).ok := by
  obtain ⟨-, base⟩ := Bool.or_eq_false_iff.mp hw
  unfold Group.assign
  split
  · rename_i song
    rw [song, Bool.true_and, Bool.eq_false_iff, ne_eq, pinChange_iff] at base
    exact ⟨h.1, fun ⟨m, b⟩ => base (.inr ⟨b, m⟩), fun ⟨m, b⟩ => base (.inl ⟨b, m⟩), by simp⟩
  · exact Group.ok_of_modes_eq h.1 rfl

theorem GroupMove.ok {fade : Nat} {g k : Group} (h : GroupMove fade g k) (hf : fade ≤ 4095) (hg : g.ok) : k.ok := by
  cases h with
  | same => exact hg
  | retarget x => exact Group.ok_retarget x hg hf
  | advance => exact Group.ok_advance hg
  | assign w hw => exact Group.ok_assign hg hw
  | revert => exact Group.ok_of_modes_eq hg.1 rfl
  | restart => exact Group.ok_of_modes_eq rfl rfl

theorem Moves.keeps_groupsOk (h : Moves True s t) : s.groupsOk → t.groupsOk := by
  have of_same : ∀ {u v : State}, v.mixer = u.mixer → BankMove u.bank v.bank → u.groupsOk → v.groupsOk :=
    fun hm hb ⟨ok, fades⟩ => ⟨by rw [hm]; exact ok, hb.fades fades⟩
  induction h with
  | frame h => exact of_same h.mixer (h.bank ▸ .refl _)
  | ports h => exact of_same h.mixer (h.bank ▸ .refl _)
  | settle h =>
    exact of_same ((State.touches_settleDelay _).mixer.trans h.mixer) (by rw [(State.touches_settleDelay _).bank]; exact h.bank)
  | restart h => exact of_same h.mixer (h.bank ▸ .refl _)
  | groups h => exact fun ⟨ok, front, back⟩ => ⟨fun i => (h i).ok (front i) (ok i), front, back⟩
  | bank h => exact of_same rfl h
  | trans _ _ ih ik => exact ik ∘ ih
  | arbiter | alignment | ring => exact id

/-! ### The alignment -/

theorem Moves.keeps_aligned (h : Moves True s t) : s.aligned → t.aligned := by
  have of_same : ∀ {u v : State}, v.alignment = u.alignment → v.arbiter = u.arbiter →
      (∀ r, (v.lines.get r).delay = (u.lines.get r).delay) → u.aligned → v.aligned :=
    fun {u v} ha hb hl ok => by
      have la : v.lines.a.delay = u.lines.a.delay := hl .a
      have lb : v.lines.b.delay = u.lines.b.delay := hl .b
      simpa only [State.aligned, ha, hb, la, lb] using ok
  induction h with
  | frame h => exact of_same h.alignment h.arbiter (by simp [h.lines])
  | ports h => exact of_same h.alignment h.arbiter (by simp [h.lines])
  | arbiter h => exact fun ⟨held, delays⟩ => ⟨held, fun hs hc => delays hs (h.changing_of hc)⟩
  | @alignment s x h =>
    rintro ⟨held, delays⟩
    refine ⟨fun hx => ?_, fun hx hc => ?_⟩
    · rcases or_assoc.mpr hx with hx | hx
      · obtain ⟨was, same⟩ := h.accepted hx
        rw [setAlignment_alignment, same]
        exact held (or_assoc.mp (.inl was))
      · obtain ⟨was, same⟩ := h.outOfReach hx
        rw [setAlignment_alignment, same]
        exact held (.inr (.inr was))
    · obtain ⟨was, same⟩ := h.accepted hx
      rw [setAlignment_alignment, same]
      exact delays was hc
  | @settle s u h =>
    rintro ⟨held, -⟩
    refine aligned_settleDelay u fun hx => ?_
    rcases h.alignment with same | new
    · rw [same] at hx ⊢; exact held hx
    · exact new
  | restart h => intro _; simp [State.aligned, h.alignment, Alignment.reset]
  | ring r pos f hp => exact of_same rfl rfl fun q => by simp [PerRig.get_set]; split <;> simp_all
  | groups | bank => exact id
  | trans _ _ ih ik => exact ik ∘ ih

/-! ### The laws at a reset -/

theorem fullReset_laws (cause : StartCause) :
    (State.fullReset cause).arbiter.ok ∧ (State.fullReset cause).linesOk ∧ (State.fullReset cause).groupsOk ∧
      (State.fullReset cause).aligned :=
  have power : State.reset.arbiter.ok ∧ State.reset.linesOk ∧ State.reset.groupsOk ∧ State.reset.aligned := by decide
  power

/-- Settles O8: the laws at every reset, the power-on one among them. -/
theorem lawsHoldAtReset : Obligations.LawsHoldAtReset := fullReset_laws .power

/-! ### The step -/

/-- Settles O1: by the definition of a step. -/
theorem stepRunsFrontCommand : Obligations.StepRunsFrontCommand := by
  refine ⟨fun c rest s h => ?_, fun s h => ?_⟩ <;> simp [Machine.step, h]

/-- What holds through every chain of moves, whatever the ports and the queue hold, and of every full reset, holds
through a step. -/
theorem step_keeps {P : State → Prop} (reset : ∀ cause (s : State), P ((State.fullReset cause).setPending s.pending))
    (frame : ∀ {s t : State}, Touches [.ports, .device, .pending] s t → P s → P t) (moves : ∀ {s t : State}, Moves True s t → P s → P t)
    (hp : P s) (h : Machine.step s = .next t) : P t := by
  unfold Machine.step at h
  split at h
  · cases h; exact hp
  · rename_i c rest _
    have queued : P (s.setPending rest) := frame (Touches.refl.setPending (by decide)) hp
    by_cases hc : ∀ cause, c ≠ .fullReset cause
    · obtain ⟨u, v, run, chain, own, -⟩ := exec_moves c (s.setPending rest) hc
      rw [run] at h
      cases h
      exact frame (own.mono (by decide)) (moves chain queued)
    · obtain ⟨cause, rfl⟩ := not_forall_not.mp hc
      cases h
      exact reset _ _

/-- Settles O2: no move touches the queue or Device Status. -/
theorem everyCommandAnswersNext : Obligations.EveryCommandAnswersNext := by
  intro c s
  by_cases hc : ∀ cause, c ≠ .fullReset cause
  · obtain ⟨u, t, run, chain, own, device⟩ := exec_moves c s hc
    obtain ⟨queue, kept⟩ := chain.queue_device
    exact ⟨t, run, own.pending.trans queue, fun _ hr => (device hr).trans kept⟩
  · obtain ⟨cause, rfl⟩ := not_forall_not.mp hc
    exact ⟨_, rfl, rfl, fun h => absurd rfl (h cause)⟩

/-- Settles O4: the law through each move of the arbiter. -/
theorem stepKeepsArbiterLaw : Obligations.StepKeepsArbiterLaw := fun _ _ ok h =>
  step_keeps (P := fun s => s.arbiter.ok) (fun cause _ => (fullReset_laws cause).1)
    (fun h ok => by rw [h.arbiter]; exact ok) (fun h => h.keeps_arbiter_ok) ok h

/-- Settles O5: the law through each move of the lines. -/
theorem stepKeepsDelayLines : Obligations.StepKeepsDelayLines := fun _ _ ok h =>
  step_keeps (P := State.linesOk) (fun cause _ => (fullReset_laws cause).2.1)
    (fun h ok => by rw [State.linesOk, h.lines, h.bank]; exact ok) (fun h => h.keeps_linesOk) ok h

/-- Settles O6: the law through each move of a group record. -/
theorem stepKeepsGroupLaw : Obligations.StepKeepsGroupLaw := fun _ _ ok h =>
  step_keeps (P := State.groupsOk) (fun cause _ => (fullReset_laws cause).2.2.1)
    (fun h ok => by rw [State.groupsOk, h.mixer, h.bank]; exact ok) (fun h => h.keeps_groupsOk) ok h

/-- Settles O7: each settling of the standby delay restores the law, and nothing else breaks it. -/
theorem stepKeepsAlignmentLaw : Obligations.StepKeepsAlignmentLaw := fun _ _ ok h =>
  step_keeps (P := State.aligned) (fun cause _ => (fullReset_laws cause).2.2.2)
    (fun h ok => by rw [State.aligned, h.alignment, h.arbiter, h.lines]; exact ok) (fun h => h.keeps_aligned) ok h

end Sys2Proof.Machine

/-! PROOFS. What is not due is not taken: the preparation of a calm part, and the values a full reset leaves. -/

namespace Sys2Proof.Machine

open Sys2Proof

/- In order: bodies elaborated side by side while the kernel still checks the text above each hold a thread's stack. -/
set_option Elab.async false

variable {s : State} {r : Rig}

/-! ### What is not due changes nothing -/

theorem State.takeClockReturn_of_not_due (h : s.returnDue = false) : s.takeClockReturn = s := by
  simp only [State.returnDue, Bool.and_eq_false_iff, beq_eq_false_iff_ne, decide_eq_false_iff_not] at h
  exact if_neg fun ⟨source, counter⟩ => h.elim (absurd source) (absurd counter)

theorem State.takeLockLost_of_not_due (h : ¬ ((s.links.get r).state = .locked ∧ 2 ≤ (s.links.get r).badFrames)) :
    s.takeLockLost r = s := if_neg h

theorem State.takeLockGained_of_not_due
    (h : ¬ ((s.links.get r).state = .acquiring ∧ Config.lockFrames ≤ (s.links.get r).acquisition)) :
    s.takeLockGained r = s := if_neg h

theorem State.takeQualification_of_not_due (h : (s.health.get r).qualifying.nonempty = false) :
    s.takeQualification r = s := if_neg (by simp [h])

theorem State.takeRestoreComplete_of_not_due (h : (s.health.get r).restoreDue s.restoreTime = false) :
    s.takeRestoreComplete r = s := if_neg (by simp [h])

theorem State.settleRig_of_not_due (hu : (s.unguardedHealth r).dueUnder s.restoreTime = false)
    (hq : (s.health.get r).qualifying.nonempty = false) (hr : (s.health.get r).restoreDue s.restoreTime = false) :
    s.settleRig r = s := by
  simp only [State.settleRig, State.settleUnguarded_of_not_due hu, State.takeQualification_of_not_due hq,
    State.takeRestoreComplete_of_not_due hr, ite_self]

theorem State.handSettled_of_not_due (h : s.unsettled r = true ∨ (s.health.get r).state = s.handed r) :
    s.handSettled r = s := by
  rcases h with moving | handed
  · exact if_pos moving
  · rw [State.handSettled, State.handSettledWith_eq, State.handHealthWith_unchanged _ handed, ite_self]

theorem State.takeAcceptance_of_not_due
    (h : ¬ (s.alignment.candidate.isSome = true ∧ s.alignment.state = .confirming ∧ s.alignment.acceptDue = true)) :
    s.takeAcceptance = s := by
  unfold State.takeAcceptance
  dsimp only
  split
  · rfl
  · rename_i c hc
    exact if_neg fun due => h ⟨by simp [hc], due⟩

theorem State.takeAlignmentHeld_of_not_due
    (h : ¬ (2 ≤ s.alignment.pairless ∧ s.alignment.state ≠ .none ∧ s.alignment.state ≠ .held)) : s.takeAlignmentHeld = s := by
  unfold State.takeAlignmentHeld
  dsimp only
  split
  · split <;> simp_all
  · rfl

theorem State.takeHoldLimit_of_not_due (h : ¬ (s.alignment.state = .held ∧ s.alignment.limitDue = true)) :
    s.takeHoldLimit = s := if_neg h

theorem State.takeFreewheelLimit_of_not_due (h : s.showClock.limitDue = false) : s.takeFreewheelLimit = s := by
  unfold State.takeFreewheelLimit
  split
  · rename_i n hs hn
    exact if_neg (by simpa [ShowClock.limitDue, hs, hn] using h)
  · rfl

/-- What `rigDue` says of each consequence of a rig. -/
theorem State.not_rigDue (h : s.rigDue r = false) :
    ¬ ((s.links.get r).state = .locked ∧ 2 ≤ (s.links.get r).badFrames) ∧
    ¬ ((s.links.get r).state = .acquiring ∧ Config.lockFrames ≤ (s.links.get r).acquisition) ∧
    (s.health.get r).qualifying.nonempty = false ∧ (s.health.get r).restoreDue s.restoreTime = false ∧
    (s.unsettled r = true ∨ (s.health.get r).state = s.handed r) ∧
    (s.unguardedHealth r).dueUnder s.restoreTime = false := by
  simp only [State.rigDue, Bool.or_eq_false_iff] at h
  obtain ⟨⟨⟨⟨⟨lost, gained⟩, qualifying⟩, restore⟩, handing⟩, unguarded⟩ := h
  refine ⟨by simpa using lost, by simpa using gained, qualifying, restore, ?_, unguarded⟩
  simp only [Bool.and_eq_false_iff, Bool.not_eq_false', bne_eq_false_iff_eq] at handing
  exact handing

/-- With no consequence due nothing is taken before a command. -/
theorem State.resolve_of_not_due (rigs : ∀ r, s.rigDue r = false) (alignment : s.alignment.due = false) (limit : s.showClock.limitDue = false) :
    s.resolve = s := by
  simp only [Alignment.due, Bool.or_eq_false_iff] at alignment
  obtain ⟨⟨held, hold⟩, accept⟩ := alignment
  obtain ⟨lostA, gainedA, qualifyingA, restoreA, handingA, unguardedA⟩ := State.not_rigDue (rigs .a)
  obtain ⟨lostB, gainedB, qualifyingB, restoreB, handingB, unguardedB⟩ := State.not_rigDue (rigs .b)
  have accepted : s.takeAcceptance = s := State.takeAcceptance_of_not_due (by simpa using accept)
  have stands : s.takeAlignmentHeld = s := State.takeAlignmentHeld_of_not_due (by simpa using held)
  have holds : s.takeHoldLimit = s := State.takeHoldLimit_of_not_due (by simpa using hold)
  simp only [State.resolve, State.handNew, accepted,
    State.takeLockLost_of_not_due lostA, State.takeLockLost_of_not_due lostB, State.takeLockGained_of_not_due gainedA,
    State.takeLockGained_of_not_due gainedB, State.settleRig_of_not_due unguardedA qualifyingA restoreA,
    State.settleRig_of_not_due unguardedB qualifyingB restoreB, State.handSettled_of_not_due handingA,
    State.handSettled_of_not_due handingB, stands, holds, State.takeFreewheelLimit_of_not_due limit]

/-- Settles O3: each due event that `calm` denies is not taken. -/
theorem calmPartNeedsNoPreparation : Obligations.CalmPartNeedsNoPreparation := by
  intro s h
  simp only [State.calm, Bool.and_eq_true, Bool.not_eq_true'] at h
  obtain ⟨⟨⟨⟨clock, rigA⟩, rigB⟩, alignment⟩, limit⟩ := h
  have rigs : ∀ r, s.rigDue r = false
    | .a => rigA
    | .b => rigB
  rw [State.prepare, State.takeClockReturn_of_not_due clock]
  exact State.resolve_of_not_due rigs alignment limit

/-! ### The values of a full reset (R200) -/

theorem fullReset_device (cause : ResetCause) : (State.fullReset (startOfReset cause)).device.cause =
    match cause with
    | .powerOn => .power
    | .resetLine => .line := by
  cases cause <;> rfl

/-- R19: the values of a link. -/
theorem linkReset_values : ∀ k, LinkRx.reset.laneErrors.get k = 0 := by decide

/-- R59: no kind is flagged, counted, qualified or in the history of a reset rig. -/
theorem healthReset_kinds : ∀ i, Health.reset.counters.get i = 0 ∧ Health.reset.flags.get i = false ∧
    (Health.reset.qualifiedUnder defaultFaultPolicy).get i = false ∧ Health.reset.history.get i = false := by decide

/-- R187: ENGINE_RESTARTED is the one notice of a reset port, and none is masked. -/
theorem portReset_notices : (∀ k, ControlPort.reset.notices.get k = (k == Notice.engineRestarted.idx)) ∧
    (∀ k, ControlPort.reset.mask.get k = false) ∧ ControlPort.reset.attention = true := by decide

/-- Settles O59: each block at its reset value, the tables entry by entry. -/
theorem fullResetValues : Obligations.FullResetValues := by
  intro s cause
  refine ⟨_, rfl, fullReset_device cause, rfl, rfl, rfl, rfl, ?links, ?parsers, ?health, rfl, rfl, rfl, rfl, rfl, rfl, rfl,
    rfl, rfl, rfl, rfl, rfl, rfl, rfl, rfl, rfl, rfl, rfl, rfl, ?groups, rfl, rfl, rfl, rfl, rfl, rfl, rfl, rfl, rfl, rfl,
    rfl, rfl, rfl, rfl, rfl, rfl, rfl, ?matchers, rfl, rfl, rfl, rfl, ?route, ?group, ?song, ?matcher, ?fault, rfl, ?ports,
    rfl, rfl, ?lamps, ?patterns⟩
  case links => rintro (_ | _) <;> exact ⟨rfl, rfl, rfl, rfl, rfl, rfl, linkReset_values, rfl⟩
  case parsers => rintro (_ | _) <;> exact ⟨rfl, rfl, rfl, rfl, rfl, rfl, rfl, rfl⟩
  case health => rintro (_ | _) <;> exact ⟨rfl, healthReset_kinds, rfl, rfl, rfl, rfl, rfl, rfl, rfl, rfl⟩
  case groups => exact fun i => Table.get_fill ..
  case matchers => exact fun k => Table.get_fill ..
  case route => exact fun i => Table.get_tab ..
  case group => exact fun i => Table.get_fill ..
  case song => exact fun n => Table.get_tab ..
  case matcher => exact fun k => Table.get_fill ..
  case fault => show ∀ i, defaultFaultPolicy.get i = _; decide
  case ports =>
    obtain ⟨notices, mask, attention⟩ := portReset_notices
    rintro (_ | _ | _) <;> exact ⟨rfl, rfl, attention, notices, mask⟩
  case lamps => show ∀ i, Lamps.reset.lit.get i = false ∧ Lamps.reset.override.get i = none; decide
  case patterns => show ∀ i, defaultPatterns.get i = _; decide

end Sys2Proof.Machine

/-! PROOFS. Transactions (chapter 10): the checks of R178 in their order, the refusals of FRAMING, UNKNOWN and read-only tables, and
what ACK and the notice mask do to their own port. -/

namespace Sys2Proof.Machine

open Sys2Proof

/- In order: bodies elaborated side by side while the kernel still checks the text above each hold a thread's stack. -/
set_option Elab.async false

variable {s t u : State} {q : Port}

/-! ### The checks of a command and of a WRITE (R178) -/

/-- R182: a check that refuses a transaction ends it with its result. -/
theorem transact_refusedWith {n : Nat} {f : State → Option ResultCode} {o : State → Answer} {r : ResultCode} (hr : r ≠ .done)
    (h : f (s.opened q n) = some r) : RefusedWith (s.opened q n) (s.transact q n f o) q r := by
  rw [transact_refused h]
  exact deselect_refused _ q r hr

/-- R192: every named command is a `State.command` of its parts. -/
theorem exec_of_namedOf {c : Instr} {m : NamedCommand} (h : namedOf c = some m) (s : State) :
    ∃ o, exec c s = .next (s.command m.port m.code m.length m.right m.body o) := by
  cases c <;> simp only [namedOf, Option.some.injEq, reduceCtorEq] at h <;> subst h <;> exact ⟨_, rfl⟩

/-- R192: every WRITE is a `State.writeCommand` of its bytes. -/
theorem exec_of_tableWriteOf {c : Instr} {q : Port} {bytes : List Byte} (h : tableWriteOf c = some (q, bytes)) (s : State) :
    ∃ o, exec c s = .next (s.writeCommand q bytes o) := by
  cases c
  case write port body =>
    simp only [tableWriteOf] at h
    split at h
    · rename_i hw
      cases h
      exact ⟨_, congrArg _ (if_pos hw)⟩
    · simp at h
  all_goals simp only [tableWriteOf, Option.some.injEq, reduceCtorEq, Prod.mk.injEq] at h
  all_goals
    obtain ⟨rfl, rfl⟩ := h
    exact ⟨_, rfl⟩

theorem commandRefused_length {length : Nat} {right : Right} {bytes : List Byte} (h : bytes.length ≠ length) :
    s.commandRefused q length right bytes = some .length := if_pos h

theorem commandRefused_check {length : Nat} {right : Right} {bytes : List Byte} (h : bytes.length = length)
    (hc : checkOk bytes = false) : s.commandRefused q length right bytes = some .checkFailed := by
  simp [State.commandRefused, h, hc]

theorem commandRefused_right {length : Nat} {right : Right} {bytes : List Byte} (h : bytes.length = length)
    (hc : checkOk bytes = true) (hr : s.allowed q right = false) :
    s.commandRefused q length right bytes = some .denied := by
  simp [State.commandRefused, h, hc, hr]

theorem writeRequest_short {bytes : List Byte} (h : bytes.length < 4) : writeRequest bytes = none := by
  unfold writeRequest
  split
  · simp at h; omega
  · rfl

theorem writeRefused_short {bytes : List Byte} (h : bytes.length < 4) : s.writeRefused q bytes = some .length := by
  rw [State.writeRefused, writeRequest_short h]

/-- R178: the checks of a WRITE whose first four bytes are there. -/
theorem writeRefused_cons (id first count x : Byte) (rest : List Byte) :
    s.writeRefused q (id :: first :: count :: x :: rest) =
      match tableShape id with
      | none => if checkOk (0x02 :: id :: first :: count :: x :: rest) then some .invalid else some .checkFailed
      | some (entries, len) =>
        if count.toNat ≠ 0 ∧ (id :: first :: count :: x :: rest).length + 1 ≠ 5 + count.toNat * len then some .length
        else if !checkOk (0x02 :: id :: first :: count :: x :: rest) then some .checkFailed
        else if count.toNat = 0 then some .invalid
        else if !s.allowed q (writeRight id) then some .denied
        else if entries < first.toNat + count.toNat then some .badIndex
        else none := rfl

theorem byte_ne_zero_iff (b : Byte) : b ≠ 0 ↔ b.toNat ≠ 0 := by
  rw [ne_eq, ne_eq, ← BitVec.toNat_inj]
  rfl

section WriteChecks

variable {id first count x : Byte} {rest : List Byte}

/-- R178: the length that the table and the count ask of a WRITE. -/
def WriteFits (id count : Byte) (length : Nat) : Prop :=
  ∀ n len, tableShape id = some (n, len) → count ≠ 0 → length + 1 = 5 + count.toNat * len

theorem writeRefused_length (h : ¬ WriteFits id count (id :: first :: count :: x :: rest).length) :
    s.writeRefused q (id :: first :: count :: x :: rest) = some .length := by
  simp only [WriteFits, not_forall] at h
  obtain ⟨n, len, shape, nonzero, long⟩ := h
  rw [writeRefused_cons, shape]
  exact if_pos ⟨(byte_ne_zero_iff count).mp nonzero, long⟩

theorem writeRefused_check (h : WriteFits id count (id :: first :: count :: x :: rest).length)
    (hc : checkOk (0x02 :: id :: first :: count :: x :: rest) = false) :
    s.writeRefused q (id :: first :: count :: x :: rest) = some .checkFailed := by
  rw [writeRefused_cons, hc]
  split
  · rfl
  · rename_i n len shape
    rw [if_neg fun ⟨nonzero, long⟩ => long (h n len shape ((byte_ne_zero_iff count).mpr nonzero))]
    rfl

theorem writeRefused_invalid (hc : checkOk (0x02 :: id :: first :: count :: x :: rest) = true)
    (hi : tableShape id = none ∨ count = 0) : s.writeRefused q (id :: first :: count :: x :: rest) = some .invalid := by
  rw [writeRefused_cons, hc]
  split
  · rfl
  · rename_i n len shape
    obtain rfl : count = 0 := hi.resolve_left (by simp [shape])
    rfl

variable {n len : Nat} (shape : tableShape id = some (n, len)) (nonzero : count ≠ 0)
  (h : WriteFits id count (id :: first :: count :: x :: rest).length)
  (hc : checkOk (0x02 :: id :: first :: count :: x :: rest) = true)
include shape nonzero h hc

theorem writeRefused_right (hr : s.allowed q (writeRight id) = false) :
    s.writeRefused q (id :: first :: count :: x :: rest) = some .denied := by
  have counted := (byte_ne_zero_iff count).mp nonzero
  have long := h n len shape nonzero
  rw [writeRefused_cons, hc, shape, hr]
  simp only [ne_eq, counted, not_false_eq_true, long, not_true_eq_false, and_false, if_false, Bool.not_true, Bool.not_false,
    Bool.false_eq_true, if_true]

theorem writeRefused_index (hr : s.allowed q (writeRight id) = true) (hn : n < first.toNat + count.toNat) :
    s.writeRefused q (id :: first :: count :: x :: rest) = some .badIndex := by
  have counted := (byte_ne_zero_iff count).mp nonzero
  have long := h n len shape nonzero
  rw [writeRefused_cons, hc, shape, hr]
  simp only [ne_eq, counted, not_false_eq_true, long, not_true_eq_false, and_false, if_false, Bool.not_true,
    Bool.false_eq_true, hn, if_true]

end WriteChecks

/-- Settles O10: each check stands before the next in `commandRefused` and `writeRefused`. -/
theorem commandAndWriteRefusalOrder : Obligations.CommandAndWriteRefusalOrder := by
  refine ⟨fun c m s hm => ?named, fun c q bytes s hw => ?write⟩
  case named =>
    obtain ⟨o, run⟩ := exec_of_namedOf hm s
    exact ⟨_, run, fun hl => transact_refusedWith (by decide) (commandRefused_length hl),
      fun hl hc => transact_refusedWith (by decide) (commandRefused_check hl hc),
      fun hl hc hr => transact_refusedWith (by decide) (commandRefused_right hl hc hr)⟩
  case write =>
    obtain ⟨o, run⟩ := exec_of_tableWriteOf hw s
    refine ⟨_, run, fun hl => transact_refusedWith (by decide) (writeRefused_short hl), ?_⟩
    rintro id first count x rest rfl
    refine ⟨fun hf => transact_refusedWith (by decide) (writeRefused_length hf),
      fun hf hc => transact_refusedWith (by decide) (writeRefused_check hf hc),
      fun hf hc hi => transact_refusedWith (by decide) (writeRefused_invalid hc hi), fun n len shape nonzero hf hc => ?_⟩
    exact ⟨fun hr => transact_refusedWith (by decide) (writeRefused_right shape nonzero hf hc hr),
      fun hr hn => transact_refusedWith (by decide) (writeRefused_index shape nonzero hf hc hr hn)⟩

/-! ### A command or a WRITE that its owner answers -/

theorem tableShape_bounds {id : Byte} {n len : Nat} (h : tableShape id = some (n, len)) : 1 ≤ len ∧ n ≤ 256 := by
  unfold tableShape at h
  split at h <;> cases h <;> decide

section Owned

variable {c : Instr} {r : ResultCode}

/-- A named command in order, answered with DONE. -/
theorem exec_command_done {code : Byte} {length n : Nat} {right : Right} {operands : List Byte} {o : State → Answer}
    (hx : exec c s = .next (s.command q code length right (withCheck code operands) o)) (hl : length = operands.length + 2)
    (hn : n = operands.length + 1) (hr : (s.opened q n).allowed q right = true) (ho : o (s.opened q n) = (t, .done)) :
    exec c s = .next (t.deselect q .done) := by
  rw [hx, command_owner hl hn hr ho, if_pos rfl]

/-- A named command in order that its owner refuses. -/
theorem exec_command_refused {code : Byte} {length n : Nat} {right : Right} {operands : List Byte} {o : State → Answer}
    (hx : exec c s = .next (s.command q code length right (withCheck code operands) o)) (hl : length = operands.length + 2)
    (hn : n = operands.length + 1) (hr : (s.opened q n).allowed q right = true) (hd : r ≠ .done)
    (ho : o (s.opened q n) = (t, r)) : exec c s = .next ((s.opened q n).deselect q r) := by
  rw [hx, command_owner hl hn hr ho, if_neg hd]

/-- A WRITE in order, answered with DONE. -/
theorem exec_write_done {id : Byte} {first count n len m : Nat} {data : List Byte} {o : WriteRequest → State → Answer}
    (hx : exec c s = .next (s.writeCommand q (id :: writeBody id first count data) o)) (hs : tableShape id = some (n, len))
    (hc : 1 ≤ count) (hb : count ≤ 255) (hn : first + count ≤ n) (hd : data.length = count * len)
    (hm : m = data.length + 4) (hr : (s.opened q m).allowed q (writeRight id) = true)
    (ho : o { id, first, count, data } (s.opened q m) = (t, .done)) : exec c s = .next (t.deselect q .done) := by
  obtain ⟨hl, h256⟩ := tableShape_bounds hs
  rw [hx, write_owner hs hc hb hn (by omega) hl hd hm hr ho, if_pos rfl]

/-- A WRITE in order that its owner refuses. -/
theorem exec_write_refused {id : Byte} {first count n len m : Nat} {data : List Byte} {o : WriteRequest → State → Answer}
    (hx : exec c s = .next (s.writeCommand q (id :: writeBody id first count data) o)) (hs : tableShape id = some (n, len))
    (hc : 1 ≤ count) (hb : count ≤ 255) (hn : first + count ≤ n) (hd : data.length = count * len)
    (hm : m = data.length + 4) (hr : (s.opened q m).allowed q (writeRight id) = true) (hne : r ≠ .done)
    (ho : o { id, first, count, data } (s.opened q m) = (t, r)) : exec c s = .next ((s.opened q m).deselect q r) := by
  obtain ⟨hl, h256⟩ := tableShape_bounds hs
  rw [hx, write_owner hs hc hb hn (by omega) hl hd hm hr ho, if_neg hne]

end Owned

/-! ### What a transaction shifts -/

theorem OnlyPort.refl (q : Port) (s : State) : OnlyPort q s s := ⟨.refl, fun _ _ => rfl⟩

theorem OnlyPort.trans (h : OnlyPort q s t) (k : OnlyPort q t u) : OnlyPort q s u := by
  obtain ⟨touched, others⟩ := h
  obtain ⟨touched', others'⟩ := k
  exact ⟨touched.andThen touched' (by decide), fun x hx => (others' x hx).trans (others x hx)⟩

/-- R174, R175: bytes have been shifted on port `q`, which moves its transaction and what it shifts out. -/
structure Shifted (q : Port) (s t : State) : Prop where
  only : OnlyPort q s t
  port : t.ports.get q = { s.ports.get q with tx := (t.ports.get q).tx, dataOut := (t.ports.get q).dataOut }

theorem Shifted.refl (q : Port) (s : State) : Shifted q s s := ⟨.refl q s, rfl⟩

theorem Shifted.trans (h : Shifted q s t) (k : Shifted q t u) : Shifted q s u := by
  refine ⟨h.only.trans k.only, ?_⟩
  have port := k.port
  rw [h.port] at port
  exact port

theorem shifted_setPort (s : State) (q : Port) (x : TxState) (l : List Byte) :
    Shifted q s (s.setPort q { s.ports.get q with tx := x, dataOut := l }) :=
  ⟨onlyPort_setPort s q _, by simp [setPort_get]⟩

theorem shifted_select (s : State) (q : Port) : Shifted q s (s.select q) := shifted_setPort s q _ _

theorem shifted_shiftByte (s : State) (q : Port) (b : Byte) : Shifted q s (s.shiftByte q b) := by
  unfold State.shiftByte
  dsimp only
  split
  · exact .refl q s
  · exact .refl q s
  · exact shifted_setPort s q _ _
  · exact shifted_setPort s q _ _

theorem shifted_shiftBytes (q : Port) : ∀ (l : List Byte) (s : State), Shifted q s (l.foldl (fun s b => s.shiftByte q b) s)
  | [], s => .refl q s
  | b :: l, s => (shifted_shiftByte s q b).trans (shifted_shiftBytes q l _)

theorem shifted_openRead (s : State) (q : Port) : Shifted q s (s.openRead q) := by
  unfold State.openRead
  split
  · exact (shifted_select s q).trans (shifted_setPort _ q _ _)
  · exact shifted_setPort s q _ _
  · exact .refl q s
  · exact .refl q s

theorem shifted_shiftZeros (s : State) (q : Port) (n : Nat) : Shifted q s (s.shiftZeros q n) := shifted_setPort s q _ _

theorem shifted_shiftWhole (s : State) (q : Port) (l : List Byte) : Shifted q s (s.shiftWhole q l) := by
  unfold State.shiftWhole
  split
  · exact .refl q s
  · exact .refl q s
  · split
    · exact (shifted_openRead s q).trans (shifted_shiftBytes q _ _)
    · exact shifted_shiftZeros s q _
  · exact shifted_shiftBytes q _ s
  · exact shifted_shiftBytes q _ s

/-- R175: a write-type transaction that is cut off has shifted out 0x00 for each whole byte after its command byte. -/
theorem shiftWhole_dataOut {l : List Byte} (hc : (s.ports.get q).tx = .command) (hl : l.head? ≠ some 0x01) :
    ((s.shiftWhole q l).ports.get q).dataOut = (s.ports.get q).dataOut ++ List.replicate (l.length - 1) 0 := by
  unfold State.shiftWhole
  rw [hc]
  cases l with
  | nil => simp
  | cons b l =>
    have other : b ≠ 0x01 := fun hb => hl (by simp [hb])
    show ((if b = 0x01 then _ else s.shiftZeros q l.length : State).ports.get q).dataOut = _
    rw [if_neg other]
    simp [State.shiftZeros, setPort_get]

/-! ### FRAMING, UNKNOWN and a WRITE to a read-only table -/

theorem shifted_deselect_refused (h : Shifted q s t) {r : ResultCode} (hr : r ≠ .done) :
    OnlyPort q s (t.deselect q r) ∧ (t.deselect q r).ports.get q = { s.ports.get q with
      tx := .idle, lastResult := r, dataOut := (t.ports.get q).dataOut
      notices := (s.ports.get q).notices.set Notice.refused.idx true } := by
  obtain ⟨only, port⟩ := deselect_refused t q r hr
  refine ⟨h.only.trans only, ?_⟩
  rw [port, h.port]

theorem writeRight_of_not_writable {id : Byte} (h : id ∉ writableIds) : writeRight id = .noPort := by
  have other : ∀ n : Nat, BitVec.ofNat 8 n ∈ writableIds → id.toNat ≠ n := by
    rintro n hn rfl
    rw [BitVec.ofNat_toNat, BitVec.setWidth_eq] at hn
    exact h hn
  have h5 := other 5 (by decide)
  have banked := fun k : Fin 6 => other (16 + k.val) (by revert k; decide)
  have live := fun k : Fin 4 => other (24 + k.val) (by revert k; decide)
  have b0 := banked 0; have b1 := banked 1; have b2 := banked 2; have b3 := banked 3; have b4 := banked 4; have b5 := banked 5
  have l0 := live 0; have l1 := live 1; have l2 := live 2; have l3 := live 3
  unfold writeRight
  split <;> simp_all

/-- R178, R179: a WRITE to a read-only table passes the checks before its right, which no port has. -/
theorem writeRefused_readOnly {id : Byte} {first count n len : Nat} {data : List Byte} (hw : id ∉ writableIds)
    (shape : tableShape id = some (n, len)) (h1 : 1 ≤ count) (h255 : count ≤ 255) (hd : data.length = count * len) :
    s.writeRefused q (id :: writeBody id first count data) = some .denied := by
  obtain ⟨x, rest, hx⟩ : ∃ x rest, data ++ [xorAll (0x02 :: id :: byte first :: byte count :: data)] = x :: rest := by
    cases data <;> exact ⟨_, _, rfl⟩
  have counted : (byte count).toNat = count := by simp [byte]; omega
  have body : writeBody id first count data = byte first :: byte count :: x :: rest := by rw [← hx]; rfl
  have length := length_writeBody id first count data
  have check := checkOk_writeBody id first count data
  rw [body] at length check
  rw [body]
  refine writeRefused_right shape ((byte_ne_zero_iff _).mpr (by omega)) ?_ check
    (by rw [writeRight_of_not_writable hw]; rfl)
  intro n' len' shape' _
  obtain ⟨rfl, rfl⟩ : n' = n ∧ len' = len := by simpa [shape, eq_comm] using shape'
  rw [List.length_cons, length, hd, counted]
  omega

/-- Settles O11: the bytes shifted and the refusal move the port alone. -/
theorem framingUnknownAndReadOnlyWrite : Obligations.FramingUnknownAndReadOnlyWrite := by
  refine ⟨fun q bytes bits s h1 h7 => ?framing, fun q code body s hc => ?unknown,
    fun q id first count n len data s hw shape h1 h255 hd => ?write⟩
  case framing =>
    intro p
    have shifted := shifted_shiftWhole p q bytes
    obtain ⟨only, port⟩ := shifted_deselect_refused shifted (r := .framing) (by decide)
    refine ⟨(p.shiftWhole q bytes).deselect q .framing, congrArg _ (if_pos ⟨h1, h7⟩), only, ?_, fun idle => ?_,
      fun command head => ?_⟩
    · rw [port]
    · show ((if _ then _ else _ : State).ports.get q).dataOut = _
      rw [if_pos idle, select_get_self]
    · rw [port]
      exact shiftWhole_dataOut command head
  case unknown =>
    have run : exec (.unknown q code body) s =
        .next (s.transact q body.length (fun _ => some .unknown) fun s => (s, .unknown)) :=
      congrArg _ (if_neg (by simpa using hc))
    exact ⟨_, run, transact_refusedWith (by decide) rfl⟩
  case write =>
    have wellFormed : (Instr.write q (id :: writeBody id first count data)).wellFormed = true := by
      simpa [Instr.wellFormed] using hw
    have length : (id :: writeBody id first count data).length = 4 + data.length := by
      rw [List.length_cons, length_writeBody]; omega
    have run : exec (.write q (id :: writeBody id first count data)) s =
        .next (s.writeCommand q (id :: writeBody id first count data) fun _ s => (s, .denied)) := congrArg _ (if_pos wellFormed)
    refine ⟨_, run, ?_⟩
    rw [← length]
    exact transact_refusedWith (by decide) (writeRefused_readOnly hw shape h1 h255 hd)

/-! ### ACK and the notice mask -/

/-- R179: a WRITE of one entry is read where that entry is. -/
theorem entries_one {α : Type} (id : Byte) (first : Nat) {data : List Byte} {len : Nat} {f : List Byte → Option α}
    (h : data.length = len) :
    WriteRequest.entries { id, first, count := 1, data } len f = (f data).map fun x => [x] := by
  subst h
  show readAll f [data.take data.length] = _
  rw [List.take_length]
  cases hf : f data <;> simp [readAll, hf]

theorem readNotices_pair (hi lo : Byte) : readNotices [hi, lo] =
    if nat16 hi lo < 8192 then some (Table.tab fun i => (nat16 hi lo).testBit i.val) else none := rfl

theorem allowed_everyPort (s : State) (q : Port) : s.allowed q .everyPort = true := rfl

/-- R186: the port's answer to ACK, by whether its two bytes name a notice beyond 12. -/
theorem answerAck_pair (q : Port) (hi lo : Byte) (v : State) : v.answerAck q (readNotices [hi, lo]) =
    if nat16 hi lo < 8192 then
      (v.setPort q ((v.ports.get q).acknowledge (Table.tab fun i => (nat16 hi lo).testBit i.val)), .done)
    else (v, .invalid) := by
  rw [readNotices_pair]
  split <;> rfl

/-- R185: the port's answer to a WRITE to its mask, likewise. -/
theorem answerMask_pair (q : Port) (hi lo : Byte) (v : State) :
    v.answerMask q { id := 27, first := 0, count := 1, data := [hi, lo] } =
      if nat16 hi lo < 8192 then
        (v.setPort q { v.ports.get q with mask := Table.tab fun i => (nat16 hi lo).testBit i.val }, .done)
      else (v, .invalid) := by
  rw [State.answerMask, entries_one 27 0 (data := [hi, lo]) (len := 2) rfl, readNotices_pair]
  by_cases hn : nat16 hi lo < 8192
  · rw [if_pos hn, if_pos hn]; rfl
  · rw [if_neg hn, if_neg hn]; rfl

/-- A transaction that replaces its own port and ends with DONE. -/
theorem onlyPort_done (v : State) (q : Port) (c : ControlPort) :
    OnlyPort q v ((v.setPort q c).deselect q .done) ∧ DoneOn ((v.setPort q c).deselect q .done) q ∧
      ((v.setPort q c).deselect q .done).ports.get q = { c with tx := .idle, lastResult := .done } := by
  obtain ⟨only, port⟩ := deselect_done (v.setPort q c) q
  exact ⟨(onlyPort_setPort v q c).trans only, (deselect_done _ q).doneOn, by rw [port]; simp [setPort_get]⟩

/-- Settles O14: by whether the two bytes name a notice beyond 12. -/
theorem ackAndNoticeMask : Obligations.AckAndNoticeMask := by
  refine ⟨fun s q hi lo => ?ack, fun s q hi lo => ?mask⟩
  case ack =>
    have answer := answerAck_pair q hi lo (s.opened q 3)
    by_cases hn : nat16 hi lo < 8192
    · rw [if_pos hn] at answer
      refine ⟨_, exec_command_done (code := 0x30) (operands := [hi, lo]) rfl rfl rfl (allowed_everyPort _ q) answer,
        fun h => absurd h (by omega), fun _ => ?_⟩
      obtain ⟨only, done, port⟩ := onlyPort_done (s.opened q 3) q (((s.opened q 3).ports.get q).acknowledge _)
      exact ⟨only, done, by rw [port]; rfl, fun k => by rw [port]; simp [ControlPort.acknowledge]⟩
    · rw [if_neg hn] at answer
      exact ⟨_, exec_command_refused (code := 0x30) (operands := [hi, lo]) rfl rfl rfl (allowed_everyPort _ q) (by decide)
        answer, fun _ => deselect_refused _ q _ (by decide), fun h => absurd h hn⟩
  case mask =>
    have answer := answerMask_pair q hi lo (s.opened q 6)
    have shape : tableShape 27 = some (1, 2) := rfl
    by_cases hn : nat16 hi lo < 8192
    · rw [if_pos hn] at answer
      refine ⟨_, exec_write_done (data := [hi, lo]) rfl shape (by decide) (by decide) (by decide) rfl rfl
        (allowed_everyPort _ q) answer, fun h => absurd h (by omega), fun _ => ?_⟩
      obtain ⟨only, done, port⟩ := onlyPort_done (s.opened q 6) q { (s.opened q 6).ports.get q with mask := _ }
      exact ⟨only, done, by rw [port], fun k => by rw [port]; simp⟩
    · rw [if_neg hn] at answer
      exact ⟨_, exec_write_refused (data := [hi, lo]) rfl shape (by decide) (by decide) (by decide) rfl rfl
        (allowed_everyPort _ q) (by decide) answer, fun _ => deselect_refused _ q _ (by decide), fun h => absurd h hn⟩

end Sys2Proof.Machine

/-! PROOFS. READ (R176, R177): what a port shifts out while it receives a request and while it streams the answer, in one command or
several, and the deselect that ends it. -/

namespace Sys2Proof.Machine

open Sys2Proof

/- In order: bodies elaborated side by side while the kernel still checks the text above each hold a thread's stack. -/
set_option Elab.async false

variable {s t u : State} {q : Port}

/-! ### The entries while a port shifts -/

theorem eq_setPorts (h : Touches [.ports] s t) : t = s.setPorts t.ports := by
  have clock := h.clock; have links := h.links; have parsers := h.parsers; have guards := h.guards
  have health := h.health; have instant := h.instantHealth; have lines := h.lines; have alignment := h.alignment
  have arbiter := h.arbiter; have mixer := h.mixer; have showClock := h.showClock; have tcOutput := h.tcOutput
  have matchers := h.matchers; have bank := h.bank; have lamps := h.lamps; have device := h.device
  have tickDue := h.tickDue; have pending := h.pending
  cases s; cases t
  simp_all [State.setPorts]

/-- R177: what a port shifts changes no entry that a READ copies. -/
theorem entryBytes_shifted (h : Shifted q s t) (id : Byte) (i : Nat) : t.entryBytes q id i = s.entryBytes q id i := by
  have notices : ∀ k, portEntry (t.ports.get k) = portEntry (s.ports.get k) := by
    intro k
    by_cases hk : k = q
    · subst hk; rw [h.port]; rfl
    · rw [h.only.2 k hk]
  have mask : (t.ports.get q).mask = (s.ports.get q).mask := by rw [h.port]
  unfold State.entryBytes
  split
  · rfl
  · congr 1
    unfold State.viewEntry
    split
    case h_10 => exact notices _
    case h_20 => rw [mask]
    case h_27 => rfl
    all_goals rw [eq_setPorts h.only.1]; rfl

/-! ### Bytes shifted while a request is received (R174, R176) -/

theorem shiftByte_receiving {l : List Byte} (h : (s.ports.get q).tx = .receiving l) (b : Byte) :
    s.shiftByte q b = s.setPort q { s.ports.get q with tx := receive (l ++ [b]), dataOut := (s.ports.get q).dataOut ++ [0] } := by
  simp [State.shiftByte, h]

theorem receive_of_length_ne {l : List Byte} (h : l.length ≠ 4) : receive l = .receiving l := by
  unfold receive
  split
  · simp at h
  · rfl

/-- R174: up to the last byte of a request its bytes gather, 0x00 being shifted out during each. -/
theorem shiftBytes_receiving {l : List Byte} : ∀ (bytes : List Byte) {s : State}, (s.ports.get q).tx = .receiving l →
    bytes ≠ [] → (l ++ bytes).length ≤ 4 →
    let t := bytes.foldl (fun s b => s.shiftByte q b) s
    (t.ports.get q).tx = receive (l ++ bytes) ∧
      (t.ports.get q).dataOut = (s.ports.get q).dataOut ++ List.replicate bytes.length 0 := by
  intro bytes
  induction bytes using List.reverseRecOn with
  | nil => intro s _ h _; exact absurd rfl h
  | append_singleton bytes b ih =>
    intro s hs _ hl
    rw [List.foldl_append]
    have last : ∀ {v : State}, (v.ports.get q).tx = .receiving (l ++ bytes) →
        (v.ports.get q).dataOut = (s.ports.get q).dataOut ++ List.replicate bytes.length 0 →
        ((v.shiftByte q b).ports.get q).tx = receive (l ++ (bytes ++ [b])) ∧ ((v.shiftByte q b).ports.get q).dataOut =
          (s.ports.get q).dataOut ++ List.replicate (bytes ++ [b]).length 0 := by
      intro v hv hd
      rw [shiftByte_receiving hv]
      simp [setPort_get, hd, List.replicate_succ']
    by_cases hb : bytes = []
    · subst hb; exact last (by simpa using hs) (by simp)
    · obtain ⟨tx, out⟩ := ih hs hb (by simp at hl ⊢; omega)
      rw [receive_of_length_ne (by simp at hl ⊢; omega)] at tx
      exact last tx out

/-! ### Bytes shifted while the answer streams (R176, R177) -/

/-- R177: the next `n` bytes of an answer, and the answer after them. -/
def State.answerBytes (s : State) (q : Port) : Nat → Stream → List Byte × Stream
  | 0, x => ([], x)
  | n + 1, x => ((s.nextByte q x).1 :: (s.answerBytes q n (s.nextByte q x).2).1, (s.answerBytes q n (s.nextByte q x).2).2)

theorem answerBytes_succ {x y : Stream} {b : Byte} (h : s.nextByte q x = (b, y)) (n : Nat) :
    s.answerBytes q (n + 1) x = (b :: (s.answerBytes q n y).1, (s.answerBytes q n y).2) := by
  simp [State.answerBytes, h]

theorem nextByte_shifted (h : Shifted q s t) (x : Stream) : t.nextByte q x = s.nextByte q x := by
  simp only [State.nextByte, entryBytes_shifted h]

/-- R177: the bytes that a streaming port shifts are those of its answer. -/
theorem shiftBytes_streaming : ∀ (bytes : List Byte) {t : State} {x : Stream}, Shifted q s t →
    (t.ports.get q).tx = .streaming x →
    (bytes.foldl (fun s b => s.shiftByte q b) t).ports.get q = { t.ports.get q with
      tx := .streaming (s.answerBytes q bytes.length x).2
      dataOut := (t.ports.get q).dataOut ++ (s.answerBytes q bytes.length x).1 }
  | [], t, x, _, hx => by simp [State.answerBytes, ← hx]
  | b :: bytes, t, x, h, hx => by
    have first : t.shiftByte q b = t.setPort q { t.ports.get q with
        tx := .streaming (s.nextByte q x).2, dataOut := (t.ports.get q).dataOut ++ [(s.nextByte q x).1] } := by
      simp [State.shiftByte, hx, nextByte_shifted h]
    rw [List.foldl_cons, first]
    rw [shiftBytes_streaming bytes (h.trans (shifted_setPort t q _ _)) (x := (s.nextByte q x).2) (by simp [setPort_get])]
    simp [setPort_get, State.answerBytes]

theorem answerBytes_add (m : Nat) : ∀ (k : Nat) (x : Stream), s.answerBytes q (k + m) x =
    ((s.answerBytes q k x).1 ++ (s.answerBytes q m (s.answerBytes q k x).2).1,
      (s.answerBytes q m (s.answerBytes q k x).2).2)
  | 0, x => by simp [State.answerBytes]
  | k + 1, x => by simp [Nat.succ_add, State.answerBytes, answerBytes_add m k]

@[simp] theorem answerBytes_length : ∀ (n : Nat) (x : Stream), (s.answerBytes q n x).1.length = n
  | 0, _ => rfl
  | n + 1, x => by simp [State.answerBytes, answerBytes_length n]

theorem xorAll_cons (b : Byte) (l : List Byte) : xorAll (b :: l) = b ^^^ xorAll l := by
  have fold : ∀ (l : List Byte) (a : Byte), l.foldl (· ^^^ ·) a = a ^^^ xorAll l := by
    intro l
    induction l with
    | nil => simp [xorAll]
    | cons c l ih =>
      intro a
      have head : xorAll (c :: l) = c ^^^ xorAll l := (ih (0 ^^^ c)).trans (by simp)
      rw [List.foldl_cons, ih, head, BitVec.xor_assoc]
  exact (fold l (0 ^^^ b)).trans (by simp)

theorem xorAll_append (l m : List Byte) : xorAll (l ++ m) = xorAll l ^^^ xorAll m := by
  induction l with
  | nil => simp [xorAll]
  | cons b l ih => rw [List.cons_append, xorAll_cons, ih, xorAll_cons, BitVec.xor_assoc]

/-- R177: what is left of the entry copied last goes out as it was copied. -/
theorem answerBytes_copy : ∀ (n : Nat) (x : Stream), x.phase = .entries → n ≤ x.copy.length → s.answerBytes q n x =
    (x.copy.take n, { x with copy := x.copy.drop n, check := x.check ^^^ xorAll (x.copy.take n) })
  | 0, x, _, _ => by simp [State.answerBytes, xorAll]
  | n + 1, x, hp, hn => by
    obtain ⟨b, rest, hc⟩ : ∃ b rest, x.copy = b :: rest := List.exists_cons_of_ne_nil (by rintro h; simp [h] at hn)
    have next : s.nextByte q x = (b, { x with copy := rest, check := x.check ^^^ b }) := by simp [State.nextByte, hp, hc]
    rw [answerBytes_succ next, answerBytes_copy n { x with copy := rest, check := x.check ^^^ b } hp (by simp [hc] at hn ⊢; omega)]
    simp [hc, xorAll_cons, BitVec.xor_assoc]

/-- R177: an entry is copied whole as it stands when its first byte goes out. -/
theorem answerBytes_entry {x : Stream} {n : Nat} (hp : x.phase = .entries) (hc : x.copy = []) (hl : x.left ≠ 0) (h1 : 1 ≤ n)
    (hn : n ≤ (s.entryBytes q x.id x.next).length) : s.answerBytes q n x =
      ((s.entryBytes q x.id x.next).take n, { x with
        next := x.next + 1, left := x.left - 1, copy := (s.entryBytes q x.id x.next).drop n
        check := x.check ^^^ xorAll ((s.entryBytes q x.id x.next).take n) }) := by
  obtain ⟨b, rest, he⟩ : ∃ b rest, s.entryBytes q x.id x.next = b :: rest :=
    List.exists_cons_of_ne_nil (by rintro h; simp [h] at hn; omega)
  obtain ⟨k, rfl⟩ : ∃ k, n = k + 1 := ⟨n - 1, by omega⟩
  have next : s.nextByte q x = (b, { x with
      next := x.next + 1, left := x.left - 1, copy := rest, check := x.check ^^^ b }) := by
    simp [State.nextByte, hp, hc, hl, he]
  rw [answerBytes_succ next, answerBytes_copy k
    { x with next := x.next + 1, left := x.left - 1, copy := rest, check := x.check ^^^ b } hp (by simp [he] at hn ⊢; omega)]
  simp [he, xorAll_cons, BitVec.xor_assoc]

/-- R177: the entries of a READ, one after the other. -/
def State.entriesFrom (s : State) (q : Port) (id : Byte) (first count : Nat) : List Byte :=
  (List.range count).flatMap fun k => s.entryBytes q id (first + k)

theorem entriesFrom_succ (id : Byte) (first count : Nat) : s.entriesFrom q id first (count + 1) =
    s.entryBytes q id first ++ s.entriesFrom q id (first + 1) count := by
  simp [State.entriesFrom, List.range_succ_eq_map, List.flatMap_map, Nat.add_assoc, Nat.add_comm 1]

theorem answerBytes_entries {id : Byte} : ∀ (k : Nat) (x : Stream), x.id = id → x.phase = .entries → x.copy = [] → x.left = k →
    (∀ i, i < k → s.entryBytes q id (x.next + i) ≠ []) →
    s.answerBytes q (s.entriesFrom q id x.next k).length x = (s.entriesFrom q id x.next k, { x with
      next := x.next + k, left := 0, check := x.check ^^^ xorAll (s.entriesFrom q id x.next k) })
  | 0, x, _, _, _, hl, _ => by
    obtain ⟨⟩ := x
    simp_all [State.entriesFrom, State.answerBytes, xorAll]
  | k + 1, x, hi, hp, hc, hl, he => by
    subst hi
    have first := answerBytes_entry (n := (s.entryBytes q x.id x.next).length) hp hc (by omega)
      (List.length_pos_iff.mpr (he 0 (by omega))) le_rfl
    rw [List.take_length, List.drop_length] at first
    have rest := answerBytes_entries k
      { x with next := x.next + 1, left := k, copy := [], check := x.check ^^^ xorAll (s.entryBytes q x.id x.next) } rfl hp rfl rfl
      (fun i hik => by have := he (i + 1) (by omega); rwa [Nat.add_assoc, Nat.add_comm 1])
    rw [entriesFrom_succ, List.length_append, answerBytes_add, first, hl]
    simp only [Nat.add_sub_cancel, rest]
    simp [xorAll_append, BitVec.xor_assoc, Nat.add_assoc, Nat.add_comm 1, hc]

/-- R175, R176: the check byte of the answer, and 0x00 after it. -/
theorem answerBytes_end {x : Stream} (hp : x.phase = .entries) (hc : x.copy = []) (hl : x.left = 0) (extra : Nat) :
    (s.answerBytes q (1 + extra) x).1 = x.check :: List.replicate extra 0 := by
  have zeros : ∀ (n : Nat) (y : Stream), y.phase = .finished → (s.answerBytes q n y).1 = List.replicate n 0 := by
    intro n
    induction n with
    | zero => simp [State.answerBytes]
    | succ n ih =>
      intro y hy
      have next : s.nextByte q y = (0, y) := by simp [State.nextByte, hy]
      simp [State.answerBytes, next, ih y hy, List.replicate_succ]
  have next : s.nextByte q x = (x.check, { x with phase := .finished }) := by simp [State.nextByte, hp, hc, hl]
  rw [Nat.add_comm, answerBytes_succ next, zeros _ _ rfl]

/-- R176: the answer begins with its result, which begins its check. -/
theorem answerBytes_result {x : Stream} (hp : x.phase = .answer) (n : Nat) : s.answerBytes q (1 + n) x =
    (resultByte x.result :: (s.answerBytes q n { x with check := resultByte x.result, phase := .entries }).1,
      (s.answerBytes q n { x with check := resultByte x.result, phase := .entries }).2) := by
  have next : s.nextByte q x = (resultByte x.result, { x with check := resultByte x.result, phase := .entries }) := by
    simp [State.nextByte, hp]
  rw [Nat.add_comm, answerBytes_succ next]

/-! ### A READ from an idle port -/

theorem exec_read_shift (s : State) (q : Port) (l : List Byte) :
    exec (.read q (.shift l)) s = .next (l.foldl (fun s b => s.shiftByte q b) (s.prepare.openRead q)) := rfl

theorem exec_read_deselect (s : State) (q : Port) : exec (.read q .deselect) s = .next (s.prepare.endRead q) := rfl

theorem openRead_idle (h : (s.ports.get q).tx = .idle) : (s.openRead q).ports.get q =
    { s.ports.get q with tx := .receiving [], dataOut := [s.statusByte q] } := by
  simp [State.openRead, h, setPort_get, State.select]

/-- R176: what a READ of an idle port leaves once its request is there and `more` bytes of its answer are shifted. -/
theorem read_idle (h : (s.ports.get q).tx = .idle) (id first count check : Byte) (more : List Byte) :
    let t := ([id, first, count, check] ++ more).foldl (fun s b => s.shiftByte q b) (s.openRead q)
    let a := s.answerBytes q more.length (readAnswer id first count check)
    Shifted q s t ∧ (t.ports.get q).tx = .streaming a.2 ∧
      (t.ports.get q).dataOut = s.statusByte q :: 0 :: 0 :: 0 :: 0 :: a.1 := by
  have opened := openRead_idle h
  have request := shiftBytes_receiving (q := q) (l := []) [id, first, count, check] (s := s.openRead q)
    (by rw [opened]) (by simp) (by simp)
  obtain ⟨tx, out⟩ := request
  have shifted := (shifted_openRead s q).trans (shifted_shiftBytes q [id, first, count, check] _)
  have answer := shiftBytes_streaming more shifted (x := readAnswer id first count check) tx
  dsimp only
  rw [List.foldl_append]
  refine ⟨shifted.trans (shifted_shiftBytes q more _), by rw [answer], ?_⟩
  rw [answer, out, opened]
  rfl

/-! ### A refused READ, and the deselect -/

theorem checkOk_request (id first count check : Byte) :
    checkOk [0x01, id, first, count, check] = true ↔ check = xorAll [0x01, id, first, count] := by
  rw [show [0x01, id, first, count, check] = [0x01, id, first, count] ++ [check] from rfl, checkOk_snoc, beq_iff_eq]

/-- R176: the refusals of a READ in their order. -/
theorem readRefused_of_cause {id first count check : Byte} {r : ResultCode}
    (h : (¬ check = xorAll [0x01, id, first, count] ∧ r = .checkFailed) ∨
      (check = xorAll [0x01, id, first, count] ∧ (tableShape id = none ∨ count = 0) ∧ r = .invalid) ∨
      (check = xorAll [0x01, id, first, count] ∧ count ≠ 0 ∧
        (∃ n len, tableShape id = some (n, len) ∧ n < first.toNat + count.toNat) ∧ r = .badIndex)) :
    readRefused id first count check = some r := by
  unfold readRefused
  rcases h with ⟨bad, rfl⟩ | ⟨good, cause, rfl⟩ | ⟨good, nonzero, ⟨n, len, shape, beyond⟩, rfl⟩
  · rw [Bool.eq_false_iff.mpr (mt (checkOk_request id first count check).mp bad)]; rfl
  · rw [(checkOk_request id first count check).mpr good]
    cases shape : tableShape id with
    | none => rfl
    | some x => rw [cause.resolve_left (by simp [shape])]; rfl
  · rw [(checkOk_request id first count check).mpr good, shape]
    simp only [Bool.not_true, Bool.false_eq_true, if_false, nonzero, beyond, if_true]

theorem readAnswer_refused {id first count check : Byte} {r : ResultCode} (h : readRefused id first count check = some r) :
    readAnswer id first count check = { result := r, id, next := 0, left := 0, copy := [], check := 0, phase := .answer } := by
  simp [readAnswer, h]

theorem endRead_of_streaming {x : Stream} (h : (s.ports.get q).tx = .streaming x) : s.endRead q = s.deselect q x.result := by
  simp [State.endRead, h]

theorem endRead_of_receiving {l : List Byte} (h : (s.ports.get q).tx = .receiving l) : s.endRead q = s.deselect q .length := by
  simp [State.endRead, h]

theorem endRead_of_command (h : (s.ports.get q).tx = .command) :
    s.endRead q = s.setPort q { s.ports.get q with tx := .idle } := by
  simp [State.endRead, h]

/-- Settles O13: a refused request answers its code and the check that belongs to it; the deselect by what the port has reached. -/
theorem readRefusedAndEnded : Obligations.ReadRefusedAndEnded := by
  refine ⟨fun s q id first count check x y idle => ?refused, fun s q => ?ended⟩
  case refused =>
    obtain ⟨shifted, tx, out⟩ := read_idle idle id first count check [x, y]
    refine ⟨_, exec_read_shift s q _, shifted.only, fun r hr => ?_⟩
    have answer := readAnswer_refused (readRefused_of_cause hr)
    have stream : s.prepare.answerBytes q [x, y].length (readAnswer id first count check) =
        ([resultByte r, resultByte r], { result := r, id, next := 0, left := 0, copy := [], check := resultByte r, phase := .finished }) := by
      rw [answer]; rfl
    rw [stream] at tx out
    exact ⟨out, _, tx, rfl⟩
  case ended =>
    refine ⟨_, exec_read_deselect s q, fun stream h => ⟨fun hd => ?_, fun hd => ?_⟩, fun bytes h => ?_, fun h => ?_⟩
    · rw [endRead_of_streaming h, hd]; exact deselect_done _ q
    · rw [endRead_of_streaming h]; exact deselect_refused _ q _ hd
    · rw [endRead_of_receiving h]; exact deselect_refused _ q _ (by decide)
    · rw [endRead_of_command h]; exact ⟨onlyPort_setPort _ q _, by simp [setPort_get]⟩

end Sys2Proof.Machine

/-! PROOFS. The views byte by byte (R188, R189, R194, R195): the length of each entry, and what each of its items shows. -/

namespace Sys2Proof.Machine

open Sys2Proof

/- In order: bodies elaborated side by side while the kernel still checks the text above each hold a thread's stack. -/
set_option Elab.async false

variable {s : State} {e : Nat → Byte} {α : Type}

/-! ### Lengths of items -/

@[simp] theorem length_optByte (x : Option Byte) : (optByte x).length = 2 := length_optional fun _ => rfl
@[simp] theorem length_optional_stamp (x : Option Stamp) : (optional 4 stampBytes x).length = 5 := length_optional fun _ => rfl
@[simp] theorem length_optional_be16 (x : Option Nat) : (optional 2 be16 x).length = 3 := length_optional fun _ => rfl
@[simp] theorem length_optional_be32s (x : Option Int) : (optional 4 be32s x).length = 5 := length_optional fun _ => rfl
@[simp] theorem length_optional_timecode (x : Option Timecode) : (optional 4 writeTimecode x).length = 5 :=
  length_optional fun _ => rfl
@[simp] theorem length_optional_tcBytes (x : Option (Timecode × TcFlags)) : (optional 5 tcBytes x).length = 6 :=
  length_optional fun _ => rfl

@[simp] theorem length_rigRecordBytes (x : RigRecord) : (rigRecordBytes x).length = 22 := by simp [rigRecordBytes]
@[simp] theorem length_optional_record (x : Option RigRecord) : (optional 22 rigRecordBytes x).length = 23 :=
  length_optional length_rigRecordBytes

@[simp] theorem length_historyBytes (x : HistoryEntry) : (historyBytes x).length = 17 := by simp [historyBytes]

@[simp] theorem length_optional_pending (x : Option PendingExchange) :
    (optional 2 (fun e => [timingByte e.timing, bit e.due]) x).length = 3 := length_optional fun _ => rfl
@[simp] theorem length_optional_candidate (x : Option Candidate) :
    (optional 5 (fun c => be32s c.offset ++ [byte c.count]) x).length = 6 := length_optional fun _ => rfl
@[simp] theorem length_optional_deferred (x : Option Deferred) :
    (optional 3 (fun d => [rigByte d.link] ++ be16 d.delay) x).length = 4 := length_optional fun _ => rfl
@[simp] theorem length_optional_required (x : Option Int) :
    (optional 9 (fun d => be64s d ++ [bit (!inReach d)]) x).length = 10 := length_optional fun _ => rfl
@[simp] theorem length_optional_measurement (x : Option Measurement) :
    (optional 9 (fun m => be32s m.offset ++ stampBytes m.instant ++ [rigByte m.rig]) x).length = 10 :=
  length_optional fun _ => rfl
@[simp] theorem length_optional_transition (x : Option Transition) :
    (optional 6 (fun t => [sourceByte t.src, sourceByte t.dst] ++ be16 t.k ++ be16 t.n) x).length = 7 :=
  length_optional fun _ => rfl

/-! ### Runs of items of one length -/

/-- Items of `m` bytes each, one after the other. -/
theorem spells_flatMap {f : α → List Byte} {m k : Nat} (hf : ∀ x, (f x).length = m) : ∀ {l : List α}, Spells e k (l.flatMap f) →
    ∀ i (hi : i < l.length), Spells e (k + m * i) (f l[i])
  | x :: l, h, 0, _ => by
    rw [List.flatMap_cons, spells_append] at h
    simpa using h.1
  | x :: l, h, i + 1, hi => by
    rw [List.flatMap_cons, spells_append, hf] at h
    have rest := spells_flatMap hf h.2 i (by simpa using hi)
    rwa [show k + m * (i + 1) = k + m + m * i by ring]

theorem spells_map {f : α → Byte} {k : Nat} {l : List α} (h : Spells e k (l.map f)) (i : Nat) (hi : i < l.length) :
    e (k + i) = f l[i] := by
  have item := spells_flatMap (f := fun x => [f x]) (m := 1) (fun _ => rfl) (by rwa [← List.map_eq_flatMap]) i hi
  simpa using item

/-! ### Items that are one byte, a number or a set of flags -/

theorem bit_not (b : Bool) : bit (!b) = if b = true then 0 else 1 := by cases b <;> rfl

theorem bit_eq (b : Bool) : bit b = if b = true then 1 else 0 := rfl

theorem tcFlagsByte_shown (f : TcFlags) : FlagsShown (tcFlagsByte f) f := by
  obtain ⟨a, b, c, d, e⟩ := f
  unfold FlagsShown
  revert a b c d e
  decide

theorem selfByte_bits (f : SelfFlags) : (selfByte f).toNat < 8 ∧ (selfByte f).getLsbD 0 = f.engineFault ∧
    (selfByte f).getLsbD 1 = f.mediaFault ∧ (selfByte f).getLsbD 2 = f.handoverRequest := by
  obtain ⟨a, b, c⟩ := f
  revert a b c
  decide

theorem matcherFlags_bits (x : MatcherEntry) : (matcherFlags x).toNat < 8 ∧ (matcherFlags x).getLsbD 0 = x.enable ∧
    (matcherFlags x).getLsbD 1 = x.chain ∧ (matcherFlags x).getLsbD 2 = x.edge := by
  have bits : ∀ a b c : Bool, (bit a ||| (bit b <<< 1) ||| (bit c <<< 2)).toNat < 8 ∧
      (bit a ||| (bit b <<< 1) ||| (bit c <<< 2)).getLsbD 0 = a ∧ (bit a ||| (bit b <<< 1) ||| (bit c <<< 2)).getLsbD 1 = b ∧
      (bit a ||| (bit b <<< 1) ||| (bit c <<< 2)).getLsbD 2 = c := by decide
  exact bits _ _ _

theorem spells_writeTimecode {t : Timecode} {k : Nat} (h : Spells e k (writeTimecode t)) : TimecodeShown e k t := by
  simpa [writeTimecode, TimecodeShown] using h

theorem spells_tcBytes {x : Timecode × TcFlags} {k : Nat} (h : Spells e k (tcBytes x)) :
    TimecodeShown e k x.1 ∧ FlagsShown (e (k + 4)) x.2 := by
  simp only [tcBytes, spells_append, spells_cons, spells_nil, and_true] at h
  obtain ⟨time, flags⟩ := h
  exact ⟨spells_writeTimecode time, by rw [show k + 4 = k + (writeTimecode x.1).length from rfl, flags]; exact tcFlagsByte_shown _⟩

theorem spells_be16_word {x : BitVec 16} {k : Nat} (h : Spells e k (be16 x.toNat)) : word16 e k = x := by
  rw [spells_be16 h, BitVec.ofNat_toNat, BitVec.setWidth_eq]

theorem spells_optByte {x : Option Byte} {k : Nat} (h : Spells e k (optByte x)) : OptionShown e k 1 x fun b => e (k + 1) = b :=
  (spells_optional h).mono fun _ hb => by simpa using hb

/-- An optional item whose value is shown through a function of it. -/
theorem OptionShown.of_map {β : Type} {f : α → β} {x : Option α} {k n : Nat} {p : β → Prop} (h : OptionShown e k n (x.map f) p) :
    OptionShown e k n x fun y => p (f y) :=
  ⟨fun hx => h.1 (by simp [hx]), fun y hy => h.2 (f y) (by simp [hy])⟩

/-! ### The lengths of the views (R188) -/

@[simp] theorem length_deviceEntry : s.deviceEntry.length = 12 := by simp [State.deviceEntry]

@[simp] theorem length_rigEntry (r : Rig) : (s.rigEntry r).length = 42 := by
  have errors := (s.links.get r).laneErrors.len
  simp [State.rigEntry, List.length_flatMap, errors]

theorem length_guardPlace (i : Fin 64) (d : Option GuardDecision) : (guardPlace i d).length = 3 := by
  cases d <;> rfl

theorem length_watched_le : s.watched.length ≤ 4 := List.length_take_le _ _

theorem length_healthEntry (r : Rig) : (s.healthEntry r).length = 35 + 3 * s.watched.length := by
  simp [State.healthEntry, List.length_flatMap, length_guardPlace]
  omega

@[simp] theorem length_alignmentEntry : s.alignmentEntry.length = 45 := by
  simp only [State.alignmentEntry, List.length_append, List.length_cons, List.length_nil, length_be16,
    length_optional_candidate, length_optional_be32s, length_optional_deferred, length_optional_required,
    length_optional_measurement]

@[simp] theorem length_arbiterEntry : s.arbiterEntry.length = 12 := by simp [State.arbiterEntry]

@[simp] theorem length_groupEntry (i : Fin 8) : (s.groupEntry i).length = 16 := by
  simp only [State.groupEntry, List.length_append, List.length_cons, List.length_nil, length_be16, length_optional_transition]

@[simp] theorem length_writeControl (x : ClockControl) : (writeControl x).length = 5 := rfl

@[simp] theorem length_clockEntry : s.clockEntry.length = 42 := by simp [State.clockEntry]

@[simp] theorem length_historyAt (i : Nat) : (s.historyAt i).length = 18 := length_optional length_historyBytes

@[simp] theorem length_matcherEntry (i : Fin 8) : (s.matcherEntry i).length = 12 := by simp [State.matcherEntry]

@[simp] theorem length_portEntry (c : ControlPort) : (portEntry c).length = 6 := rfl

/-! ### The views -/

theorem deviceShown (h : ∀ k, e k = s.deviceEntry.getD k 0) : DeviceShown s e := by
  have items := spells_of h
  simp only [State.deviceEntry, spells_append, spells_cons, spells_nil, and_true, List.length_append, List.length_cons,
    List.length_nil, length_stampBytes, Nat.reduceAdd, and_assoc] at items
  obtain ⟨cause, restarts, source, count, running, claim, exchange⟩ := items
  refine ⟨cause, restarts, source, spells_stampBytes count, ?_, claim, (spells_optional exchange).mono fun x hx => ?_,
    zero_after h (by simp)⟩
  · rw [running, bit_not, State.frontEditable]; simp
  · simp only [spells_cons, spells_nil, and_true] at hx
    exact hx

theorem recordShown {x : RigRecord} (h : Spells e 13 (rigRecordBytes x)) : RecordShown e x := by
  simp only [rigRecordBytes, spells_append, spells_cons, spells_nil, and_true, List.length_append, List.length_cons,
    List.length_nil, length_stampBytes, length_be16, length_optional_stamp, Nat.reduceAdd, and_assoc] at h
  obtain ⟨sequence, transport, song, sectionByte, flags, position, user, stamp, anchor, received⟩ := h
  exact ⟨sequence, transport, song, sectionByte, by rw [flags]; exact selfByte_bits _, spells_stampBytes position,
    spells_be16_word user, spells_stampBytes stamp, (spells_optional anchor).mono fun _ => spells_stampBytes,
    spells_be16_word received⟩

theorem rigShown (r : Rig) (h : ∀ k, e k = (s.rigEntry r).getD k 0) : RigShown s r e := by
  have items := spells_of h
  have errors := (s.links.get r).laneErrors.len
  have lanes : ((s.links.get r).laneErrors.list.flatMap fun n => be16 n.toNat).length = 8 := by
    simp [List.length_flatMap, errors]
  simp only [State.rigEntry, spells_append, spells_cons, spells_nil, and_true, List.length_append, List.length_cons,
    List.length_nil, length_be16, length_optional_record, length_optional_be16, lanes, Nat.reduceAdd, and_assoc] at items
  obtain ⟨state, fill, slips, laneErrors, record, age, valid, rejected⟩ := items
  refine ⟨state, fill, spells_be16_word slips, fun i => ?_, (spells_optional record).mono fun _ => recordShown,
    (spells_optional age).mono fun _ => spells_be16, spells_be16_word valid, spells_be16_word rejected,
    zero_after h (by simp)⟩
  exact spells_be16_word (spells_flatMap (m := 2) (fun _ => rfl) laneErrors i.val (by omega))

theorem conditions_union (r : Rig) (x : KindSet) (i : Fin 11) :
    ((s.conditions r).union x).get i = true ↔ (s.conditions r).get i = true ∨ x.get i = true := by
  simp [KindSet.union]

theorem qualified_iff (r : Rig) (i : Fin 11) : (s.qualified r).get i = true ↔
    (s.health.get r).state ≠ .offline ∧ (s.bank.front.fault.get i).enabled = true ∧
      (if (s.bank.front.fault.get i).delay = 0 then (s.health.get r).flags.get i = true
        else (s.health.get r).counters.get i = (s.bank.front.fault.get i).delay) := by
  simp only [State.qualified, Health.qualifiedUnder, Table.get_tab, Bool.and_eq_true, bne_iff_ne, and_assoc]
  split <;> simp

theorem guardPlaceShown {k : Nat} {i : Fin 64} {d : Option GuardDecision} : Spells e k (guardPlace i d) →
    e k = byte i.val ∧ e (k + 1) = (match d with | none => 0 | some d => if d.silent then 1 else 0) ∧
      e (k + 2) = (match d with | none => 0 | some d => if d.steady then 1 else 0) := by
  intro h
  cases d <;> simpa [guardPlace, bit_eq] using h

theorem healthShown (r : Rig) (h : ∀ k, e k = (s.healthEntry r).getD k 0) : HealthShown s r e := by
  have items := spells_of h
  have four := length_watched_le (s := s)
  have long := length_healthEntry (s := s) r
  simp only [State.healthEntry, spells_append, spells_cons, spells_nil, and_true, List.length_append, List.length_cons,
    List.length_nil, length_be16, List.length_map, List.length_finRange, Nat.reduceAdd, and_assoc] at items
  obtain ⟨state, restore, failures, history, qualified, conditions, flags, counters, standings, watched, places⟩ := items
  refine ⟨state, spells_be16 restore, failures, ?_, ?_, ?_, ?_, fun i => ?_, fun i => ?_, watched, fun k => ⟨fun empty j hj => ?_,
    fun i full => ?_⟩, zero_after h (by omega)⟩
  · rw [spells_be16 history]; exact kindsShown_kindsNat fun _ => Iff.rfl
  · rw [spells_be16 qualified]; exact kindsShown_kindsNat fun i => qualified_iff r i
  · rw [spells_be16 conditions]; exact kindsShown_kindsNat fun i => conditions_union r _ i
  · rw [spells_be16 flags]; exact kindsShown_kindsNat fun _ => Iff.rfl
  · simpa using spells_map counters i.val (by simp)
  · have standing := spells_map standings i.val (by simp)
    simpa [State.standing, enabledIn] using standing
  · have short := List.getElem?_eq_none_iff.mp empty
    rw [h]
    exact List.getD_eq_default _ _ (by rw [long]; change s.watched.length ≤ k.val at short; omega)
  · obtain ⟨hk, rfl⟩ := List.getElem?_eq_some_iff.mp full
    obtain ⟨entry, silent, steady⟩ := guardPlaceShown (spells_flatMap (length_guardPlace · _) places k.val hk)
    refine ⟨entry, ?_, ?_⟩
    · rw [show 36 + 3 * k.val = 35 + 3 * k.val + 1 by omega]; exact silent
    · rw [show 37 + 3 * k.val = 35 + 3 * k.val + 2 by omega]; exact steady

theorem alignmentShown (h : ∀ k, e k = s.alignmentEntry.getD k 0) : AlignmentShown s e := by
  have items := spells_of h
  simp only [State.alignmentEntry, spells_append, spells_cons, spells_nil, and_true, List.length_append, List.length_cons,
    List.length_nil, length_be16, length_optional_candidate, length_optional_be32s, length_optional_deferred,
    length_optional_required, length_optional_measurement, Nat.reduceAdd, and_assoc] at items
  obtain ⟨state, reference, standby, delayA, delayB, candidate, accepted, pairless, holdAge, deferred, required, measured,
    eligible⟩ := items
  refine ⟨state, ?_, standby, spells_be16 delayA, spells_be16 delayB, (spells_optional candidate).mono fun c hc => ?_,
    (spells_optional accepted).mono fun _ => spells_be32s, pairless, holdAge, (spells_optional deferred).mono fun d hd => ?_,
    (spells_optional required).mono fun d hd => ?_, (spells_optional measured).mono fun m hm => ?_, ?_,
    zero_after h (by simp)⟩
  · rw [reference]; cases hr : s.arbiter.onAir with
    | none => simp [Arbiter.reference, hr, Rig.other]
    | some r => cases r <;> simp [Arbiter.reference, hr, Rig.other]
  · simp only [spells_append, spells_cons, spells_nil, and_true, length_be32s] at hc
    exact ⟨spells_be32s hc.1, hc.2⟩
  · simp only [spells_append, spells_cons, spells_nil, and_true, List.length_cons, List.length_nil] at hd
    exact ⟨hd.1, spells_be16 hd.2⟩
  · simp only [spells_append, spells_cons, spells_nil, and_true, length_be64s] at hd
    refine ⟨spells_be64s hd.1, hd.2.trans ?_⟩
    rw [bit_not]
    simp [inReach]
  · simp only [spells_append, spells_cons, spells_nil, and_true, List.length_append, length_be32s, length_stampBytes,
      Nat.reduceAdd, and_assoc] at hm
    exact ⟨spells_be32s hm.1, spells_stampBytes hm.2.1, hm.2.2⟩
  · rw [eligible, bit_eq]
    simp [State.eligibleNow, and_assoc]
    rfl

theorem arbiterShown (h : ∀ k, e k = s.arbiterEntry.getD k 0) : ArbiterShown s e := by
  have items := spells_of h
  simp only [State.arbiterEntry, spells_append, spells_cons, spells_nil, and_true, List.length_append, List.length_cons,
    List.length_nil, length_optByte, Nat.reduceAdd, and_assoc] at items
  obtain ⟨state, mode, inhibit, onAir, outgoing, song, auto, eligible, history, sequence⟩ := items
  refine ⟨state, mode, inhibit, onAir, (spells_optByte outgoing).of_map, song, ?_, eligible, history,
    spells_be16_word sequence, zero_after h (by simp)⟩
  rw [auto, bit_eq]
  simp [State.autoPermitted, and_assoc]

theorem groupShown (i : Fin 8) (h : ∀ k, e k = (s.groupEntry i).getD k 0) : GroupShown s i e := by
  have items := spells_of h
  simp only [State.groupEntry, spells_append, spells_cons, spells_nil, and_true, List.length_append, List.length_cons,
    List.length_nil, length_be16, length_optional_transition, Nat.reduceAdd, and_assoc] at items
  obtain ⟨mode, oneSong, base, current, transition, target, waiting, fade, policy⟩ := items
  refine ⟨mode, oneSong, base, current, (spells_optional transition).mono fun f hf => ?_, target, ?_, spells_be16 fade, policy,
    zero_after h (by simp)⟩
  · simp only [spells_append, spells_cons, spells_nil, and_true, List.length_append, List.length_cons, List.length_nil,
      length_be16, Nat.reduceAdd, and_assoc] at hf
    exact ⟨hf.1, hf.2.1, spells_be16 hf.2.2.1, spells_be16 hf.2.2.2⟩
  · rw [waiting, bit_eq]
    unfold Group.waiting
    cases (s.mixer.groups.get i).transition <;> simp

/-- R126: the timecode and flags that the clock shows while it runs. -/
theorem derived_shown : (s.derived.1, ({ noTcFlags with preroll := s.derived.2 } : TcFlags)) =
    if s.elapsed < 0 then (s.startOf s.clockSong, { noTcFlags with preroll := true })
    else (timecodeAt s.bank.setup.frameRate.fps (s.startOf s.clockSong) s.frameCount, noTcFlags) := by
  unfold State.derived
  split <;> rfl

theorem clockShown (h : ∀ k, e k = s.clockEntry.getD k 0) : ClockShown s e := by
  have items := spells_of h
  simp only [State.clockEntry, spells_append, spells_cons, spells_nil, and_true, List.length_append, List.length_cons,
    List.length_nil, length_optByte, length_optional_stamp, length_optional_be32s, length_optional_be16,
    length_optional_tcBytes, Nat.reduceAdd, and_assoc] at items
  obtain ⟨state, anchor, target, error, song, slew, freewheel, shown, flags, emitted, waiting, control⟩ := items
  simp only [writeControl, spells_append, spells_cons, spells_nil, and_true, List.length_append, length_be16, Nat.reduceAdd,
    and_assoc] at control
  obtain ⟨window, rate, limit⟩ := control
  refine ⟨state, (spells_optional anchor).mono fun _ => spells_stampBytes, (spells_optional target).mono fun _ => spells_stampBytes,
    (spells_optional error).mono fun _ => spells_be32s, spells_optByte song, (spells_optional slew).mono fun _ => spells_be16,
    (spells_optByte freewheel).of_map, ?_, by rw [flags]; exact tcFlagsByte_shown _,
    (spells_optional emitted).mono fun _ => spells_tcBytes, waiting, spells_be16 window, spells_be16 rate, limit,
    zero_after h (by simp)⟩
  have timecode := (spells_optional shown).mono fun _ => spells_tcBytes
  unfold State.shown at timecode
  rw [derived_shown] at timecode
  cases hs : s.showClock.state <;> simpa only [hs] using timecode

theorem historyShown (i : Nat) (h : ∀ k, e k = (s.historyAt i).getD k 0) : HistoryShown s i e := by
  refine ⟨(spells_optional (spells_of h)).mono fun x hx => ?_, zero_after h (by simp)⟩
  · simp only [historyBytes, spells_append, spells_cons, spells_nil, and_true, List.length_append, List.length_cons,
      List.length_nil, length_be16, length_stampBytes, length_optional_timecode, Nat.reduceAdd, and_assoc] at hx
    obtain ⟨sequence, stamp, timecode, fromRig, toRig, cause, ending, failing⟩ := hx
    refine ⟨spells_be16_word sequence, spells_stampBytes stamp, (spells_optional timecode).mono fun _ => spells_writeTimecode,
      fromRig, toRig, cause, ending, ?_⟩
    rw [spells_be16 failing]
    exact kindsShown_kindsNat fun _ => Iff.rfl

theorem matcherShown (i : Fin 8) (h : ∀ k, e k = (s.matcherEntry i).getD k 0) : MatcherShown s i e := by
  have items := spells_of h
  simp only [State.matcherEntry, spells_append, spells_cons, spells_nil, and_true, List.length_append, List.length_cons,
    List.length_nil, length_optByte, length_optional_stamp, Nat.reduceAdd, and_assoc] at items
  obtain ⟨matched, fires, result, stamp, flags, source, action⟩ := items
  exact ⟨matched, fires, (spells_optByte result).of_map, (spells_optional stamp).mono fun _ => spells_stampBytes,
    by rw [flags]; exact matcherFlags_bits _, source, action, zero_after h (by simp)⟩

theorem portShown (c : ControlPort) (h : ∀ k, e k = (portEntry c).getD k 0) : PortShown c e := by
  have items := spells_of h
  simp only [portEntry, spells_append, spells_cons, spells_nil, and_true, List.length_append, length_be16, Nat.reduceAdd,
    and_assoc] at items
  obtain ⟨notices, mask, attention, result⟩ := items
  refine ⟨?_, ?_, ?_, ?_, result, zero_after h (by simp)⟩
  · rw [spells_be16 notices]; exact noticesShown_noticesNat _
  · rw [spells_be16 mask]; exact noticesShown_noticesNat _
  · rw [← c.attention_iff_idx, attention]
    cases c.attention <;> decide
  · rw [attention]
    cases c.attention <;> decide

end Sys2Proof.Machine

/-! PROOFS. Entry layouts (R189, R193) read back what they write. -/

namespace Sys2Proof.Machine

open Sys2Proof

/- In order: bodies elaborated side by side while the kernel still checks the text above each hold a thread's stack. -/
set_option Elab.async false

variable {s : State} {q : Port}

/-! ### Fields read back -/

@[simp] theorem boolOf_bit (b : Bool) : boolOf (bit b) = some b := by cases b <;> rfl
@[simp] theorem policyOf_policyByte (x : BlindPolicy) : policyOf (policyByte x) = some x := by cases x <;> rfl
@[simp] theorem matchSourceOf_byte (x : MatchSource) : matchSourceOf (matchSourceByte x) = some x := by cases x <;> rfl
@[simp] theorem matchActionOf_byte (x : MatchAction) : matchActionOf (matchActionByte x) = some x := by cases x <;> rfl
@[simp] theorem rateOf_rateByte (x : SampleRate) : rateOf (rateByte x) = some x := by cases x <;> rfl
@[simp] theorem periodOf_periodByte (x : BeaconPeriod) : periodOf (periodByte x) = some x := by cases x <;> rfl
@[simp] theorem frameRateOf_byte (x : FrameRate) : frameRateOf (frameRateByte x) = some x := by cases x <;> rfl
@[simp] theorem rightsOf_rightsByte (x : Rights) : rightsOf (rightsByte x) = some x := by cases x <;> rfl

theorem toNat_byte {n : Nat} (h : n < 256) : (byte n).toNat = n := by simp [byte, Nat.mod_eq_of_lt h]

@[simp] theorem finOf_byte {n : Nat} (i : Fin n) (h : n ≤ 256) : finOf n (byte i.val) = some i := by
  have := i.isLt
  simp [finOf, toNat_byte (show i.val < 256 by omega)]

theorem natTo_byte {hi n : Nat} (h : n ≤ hi) (hb : hi < 256) : natTo hi (byte n) = some n := by
  simp [natTo, toNat_byte (show n < 256 by omega), h]

theorem nat16_be16 (n : Nat) : nat16 (BitVec.ofNat 8 (n / 256)) (BitVec.ofNat 8 n) = n % 65536 := by
  simp only [nat16, BitVec.toNat_ofNat]
  omega

theorem clamp_of_mem {lo hi n : Nat} (hl : lo ≤ n) (hh : n ≤ hi) : clamp lo hi n = n := by
  simp [clamp, hl, hh]

theorem readRoute_writeRoute (x : RouteEntry) : readRoute (writeRoute x) = some x := by
  simp [writeRoute, readRoute]

theorem readGroup_writeGroup (x : GroupEntry) (h : x.fadeLength ≤ 4095) : readGroup (writeGroup x) = some x := by
  simp [writeGroup, readGroup, be16, nat16_be16, Nat.mod_eq_of_lt (show x.fadeLength < 65536 by omega), clamp_of_mem, h]

theorem readSong_writeSong (x : SongEntry) (hh : x.start.h ≤ 23) (hm : x.start.m ≤ 59) (hs : x.start.s ≤ 59)
    (hf : x.start.fr ≤ 29) : readSong (writeSong x) = some x := by
  simp [writeSong, writeTimecode, readSong, natTo_byte, hh, hm, hs, hf]

theorem readMatcher_writeMatcher (x : MatcherEntry) : readMatcher (writeMatcher x) = some x := by
  obtain ⟨-, enable, chain, edge⟩ := matcherFlags_bits x
  have mask : x.mask.toNat < 65536 := by have := x.mask.isLt; omega
  simp only [writeMatcher, readMatcher, be16, List.cons_append, List.nil_append, nat16_be16, enable, chain, edge,
    matchSourceOf_byte, matchActionOf_byte, finOf_byte x.lamp (by decide), finOf_byte x.pattern (by decide),
    Nat.mod_eq_of_lt mask, Nat.mod_eq_of_lt (show x.crc.toNat < 65536 from x.crc.isLt), Option.bind_eq_bind,
    Option.bind_some, Option.pure_def]
  simp only [BitVec.ofNat_toNat, BitVec.setWidth_eq]

theorem readFault_writeFault (x : FaultEntry) (h : x.delay ≤ 255) : readFault (writeFault x) = some x := by
  simp [writeFault, readFault, toNat_byte (show x.delay < 256 by omega), clamp_of_mem, h]

theorem readMonitor_writeMonitor (x : MonitorPolicy) (hp : x.positionTolerance ≤ 255) (hl : 4 ≤ x.silenceExponent)
    (hh : x.silenceExponent ≤ 20) (ht : x.tolerance ≤ 15) (hk : 1 ≤ x.confirm) (hk' : x.confirm ≤ 15)
    (hd : x.holdLimit ≤ 255) (hr : x.restoreTime ≤ 4095) : readMonitor (writeMonitor x) = some x := by
  simp only [writeMonitor, readMonitor, be16, List.cons_append, List.nil_append, nat16_be16,
    toNat_byte (show x.positionTolerance < 256 by omega), toNat_byte (show x.silenceExponent < 256 by omega),
    toNat_byte (show x.tolerance < 256 by omega), toNat_byte (show x.confirm < 256 by omega),
    toNat_byte (show x.holdLimit < 256 by omega), Nat.mod_eq_of_lt (show x.restoreTime < 65536 by omega),
    clamp_of_mem (Nat.zero_le _) hp, clamp_of_mem hl hh, clamp_of_mem (Nat.zero_le _) ht, clamp_of_mem hk hk',
    clamp_of_mem (Nat.zero_le _) hd, clamp_of_mem (Nat.zero_le _) hr]

theorem readSetup_writeSetup (x : ShowSetup) (h : x.baseDelay ≤ 1023) : readSetup (writeSetup x) = some x := by
  simp [writeSetup, readSetup, be16, nat16_be16, Nat.mod_eq_of_lt (show x.baseDelay < 65536 by omega), clamp_of_mem, h]

theorem readControl_writeControl (x : ClockControl) (hw : x.slewWindow ≤ 48000) (hl : 100 ≤ x.slewRate)
    (hh : x.slewRate ≤ 10000) (hf : x.freewheelLimit ≤ 255) : readControl (writeControl x) = some x := by
  simp [writeControl, readControl, be16, nat16_be16, Nat.mod_eq_of_lt (show x.slewWindow < 65536 by omega),
    Nat.mod_eq_of_lt (show x.slewRate < 65536 by omega), toNat_byte (show x.freewheelLimit < 256 by omega), clamp_of_mem,
    hw, hl, hh, hf]

theorem readPattern_be16 (x : BitVec 16) : readPattern (be16 x.toNat) = some x := by
  rw [be16, readPattern, nat16_be16, Nat.mod_eq_of_lt x.isLt, BitVec.ofNat_toNat, BitVec.setWidth_eq]

theorem readNotices_be16 (x : NoticeSet) : readNotices (be16 (noticesNat x)) = some x := by
  have small := noticesNat_lt x
  have bits : (Table.tab fun i : Fin 13 => (noticesNat x).testBit i.val) = x :=
    Table.ext_get fun i => by rw [Table.get_tab, noticesNat_testBit]
  rw [be16, readNotices_pair, nat16_be16, Nat.mod_eq_of_lt (by omega), if_pos small, bits]

/-- Settles O51: each field is read back from the bytes that its layout writes. -/
theorem entryLayoutsRoundTrip : Obligations.EntryLayoutsRoundTrip :=
  ⟨readRoute_writeRoute, readGroup_writeGroup, readSong_writeSong, readMatcher_writeMatcher, readFault_writeFault,
    readMonitor_writeMonitor, readSetup_writeSetup, readControl_writeControl, readPattern_be16, readNotices_be16⟩

end Sys2Proof.Machine

/-! PROOFS. What a table's entries hold, and a READ streams them as they stand (R176, R177, R188, R189). -/

namespace Sys2Proof.Machine

open Sys2Proof

/- In order: bodies elaborated side by side while the kernel still checks the text above each hold a thread's stack. -/
set_option Elab.async false

variable {s : State} {q : Port}

/-! ### The entry that a READ copies -/

theorem padTo_of_length {n : Nat} {l : List Byte} (h : l.length = n) : padTo n l = l := by simp [padTo, h]

theorem length_padTo {n : Nat} {l : List Byte} (h : l.length ≤ n) : (padTo n l).length = n := by simp [padTo]; omega

theorem length_entryOf_le {α : Type} {n m i : Nat} {t : Table n α} {f : α → List Byte} (h : ∀ x, (f x).length ≤ m) :
    (entryOf n t f i).length ≤ m := by
  unfold entryOf
  split
  · exact h _
  · simp

theorem length_eight_le {m i : Nat} {f : Fin 8 → List Byte} (h : ∀ x, (f x).length ≤ m) : (eight f i).length ≤ m := by
  unfold eight
  split
  · exact h _
  · simp

theorem entryOf_val {α : Type} {n : Nat} (t : Table n α) (f : α → List Byte) (i : Fin n) : entryOf n t f i.val = f (t.get i) :=
  dif_pos i.isLt

theorem eight_val (f : Fin 8 → List Byte) (i : Fin 8) : eight f i.val = f i := dif_pos i.isLt

/-- R188: no entry of a banked table is longer than its id says. -/
theorem length_bankEntry_le (b : Bank) (x : BankedTable) (i : Nat) {n len : Nat}
    (h : tableShape (bankedId x) = some (n, len)) : (b.entry x i).length ≤ len := by
  cases x <;> cases h
  case monitorPolicy => exact le_of_eq rfl
  all_goals exact length_entryOf_le fun _ => le_of_eq rfl

/-- R188: the ids that name a table. -/
theorem mem_of_tableShape {id : Byte} {x : Nat × Nat} (h : tableShape id = some x) :
    id ∈ ([0, 1, 2, 3, 4, 5, 6, 7, 8, 9, 24, 25, 26, 27] : List Byte) ∨ ∃ k, id = bankedId k ∨ id = 32 + bankedId k := by
  have named : ∀ b : Byte, tableShape b ≠ none → b ∈ ([0, 1, 2, 3, 4, 5, 6, 7, 8, 9, 24, 25, 26, 27] : List Byte) ∨
      b ∈ ([.route, .group, .song, .matcher, .faultPolicy, .monitorPolicy] : List BankedTable).map bankedId ∨
      b ∈ ([.route, .group, .song, .matcher, .faultPolicy, .monitorPolicy] : List BankedTable).map (32 + bankedId ·) := by decide
  rcases named id (by simp [h]) with view | editable | front
  · exact .inl view
  · obtain ⟨k, -, rfl⟩ := List.mem_map.mp editable
    exact .inr ⟨k, .inl rfl⟩
  · obtain ⟨k, -, rfl⟩ := List.mem_map.mp front
    exact .inr ⟨k, .inr rfl⟩

theorem viewEntry_banked (k : BankedTable) (i : Nat) : s.viewEntry q (bankedId k) i = s.editable.entry k i := by cases k <;> rfl

theorem viewEntry_front (k : BankedTable) (i : Nat) : s.viewEntry q (32 + bankedId k) i = s.bank.front.entry k i := by
  cases k <;> rfl

/-- R188: no entry is longer than its table says. -/
theorem length_viewEntry_le {id : Byte} {n len i : Nat} (h : tableShape id = some (n, len)) : (s.viewEntry q id i).length ≤ len := by
  rcases mem_of_tableShape h with view | ⟨k, rfl | rfl⟩
  · simp only [List.mem_cons, List.not_mem_nil, or_false] at view
    rcases view with rfl | rfl | rfl | rfl | rfl | rfl | rfl | rfl | rfl | rfl | rfl | rfl | rfl | rfl <;> cases h
    · exact (length_deviceEntry (s := s)).trans_le (by decide)
    · exact (length_rigEntry (s := s) _).trans_le (by decide)
    · have watched := length_watched_le (s := s)
      exact (length_healthEntry (s := s) _).trans_le (by omega)
    · exact (length_alignmentEntry (s := s)).trans_le (by decide)
    · exact (length_arbiterEntry (s := s)).trans_le (by decide)
    · exact length_eight_le fun x => (length_groupEntry (s := s) x).le
    · exact (length_clockEntry (s := s)).trans_le (by decide)
    · exact (length_historyAt (s := s) i).le
    · exact length_eight_le fun x => (length_matcherEntry (s := s) x).trans_le (by decide)
    · exact (length_portEntry _).trans_le (by decide)
    · exact le_of_eq rfl
    · exact le_of_eq rfl
    · exact length_entryOf_le (t := s.lamps.patterns) (f := fun x => be16 x.toNat) fun _ => le_of_eq rfl
    · exact le_of_eq rfl
  · rw [viewEntry_banked]
    exact length_bankEntry_le _ k i h
  · rw [viewEntry_front]
    exact length_bankEntry_le _ k i (by cases k <;> exact h)

/-- R188: every entry has the length its table gives. -/
theorem length_entryBytes {id : Byte} {n len : Nat} (h : tableShape id = some (n, len)) (i : Nat) :
    (s.entryBytes q id i).length = len := by
  rw [State.entryBytes, h]
  exact length_padTo (length_viewEntry_le h)

/-- R189: an item within an entry is the view's, and the bytes after the view's last are 0. -/
theorem getD_entryBytes {id : Byte} {x : Nat × Nat} (h : tableShape id = some x) (i k : Nat) :
    (s.entryBytes q id i).getD k 0 = (s.viewEntry q id i).getD k 0 := by
  rw [State.entryBytes, h]
  exact getD_padTo

/-- An entry that fills its length is the view's. -/
theorem entryBytes_of_length {id : Byte} {n len i : Nat} (h : tableShape id = some (n, len))
    (full : (s.viewEntry q id i).length = len) : s.entryBytes q id i = s.viewEntry q id i := by
  rw [State.entryBytes, h]
  exact padTo_of_length full

/-- A banked table's entry, read through the id of the editable bank and through FRONT's. -/
theorem entryBytes_banked {k : BankedTable} {n len i : Nat} {l m : List Byte} (h : tableShape (bankedId k) = some (n, len))
    (hl : s.editable.entry k i = l) (hm : s.bank.front.entry k i = m) (len_l : l.length = len) (len_m : m.length = len) :
    s.entryBytes q (bankedId k) i = l ∧ s.entryBytes q (32 + bankedId k) i = m := by
  have front : tableShape (32 + bankedId k) = some (n, len) := by cases k <;> exact h
  have left : s.viewEntry q (bankedId k) i = l := (viewEntry_banked k i).trans hl
  have right : s.viewEntry q (32 + bankedId k) i = m := (viewEntry_front k i).trans hm
  exact ⟨(entryBytes_of_length h (by rw [left, len_l])).trans left, (entryBytes_of_length front (by rw [right, len_m])).trans right⟩

theorem editable_eq (s : State) : s.editable = if s.arbiter.state = .stopped then s.bank.front else s.bank.back := by
  simp [State.editable, State.frontEditable]

/-! ### A READ of whole entries -/

theorem readAnswer_done {id first count : Byte} {n len : Nat} (shape : tableShape id = some (n, len)) (some_count : count ≠ 0)
    (inside : first.toNat + count.toNat ≤ n) :
    readAnswer id first count (xorAll [0x01, id, first, count]) =
      { result := .done, id, next := first.toNat, left := count.toNat, copy := [], check := 0, phase := .answer } := by
  have accepted : readRefused id first count (xorAll [0x01, id, first, count]) = none := by
    unfold readRefused
    rw [(checkOk_request _ _ _ _).mpr rfl, shape]
    simp only [Bool.not_true, Bool.false_eq_true, if_false, some_count, if_neg (not_lt.mpr inside)]
  rw [readAnswer, accepted]

theorem pos_of_tableShape {id : Byte} {n len : Nat} (h : tableShape id = some (n, len)) : 0 < len := by
  rcases mem_of_tableShape h with view | ⟨k, rfl | rfl⟩
  · simp only [List.mem_cons, List.not_mem_nil, or_false] at view
    rcases view with rfl | rfl | rfl | rfl | rfl | rfl | rfl | rfl | rfl | rfl | rfl | rfl | rfl | rfl <;> cases h <;> decide
  all_goals cases k <;> cases h <;> decide

/-- R176, R177: the answer of whole entries, its check, and 0x00 after it. -/
theorem answerBytes_whole {id first count : Byte} {n len : Nat} (shape : tableShape id = some (n, len)) (some_count : count ≠ 0)
    (inside : first.toNat + count.toNat ≤ n) (extra : Nat) :
    (s.answerBytes q (1 + ((s.entriesFrom q id first.toNat count.toNat).length + (1 + extra)))
      (readAnswer id first count (xorAll [0x01, id, first, count]))).1 =
      0 :: (s.entriesFrom q id first.toNat count.toNat ++ xorAll (s.entriesFrom q id first.toNat count.toNat) ::
        List.replicate extra 0) := by
  rw [readAnswer_done shape some_count inside, answerBytes_result rfl, answerBytes_add]
  have body := answerBytes_entries (s := s) (q := q) count.toNat
    { result := .done, id, next := first.toNat, left := count.toNat, copy := [], check := resultByte .done, phase := .entries }
    rfl rfl rfl rfl fun i _ h => by
      have full := length_entryBytes (s := s) (q := q) shape (first.toNat + i)
      have := pos_of_tableShape shape
      rw [h] at full
      simp at full
      omega
  rw [body, answerBytes_end rfl rfl rfl]
  simp [resultByte]

/-- R177: within an entry the answer goes on with the copy, copying the entry first where none is in hand. -/
theorem answerBytes_within {x : Stream} {n : Nat} (phase : x.phase = .entries) (left : x.copy = [] → x.left ≠ 0) (one : 1 ≤ n)
    (fits : n ≤ (if x.copy = [] then s.entryBytes q x.id x.next else x.copy).length) :
    s.answerBytes q n x = ((if x.copy = [] then s.entryBytes q x.id x.next else x.copy).take n, { x with
      next := x.next + if x.copy = [] then 1 else 0
      left := x.left - if x.copy = [] then 1 else 0
      copy := (if x.copy = [] then s.entryBytes q x.id x.next else x.copy).drop n
      check := x.check ^^^ xorAll ((if x.copy = [] then s.entryBytes q x.id x.next else x.copy).take n) }) := by
  by_cases h : x.copy = []
  · simp only [if_pos h] at fits ⊢
    exact answerBytes_entry phase h (left h) one fits
  · simp only [if_neg h] at fits ⊢
    exact answerBytes_copy n x phase fits

theorem openRead_receiving {l : List Byte} (h : (s.ports.get q).tx = .receiving l) : s.openRead q = s := by
  simp [State.openRead, h]

theorem openRead_streaming {x : Stream} (h : (s.ports.get q).tx = .streaming x) : s.openRead q = s := by
  simp [State.openRead, h]

/-- R177: a READ that streams goes on with its answer. -/
theorem read_streaming {x : Stream} (h : (s.ports.get q).tx = .streaming x) (bytes : List Byte) :
    (bytes.foldl (fun s b => s.shiftByte q b) (s.openRead q)).ports.get q = { s.ports.get q with
      tx := .streaming (s.answerBytes q bytes.length x).2
      dataOut := (s.ports.get q).dataOut ++ (s.answerBytes q bytes.length x).1 } := by
  rw [openRead_streaming h]
  exact shiftBytes_streaming bytes (.refl q s) h

theorem onlyPort_read (s : State) (q : Port) (l : List Byte) :
    OnlyPort q s (l.foldl (fun s b => s.shiftByte q b) (s.openRead q)) :=
  ((shifted_openRead s q).trans (shifted_shiftBytes q l _)).only

/-- Settles O12: each entry has the length and the bytes of its view; a READ copies an entry whole at its first byte. -/
theorem readStreamsEntries : Obligations.ReadStreamsEntries := by
  refine ⟨fun s q id first count n len extra more shape some_count inside idle => ?whole,
    fun s q id n len i shape _ => length_entryBytes shape i, fun s q => ?items,
    fun s q l bytes receiving short => ?request, fun s q x bytes streaming phase left one fits => ?entry,
    fun s u q id first count n len k more rest shape two inside idle one whole hmore hrest => ?sides⟩
  case whole =>
    intro p entries hmore
    obtain ⟨shifted, -, out⟩ := read_idle idle id first count (xorAll [0x01, id, first, count]) more
    refine ⟨_, exec_read_shift s q _, shifted.only, out.trans ?_⟩
    rw [hmore, show entries.length + 2 + extra = 1 + (entries.length + (1 + extra)) by omega]
    exact congrArg (_ :: 0 :: 0 :: 0 :: 0 :: ·) (answerBytes_whole shape some_count inside extra)
  case items =>
    intro bytes e front editable place line
    have edits : editable = s.editable := (editable_eq s).symm
    have banked : ∀ (k : BankedTable) {n len i : Nat} {l m : List Byte}, tableShape (bankedId k) = some (n, len) →
        editable.entry k i = l → front.entry k i = m → l.length = len → m.length = len →
        bytes (bankedId k) i = l ∧ bytes (32 + bankedId k) i = m := by
      rw [edits]; exact fun k => entryBytes_banked
    have view : ∀ {id : Byte} {x : Nat × Nat} {i : Nat} {l : List Byte}, tableShape id = some x → s.viewEntry q id i = l →
        ∀ k, e id i k = l.getD k 0 := by
      rintro id x i l shape rfl k; exact getD_entryBytes shape i k
    refine ⟨fun i => banked .route rfl (entryOf_val ..) (entryOf_val ..) rfl rfl,
      fun i => banked .group rfl (entryOf_val ..) (entryOf_val ..) rfl rfl,
      fun i => banked .song rfl (entryOf_val ..) (entryOf_val ..) rfl rfl,
      fun i => banked .matcher rfl (entryOf_val ..) (entryOf_val ..) rfl rfl,
      fun i => banked .faultPolicy rfl (entryOf_val ..) (entryOf_val ..) rfl rfl,
      (banked .monitorPolicy (i := 0) rfl rfl rfl rfl rfl).1, (banked .monitorPolicy (i := 0) rfl rfl rfl rfl rfl).2,
      entryBytes_of_length rfl rfl, entryBytes_of_length rfl rfl, fun i => ?_, ?_, deviceShown (view rfl rfl),
      fun r => ⟨rigShown r (view rfl (by cases r <;> rfl)), healthShown r (view rfl (by cases r <;> rfl))⟩,
      alignmentShown (view rfl rfl), arbiterShown (view rfl rfl), fun i => groupShown i (view rfl (eight_val _ i)),
      clockShown (view rfl rfl), fun i => historyShown i.val (view rfl rfl), fun i => matcherShown i (view rfl (eight_val _ i)),
      fun k => portShown _ (view rfl (by cases k <;> rfl))⟩
    · exact spells_be16_word (spells_of (view rfl (entryOf_val s.lamps.patterns (fun x => be16 x.toNat) i)))
    · rw [spells_be16 (spells_of (view (i := 0) rfl rfl))]
      exact noticesShown_noticesNat _
  case request =>
    refine ⟨_, exec_read_shift s q _, onlyPort_read _ q bytes, ?_⟩
    rw [openRead_receiving receiving]
    refine ⟨fun few some_bytes => ?_, fun id first count check some_bytes all => ?_⟩
    · exact (shiftBytes_receiving bytes receiving some_bytes short).1.trans (receive_of_length_ne (by omega))
    · exact (shiftBytes_receiving bytes receiving some_bytes short).1.trans (by rw [show l ++ bytes = _ from all]; rfl)
  case entry =>
    refine ⟨_, exec_read_shift s q _, onlyPort_read _ q bytes, (read_streaming streaming bytes).trans ?_⟩
    rw [answerBytes_within phase left one fits]
  case sides =>
    obtain ⟨-, tx, -⟩ := read_idle idle id first count (xorAll [0x01, id, first, count]) more
    refine ⟨_, exec_read_shift s q _, fun same => ⟨_, exec_read_shift u q _, ?_⟩⟩
    have pos := pos_of_tableShape shape
    rw [read_streaming (same.trans tx)]
    dsimp only
    rw [hmore, readAnswer_done shape (by rintro rfl; simp at two) inside, answerBytes_result rfl,
      answerBytes_entry rfl rfl (by simpa using by omega) one (by rw [length_entryBytes shape]; exact whole), hrest, answerBytes_add,
      answerBytes_copy _ _ rfl (by simp [length_entryBytes shape]),
      answerBytes_entry rfl (by simp [length_entryBytes shape, whole]) (by simpa using by omega) pos (by rw [length_entryBytes shape])]
    dsimp only
    rw [List.take_of_length_le (by simp [length_entryBytes shape]), List.take_of_length_le (by simp [length_entryBytes shape]),
      List.append_assoc]

end Sys2Proof.Machine

/-! PROOFS. The Group Mixer's retarget in flight (R108, R109), the timecode's arithmetic (R126), the clock's correction and slew step
(R128, R133), Clock Control (R139), and the assembly of a beacon (R21 to R23). -/

namespace Sys2Proof.Machine

open Sys2Proof

/- In order: bodies elaborated side by side while the kernel still checks the text above each hold a thread's stack. -/
set_option Elab.async false

variable {s t : State} {g : Group} {q : Port}

/-! ### A group takes a target (R106 to R109) -/

theorem Group.land_of_none (h : g.transition = none) : g.land = g := by simp [Group.land, h]

theorem Group.land_of_end {f : Transition} (h : g.transition = some f) (hk : f.k = f.n) :
    g.land = { g with current := f.dst, transition := none } := by simp [Group.land, h, hk]

theorem Group.land_of_short {f : Transition} (h : g.transition = some f) (hk : f.k ≠ f.n) : g.land = g := by
  simp [Group.land, h, hk]

/-- R107: a group at rest takes a target. -/
theorem Group.retarget_of_none (h : g.transition = none) (fade : Nat) (x : Source) : g.retarget fade x =
    if x = g.current then { g with target := x } else if fade = 0 then { g with target := x, current := x }
    else { g with target := x, transition := some { src := g.current, dst := x, k := 0, n := fade } } := by
  simp [Group.retarget, Group.land_of_none h, h]

/-- R111, log 31: a group whose production has reached N takes a target as one that rests on the destination. -/
theorem Group.retarget_of_end {f : Transition} (h : g.transition = some f) (hk : f.k = f.n) (fade : Nat) (x : Source) :
    g.retarget fade x = ({ g with current := f.dst, transition := none } : Group).retarget fade x := by
  have landed := Group.land_of_end h hk
  simp only [Group.retarget, landed, Group.land_of_none (g := { g with current := f.dst, transition := none }) rfl]

/-- R108, R109: a group in a fade takes a target. -/
theorem Group.retarget_of_short {f : Transition} (h : g.transition = some f) (hk : f.k ≠ f.n) (fade : Nat) (x : Source) :
    g.retarget fade x = { g with
      target := x
      transition := if x = f.dst then some f else if x = f.src then
        (if f.k = 0 then none else some { src := f.dst, dst := f.src, k := f.n - f.k, n := f.n }) else some f } := by
  simp only [Group.retarget, Group.land_of_short h hk, h]
  split
  · rfl
  · split
    · split <;> rfl
    · rfl

/-- Settles O22: by the place of the target among the two sources of the fade. -/
theorem retargetInFlight : Obligations.RetargetInFlight := by
  intro g f fade x flight short
  have taken := Group.retarget_of_short flight (Nat.ne_of_lt short) fade x
  simp only [taken]
  refine ⟨trivial, trivial, trivial, trivial, trivial, fun toward => if_pos toward, fun away other => ?_, fun away back zero => ?_,
    fun away back some_k => ?_⟩
  · simp [away, other, Group.waiting]
  · rw [if_neg away, if_pos back, if_pos zero]
  · rw [if_neg away, if_pos back, if_neg some_k]

/-! ### The timecode F frames on (R126) -/

/-- Settles O27: the digits of a number of frames of a day. -/
theorem timecodeCountsFrames : Obligations.TimecodeCountsFrames := by
  intro fps start frames pos x
  set total := (((start.h * 60 + start.m) * 60 + start.s) * fps + start.fr + frames) % (86400 * fps) with htotal
  have day : total < 86400 * fps := Nat.mod_lt _ (by omega)
  have hour : total % (3600 * fps) < 3600 * fps := Nat.mod_lt _ (by omega)
  have minute : total % (3600 * fps) % (60 * fps) < 60 * fps := Nat.mod_lt _ (by omega)
  have hours : x.h < 24 := (Nat.div_lt_iff_lt_mul (by omega)).mpr (day.trans_eq (by ring))
  have minutes : x.m < 60 := (Nat.div_lt_iff_lt_mul (by omega)).mpr (hour.trans_eq (by ring))
  have seconds : x.s < 60 := (Nat.div_lt_iff_lt_mul pos).mpr minute
  refine ⟨hours, minutes, seconds, Nat.mod_lt _ pos, ?_⟩
  have byHour : 3600 * fps * x.h + total % (3600 * fps) = total := Nat.div_add_mod _ _
  have byMinute : 60 * fps * x.m + total % (3600 * fps) % (60 * fps) = total % (3600 * fps) := Nat.div_add_mod _ _
  have bySecond : fps * x.s + x.fr = total % (3600 * fps) % (60 * fps) := Nat.div_add_mod _ _
  calc ((x.h * 60 + x.m) * 60 + x.s) * fps + x.fr
      = 3600 * fps * x.h + (60 * fps * x.m + (fps * x.s + x.fr)) := by ring
    _ = total := by rw [bySecond, byMinute, byHour]

/-! ### Correction and slew step (R128, R133) -/

theorem exec_slewStep (s : State) : exec .slewStep s = .next s.prepare.takeSlewStep := rfl

/-- R133: a slew step that is due. -/
theorem takeSlewStep_due {n : Nat} {anchor target : Stamp} (hs : s.showClock.state = .slewing)
    (hn : s.showClock.slewCounter = some n) (ha : s.showClock.anchor = some anchor) (ht : s.showClock.target = some target)
    (due : s.showClock.control.slewRate ≤ n) :
    s.takeSlewStep = s.setShowClock (
      let moved := if 0 < stampDiff target anchor then anchor + 1 else anchor - 1
      if moved = target then { s.showClock with anchor := some moved, state := .running, slewCounter := none }
      else { s.showClock with anchor := some moved, slewCounter := some 0 }) := by
  unfold State.takeSlewStep
  simp only [hs, hn, ha, ht, if_pos due]
  split <;> split <;> simp_all

/-- Settles O30: a correction by its error against zero and the slew window; a slew step by whether it meets the target. -/
theorem correctionAndSlewStep : Obligations.CorrectionAndSlewStep := by
  refine ⟨fun s anchor target hanchor => ?correction, fun s n anchor target hs hn ha ht due => ?step⟩
  case correction =>
    intro e t
    have error : stampDiff target (s.showClock.anchor.getD target) = e := by rw [hanchor]; rfl
    by_cases zero : e = 0
    · have same : t = s.setShowClock { s.showClock with
          target := some target, lastError := some e, freewheelCounter := none, state := .running, slewCounter := none } := by
        simp [t, State.clockCorrect, error, zero]
      rw [same]
      refine ⟨Touches.refl.setShowClock (by decide), rfl, rfl, rfl, fun _ => ⟨rfl, hanchor, rfl⟩, fun h => absurd zero h,
        fun h => absurd h (by simp [zero])⟩
    · by_cases within : e.natAbs ≤ s.showClock.control.slewWindow
      · have same : t = s.setShowClock { s.showClock with
            target := some target, lastError := some e, freewheelCounter := none, state := .slewing
            slewCounter := if s.showClock.state = .slewing then s.showClock.slewCounter else some 0 } := by
          simp [t, State.clockCorrect, error, zero, within]
        rw [same]
        exact ⟨Touches.refl.setShowClock (by decide), rfl, rfl, rfl, fun h => absurd h zero, fun _ _ => ⟨rfl, hanchor, rfl, rfl⟩,
          fun h => absurd within (by omega)⟩
      · have same : t = (s.setShowClock { s.showClock with
            target := some target, lastError := some e, freewheelCounter := none, state := .running, slewCounter := none
            anchor := some target, jumped := true, lastFrame := .absent }).raiseAll .clockJumped := by
          simp [t, State.clockCorrect, error, zero, within]
        rw [same]
        exact ⟨(Touches.refl.setShowClock (by decide)).raiseAll (by decide), rfl, rfl, rfl, fun h => absurd h zero,
          fun _ h => absurd h within, fun _ => ⟨rfl, rfl, rfl, rfl, rfl, noted_raiseAll _ _⟩⟩
  case step =>
    refine ⟨_, exec_slewStep s, ?_⟩
    rw [takeSlewStep_due hs hn ha ht due]
    refine ⟨Touches.refl.setShowClock (by decide), fun meets => ?_, fun misses => ?_⟩
    · simp only [setShowClock_showClock]
      rw [if_pos meets, meets]
    · simp only [setShowClock_showClock]
      rw [if_neg misses]

/-! ### Clock Control (R139) -/

theorem exec_writeClockControl (s : State) (q : Port) (body : List Byte) :
    exec (.writeClockControl q body) s = .next (s.writeCommand q (25 :: body) State.answerControl) := rfl

/-- R139, R193: the fields of Clock Control as the bytes of a WRITE give them. -/
theorem readControl_bytes (wh wl rh rl l : Byte) : readControl [wh, wl, rh, rl, l] = some
    { slewWindow := min 48000 (wh.toNat * 256 + wl.toNat), slewRate := max 100 (min 10000 (rh.toNat * 256 + rl.toNat))
      freewheelLimit := l.toNat } := by
  have small : min 255 l.toNat = l.toNat := Nat.min_eq_right (by have := l.isLt; omega)
  simp [readControl, clamp, nat16, small]

/-- Settles O32: by whether the clock is SLEWING when the port has opened. -/
theorem clockControlIsClamped : Obligations.ClockControlIsClamped := by
  intro s wh wl rh rl l p
  by_cases slewing : p.showClock.state = .slewing
  · have answer : p.answerControl { id := 25, first := 0, count := 1, data := [wh, wl, rh, rl, l] } = (p, .busy) := if_pos slewing
    exact ⟨_, exec_write_refused (exec_writeClockControl s .p _) rfl le_rfl (by decide) (by decide) rfl rfl rfl (by decide) answer,
      fun _ => deselect_refused _ _ _ (by decide), fun h => absurd slewing h⟩
  · have answer : p.answerControl { id := 25, first := 0, count := 1, data := [wh, wl, rh, rl, l] } =
        (p.setShowClock { p.showClock with control :=
          { slewWindow := min 48000 (wh.toNat * 256 + wl.toNat)
            slewRate := max 100 (min 10000 (rh.toNat * 256 + rl.toNat))
            freewheelLimit := l.toNat } }, .done) := by
      unfold State.answerControl
      rw [if_neg slewing, entries_one 25 0 (data := [wh, wl, rh, rl, l]) (len := 5) rfl]
      rw [readControl_bytes]
      rfl
    refine ⟨_, exec_write_done (exec_writeClockControl s .p _) rfl le_rfl (by decide) (by decide) rfl rfl rfl answer,
      fun h => absurd h slewing, fun _ => ?_⟩
    obtain ⟨only, -⟩ := deselect_done (p.setShowClock _) .p
    have clock := only.1.showClock
    refine ⟨(deselect_done _ .p).doneOn, ?_, clock⟩
    rw [clock]
    exact only

/-! ### Assembly (R21 to R23) -/

/-- Settles O42: by the class of the word and whether a beacon is in hand. -/
theorem pilotWordAssembly : Obligations.PilotWordAssembly := by
  intro x now w marker b
  have byClass : (marker = 0xA5 → pilotClass w = .start) ∧ (marker = 0x5A → pilotClass w = .continuing) ∧
      (marker ≠ 0xA5 → marker ≠ 0x5A → pilotClass w = .idle) := by
    refine ⟨fun h => if_pos h, fun h => ?_, fun h h' => ?_⟩
    · exact (if_neg (by rw [show w.extractLsb' 16 8 = 0x5A from h]; decide)).trans (if_pos h)
    · exact (if_neg h).trans (if_neg h')
  obtain ⟨start, continuing, idle⟩ := byClass
  refine ⟨fun h => ?_, fun h => ⟨?_, fun waiting => ?_, fun buffer stamp hand => ⟨fun full => ?_, fun short => ?_⟩⟩, fun h h' => ?_, ?_⟩
  · cases hand : x.assembly <;> simp [Parser.word, start h, hand, pilotByte, b]
  · cases hand : x.assembly with
    | waiting => simp [Parser.word, continuing h, hand]
    | assembling buffer stamp =>
      simp only [Parser.word, continuing h, hand]
      split <;> rfl
  · simp [Parser.word, continuing h, waiting]
  · simp [Parser.word, continuing h, hand, full, pilotByte, b]
  · simp [Parser.word, continuing h, hand, Nat.ne_of_lt short, pilotByte, b]
  · cases hand : x.assembly <;> simp [Parser.word, idle h h', hand]
  · unfold Parser.word
    split
    case h_4 => dsimp only; split <;> rfl
    all_goals rfl

end Sys2Proof.Machine

/-! PROOFS. What evidence does to a health state (R47, R50, R52 to R54, R56). -/

namespace Sys2Proof.Machine

open Sys2Proof

/- In order: bodies elaborated side by side while the kernel still checks the text above each hold a thread's stack. -/
set_option Elab.async false

variable {h : Health} {f : Table 11 FaultEntry} {time : Nat} {kinds x y : KindSet} {i : Fin 11}

/-! ### Sets of fault kinds -/

theorem KindSet.nonempty_iff : x.nonempty = true ↔ ∃ i, x.get i = true := by simp [KindSet.nonempty]

@[simp] theorem KindSet.get_union : (x.union y).get i = (x.get i || y.get i) := Table.get_tab ..

@[simp] theorem KindSet.get_minus : (x.minus y).get i = (x.get i && !y.get i) := Table.get_tab ..

@[simp] theorem KindSet.get_filter {p : Fin 11 → Bool} : (x.filter p).get i = (x.get i && p i) := Table.get_tab ..

@[simp] theorem get_noKinds : noKinds.get i = false := Table.get_fill ..

theorem get_enabled : (kinds.filter (enabledIn f)).get i = true ↔ kinds.get i = true ∧ (f.get i).enabled = true := by
  simp [enabledIn]

theorem get_instant : (kinds.filter (instantIn f)).get i = true ↔
    (kinds.get i = true ∧ (f.get i).enabled = true) ∧ (f.get i).delay = 0 := by
  simp [instantIn, and_assoc]

/-! ### Evidence by health state -/

/-- R41: disabled evidence sets its flags and moves nothing. -/
theorem Health.evidence_disabled (hs : h.state ≠ .offline) (none : (kinds.filter (enabledIn f)).nonempty = false) :
    h.evidence f time kinds = { h with flags := h.flags.union kinds } := by
  simp [Health.evidence, hs, none]

/-- R47, R50, R52: enabled evidence of a rig that is up, or has come up at this instant. -/
theorem Health.evidence_up (hs : (h.state = .healthy ∨ h.state = .suspect) ∨ (h.state = .recovering ∧ time ≤ h.restore))
    (some_enabled : (kinds.filter (enabledIn f)).nonempty = true) :
    h.evidence f time kinds = if (kinds.filter (instantIn f)).nonempty then
      ({ h with flags := h.flags.union kinds } : Health).fail (kinds.filter (instantIn f))
      else { h with flags := h.flags.union kinds, state := .suspect } := by
  rcases hs with (hs | hs) | ⟨hs, full⟩
  · simp [Health.evidence, Health.restored, Health.restoreDue, hs, some_enabled]
  · simp [Health.evidence, Health.restored, Health.restoreDue, hs, some_enabled]
  · simp [Health.evidence, Health.restored, Health.restoreDue, hs, full, some_enabled, Health.fail]

/-- R53, R54: enabled evidence of a rig that is FAILED, at the instant of its relapse too. -/
theorem Health.evidence_failed (hs : h.state = .failed) (some_enabled : (kinds.filter (enabledIn f)).nonempty = true) :
    h.evidence f time kinds = if h.relapsed then
      ({ h with flags := h.flags.union kinds } : Health).relapseWith f (kinds.filter (enabledIn f))
      else { h with flags := h.flags.union kinds, history := h.history.union (kinds.filter (instantIn f)) } := by
  simp [Health.evidence, Health.restored, Health.restoreDue, hs, some_enabled]

/-- R54: enabled evidence of a RECOVERING rig is a relapse. -/
theorem Health.evidence_recovering (hs : h.state = .recovering) (short : h.restore < time)
    (some_enabled : (kinds.filter (enabledIn f)).nonempty = true) :
    h.evidence f time kinds =
      ({ h with flags := h.flags.union kinds } : Health).relapse f (kinds.filter (enabledIn f)) := by
  simp [Health.evidence, Health.restored, Health.restoreDue, hs, Nat.not_le.mpr short, some_enabled]

theorem Health.evidence_flags (hs : h.state ≠ .offline) : (h.evidence f time kinds).flags = h.flags.union kinds := by
  cases enabled : (kinds.filter (enabledIn f)).nonempty with
  | false => rw [Health.evidence_disabled hs enabled]
  | true =>
    cases state : h.state with
    | offline => exact absurd state hs
    | healthy => rw [Health.evidence_up (.inl (.inl state)) enabled]; split <;> rfl
    | suspect => rw [Health.evidence_up (.inl (.inr state)) enabled]; split <;> rfl
    | failed => rw [Health.evidence_failed state enabled]; split <;> rfl
    | recovering =>
      by_cases full : time ≤ h.restore
      · rw [Health.evidence_up (.inr ⟨state, full⟩) enabled]; split <;> rfl
      · rw [Health.evidence_recovering state (Nat.lt_of_not_le full) enabled]; rfl

theorem enabled_iff : (kinds.filter (enabledIn f)).nonempty = true ↔ ∃ i, kinds.get i = true ∧ (f.get i).enabled = true := by
  simp only [KindSet.nonempty_iff, get_enabled]

theorem instant_iff : (kinds.filter (instantIn f)).nonempty = true ↔
    ∃ i, (kinds.get i = true ∧ (f.get i).enabled = true) ∧ (f.get i).delay = 0 := by
  simp only [KindSet.nonempty_iff, get_instant]

/-- R47, R52, R56: a rig that is up fails by the kinds of delay 0. -/
theorem Health.evidence_fails (hs : (h.state = .healthy ∨ h.state = .suspect) ∨ (h.state = .recovering ∧ time ≤ h.restore))
    (once : ∃ i, (kinds.get i = true ∧ (f.get i).enabled = true) ∧ (f.get i).delay = 0) :
    (h.evidence f time kinds).state = .failed ∧ (h.evidence f time kinds).failures = min 255 (h.failures + 1) ∧
      (∀ i, (h.evidence f time kinds).history.get i = true ↔
        h.history.get i = true ∨ (kinds.get i = true ∧ (f.get i).enabled = true) ∧ (f.get i).delay = 0) ∧
      (h.evidence f time kinds).counters = h.counters := by
  obtain ⟨i, appears, -⟩ := id once
  rw [Health.evidence_up hs (enabled_iff.mpr ⟨i, appears⟩), if_pos (instant_iff.mpr once)]
  exact ⟨rfl, rfl, fun i => by simp only [Health.fail, KindSet.get_union, Bool.or_eq_true, get_instant], rfl⟩

/-- R53, R56: a FAILED rig stays so; a kind of delay 0 joins its history. -/
theorem Health.evidence_joins (hs : h.state = .failed) (fresh : h.relapsed = false) :
    (∀ i, (h.evidence f time kinds).history.get i = true ↔
        h.history.get i = true ∨ (kinds.get i = true ∧ (f.get i).enabled = true) ∧ (f.get i).delay = 0) ∧
      (h.evidence f time kinds).counters = h.counters := by
  cases enabled : (kinds.filter (enabledIn f)).nonempty with
  | false =>
    rw [Health.evidence_disabled (by simp [hs]) enabled]
    have never : ∀ i, ¬ (kinds.get i = true ∧ (f.get i).enabled = true) := fun i hi => by
      rw [enabled_iff.mpr ⟨i, hi⟩] at enabled; cases enabled
    exact ⟨fun i => by simp [never i], rfl⟩
  | true =>
    rw [Health.evidence_failed hs enabled, fresh]
    exact ⟨fun i => by simp only [Bool.false_eq_true, if_false, KindSet.get_union, Bool.or_eq_true, get_instant], rfl⟩

/-- R54: the kinds of a relapse join the history, their counters at their delays. -/
theorem Health.relapseWith_joins : (∀ i, (h.relapseWith f (kinds.filter (enabledIn f))).history.get i = true ↔
      h.history.get i = true ∨ (kinds.get i = true ∧ (f.get i).enabled = true)) ∧
    ∀ i, (h.relapseWith f (kinds.filter (enabledIn f))).counters.get i =
      if kinds.get i = true ∧ (f.get i).enabled = true then (f.get i).delay else h.counters.get i := by
  refine ⟨fun i => ?_, fun i => ?_⟩
  · simp only [Health.relapseWith, KindSet.get_union, Bool.or_eq_true, get_enabled]
  · simp only [Health.relapseWith, Table.get_update, get_enabled]

/-- R54: evidence that follows a relapse at its instant is of that relapse. -/
theorem Health.evidence_of_relapsed (hs : h.state = .failed) (again : h.relapsed = true) :
    (∀ i, (h.evidence f time kinds).history.get i = true ↔
        h.history.get i = true ∨ (kinds.get i = true ∧ (f.get i).enabled = true)) ∧
      ∀ i, (h.evidence f time kinds).counters.get i =
        if kinds.get i = true ∧ (f.get i).enabled = true then (f.get i).delay else h.counters.get i := by
  cases enabled : (kinds.filter (enabledIn f)).nonempty with
  | false =>
    rw [Health.evidence_disabled (by simp [hs]) enabled]
    have never : ∀ i, ¬ (kinds.get i = true ∧ (f.get i).enabled = true) := fun i hi => by
      rw [enabled_iff.mpr ⟨i, hi⟩] at enabled; cases enabled
    exact ⟨fun i => by simp [never i], fun i => by rw [if_neg (never i)]⟩
  | true =>
    rw [Health.evidence_failed hs enabled, again]
    exact Health.relapseWith_joins

theorem Health.evidence_stays_failed (hs : h.state = .failed) :
    (h.evidence f time kinds).state = .failed ∧ (h.evidence f time kinds).failures = h.failures := by
  cases enabled : (kinds.filter (enabledIn f)).nonempty with
  | false => rw [Health.evidence_disabled (by simp [hs]) enabled]; exact ⟨hs, rfl⟩
  | true => rw [Health.evidence_failed hs enabled]; split <;> exact ⟨hs, rfl⟩

/-- R54: a relapse of a RECOVERING rig. -/
theorem Health.evidence_relapses (hs : h.state = .recovering) (short : h.restore < time)
    (enabled : ∃ i, kinds.get i = true ∧ (f.get i).enabled = true) :
    ((h.evidence f time kinds).state = .failed ∧
      (∀ i, (h.evidence f time kinds).history.get i = true ↔
        h.history.get i = true ∨ (kinds.get i = true ∧ (f.get i).enabled = true)) ∧
      ∀ i, (h.evidence f time kinds).counters.get i =
        if kinds.get i = true ∧ (f.get i).enabled = true then (f.get i).delay else h.counters.get i) ∧
      (h.evidence f time kinds).restore = 0 ∧ (h.evidence f time kinds).failures = min 255 (h.failures + 1) ∧
      (h.evidence f time kinds).relapsed = true := by
  rw [Health.evidence_recovering hs short (enabled_iff.mpr enabled)]
  refine ⟨⟨rfl, fun i => ?_, Health.relapseWith_joins.2⟩, rfl, rfl, rfl⟩
  rw [Health.relapse, Health.relapseWith_joins.1]
  simp only [Health.fail, KindSet.get_union, Bool.or_eq_true, get_enabled, or_assoc, or_self]

/-! ### The statement -/

/-- Settles O45: by the health state, and by whether a kind that appears is enabled and of delay 0. -/
theorem evidenceMovesHealth : Obligations.EvidenceMovesHealth := by
  intro h f time kinds appears qualifies enabled atOnce g joins relapses up restored
  have zero : ∀ i, qualifies i → h.counters.get i ≤ (f.get i).delay → h.counters.get i = (f.get i).delay := by
    rintro i ⟨-, delay⟩ low; omega
  refine ⟨fun hs => if_pos hs, fun hs i => ?flags, fun none => ?disabled, fun hs once => Health.evidence_fails hs once,
    fun hs some_enabled none => ?suspected, Health.evidence_stays_failed, Health.evidence_joins,
    fun hs again => ⟨(Health.evidence_stays_failed hs).1, Health.evidence_of_relapsed hs again⟩, Health.evidence_relapses,
    fun hs i q low => ?qualified⟩
  case flags => rw [show g = h.evidence f time kinds from rfl, Health.evidence_flags hs, KindSet.get_union]
  case disabled =>
    by_cases hs : h.state = .offline
    · rw [show g = h from if_pos hs]; exact ⟨rfl, rfl, rfl, rfl⟩
    · rw [show g = _ from Health.evidence_disabled hs (Bool.eq_false_iff.mpr (mt enabled_iff.mp none))]
      exact ⟨rfl, rfl, rfl, rfl⟩
  case suspected =>
    rw [show g = _ from Health.evidence_up hs (enabled_iff.mpr some_enabled), if_neg (mt instant_iff.mp none)]
    exact ⟨rfl, rfl, rfl, rfl⟩
  case qualified =>
    have counted := zero i q low
    have fails : up ∨ restored → g.state = .failed ∧ g.counters.get i = (f.get i).delay ∧ g.history.get i = true := by
      intro hs
      obtain ⟨failed, -, joined, counters⟩ := Health.evidence_fails hs ⟨i, q⟩
      exact ⟨failed, by rw [← counted]; exact congrArg (·.get i) counters, (joined i).mpr (.inr q)⟩
    cases state : h.state with
    | offline => exact absurd state hs
    | healthy => exact fails (.inl (.inl state))
    | suspect => exact fails (.inl (.inr state))
    | failed =>
      refine ⟨(Health.evidence_stays_failed state).1, ?_⟩
      cases again : h.relapsed with
      | false =>
        obtain ⟨joined, counters⟩ := Health.evidence_joins (f := f) (time := time) (kinds := kinds) state again
        exact ⟨by rw [← counted]; exact congrArg (·.get i) counters, (joined i).mpr (.inr q)⟩
      | true =>
        obtain ⟨joined, counters⟩ := Health.evidence_of_relapsed (f := f) (time := time) (kinds := kinds) state again
        exact ⟨(counters i).trans (if_pos q.1), (joined i).mpr (.inr q.1)⟩
    | recovering =>
      by_cases full : time ≤ h.restore
      · exact fails (.inr ⟨state, full⟩)
      · obtain ⟨⟨failed, joined, counters⟩, -⟩ := Health.evidence_relapses (f := f) state (Nat.lt_of_not_le full) ⟨i, q.1⟩
        exact ⟨failed, (counters i).trans (if_pos q.1), (joined i).mpr (.inr q.1)⟩

end Sys2Proof.Machine

/-! PROOFS. Targets taken by the groups (R106 to R109), STOP (R85, R127), the other answers of TAKE and START (R84, R96, R97), the
claim and the copy (R166, R167), and the lamps (R197 to R199). -/

namespace Sys2Proof.Machine

open Sys2Proof

/- In order: bodies elaborated side by side while the kernel still checks the text above each hold a thread's stack. -/
set_option Elab.async false

variable {s t u v : State} {g : Group} {q : Port} {fade : Nat} {x : Source}

/-! ### Every group takes its target -/

/-- R107: what a group at rest makes of a target. -/
theorem restTaken_retarget (h : g.transition = none) : RestTaken fade x g.current (g.retarget fade x) := by
  rw [Group.retarget_of_none h]
  refine ⟨fun same => ?_, fun away cut => ?_, fun away fades => ?_⟩
  · rw [if_pos same]; exact ⟨rfl, h⟩
  · rw [if_neg away, if_pos cut]; exact ⟨rfl, h⟩
  · rw [if_neg away, if_neg fades]; exact ⟨rfl, rfl⟩

theorem Group.retarget_modes (g : Group) (fade : Nat) (x : Source) : (g.retarget fade x).mode = g.mode ∧
    (g.retarget fade x).base = g.base ∧ (g.retarget fade x).oneSong = g.oneSong ∧ (g.retarget fade x).target = x := by
  have rest : ∀ g : Group, g.transition = none → (g.retarget fade x).mode = g.mode ∧ (g.retarget fade x).base = g.base ∧
      (g.retarget fade x).oneSong = g.oneSong ∧ (g.retarget fade x).target = x := by
    intro g h
    rw [Group.retarget_of_none h]
    split
    · exact ⟨rfl, rfl, rfl, rfl⟩
    · split <;> exact ⟨rfl, rfl, rfl, rfl⟩
  cases h : g.transition with
  | none => exact rest g h
  | some f =>
    by_cases hk : f.k = f.n
    · rw [Group.retarget_of_end h hk]; exact rest _ rfl
    · rw [Group.retarget_of_short h hk]; exact ⟨rfl, rfl, rfl, rfl⟩

@[simp] theorem Group.retarget_mode : (g.retarget fade x).mode = g.mode := (g.retarget_modes fade x).1

@[simp] theorem Group.retarget_target : (g.retarget fade x).target = x := (g.retarget_modes fade x).2.2.2

/-- R106 to R109: what a group makes of a target, whatever its state. -/
theorem targetTaken_retarget (g : Group) (fade : Nat) (x : Source) : TargetTaken fade x g (g.retarget fade x) := by
  obtain ⟨mode, base, one, target⟩ := g.retarget_modes fade x
  refine ⟨mode, base, one, target, restTaken_retarget, fun f flight => ⟨fun landed => ?_, fun short => ?_⟩⟩
  · rw [Group.retarget_of_end flight landed]
    exact restTaken_retarget (g := { g with current := f.dst, transition := none }) rfl
  · rw [Group.retarget_of_short flight short]
    refine ⟨rfl, fun on => ?_, fun away back zero => ?_, fun away back some_k => ?_⟩
    · by_cases toward : x = f.dst
      · exact if_pos toward
      · rw [if_neg toward, if_neg (on.resolve_left toward)]
    · rw [if_neg away, if_pos back, if_pos zero]
    · rw [if_neg away, if_pos back, if_neg some_k]

theorem retargetAll_get (s : State) (i : Fin 8) : s.retargetAll.mixer.groups.get i = (s.mixer.groups.get i).retarget
    (s.bank.front.group.get i).fadeLength (targetOf s.arbiter (s.bank.front.group.get i).policy (s.mixer.groups.get i).mode) := by
  simp [State.retargetAll]

/-- R106: every group evaluates its target afresh. -/
theorem groupsRetargeted_retargetAll (s : State) : GroupsRetargeted s.bank.front s.arbiter s s.retargetAll :=
  ⟨rfl, fun i => by rw [retargetAll_get]; exact targetTaken_retarget ..⟩

/-! ### STOP -/

theorem exec_stop (s : State) (q : Port) (body : List Byte) :
    exec (.stop q body) s = .next (s.command q 0x11 2 .panel body State.answerStop) := rfl

/-- R85: what a STOP leaves of the blocks that it touches. -/
theorem stopShow_leaves (p : State) :
    (p.stopShow.arbiter.state = .stopped ∧ p.stopShow.arbiter.onAir = none ∧ p.stopShow.arbiter.outgoing = none ∧
      p.stopShow.arbiter.mode = p.arbiter.mode ∧ p.stopShow.arbiter.inhibit = p.arbiter.inhibit ∧
      p.stopShow.arbiter.song = p.arbiter.song ∧ p.stopShow.arbiter.nextSequence = p.arbiter.nextSequence ∧
      p.stopShow.arbiter.history = (if p.arbiter.state = .changing then
        p.arbiter.history.map fun e => if e.ending = .inFlight then { e with ending := .aborted } else e
        else p.arbiter.history)) ∧
      p.stopShow.bank = { p.bank with claim := none, exchange := none } ∧
      p.stopShow.showClock = { ShowClock.reset with
        lastEmitted := p.showClock.lastEmitted, control := p.showClock.control, examine := p.showClock.examine } ∧
      p.stopShow.tcOutput = { p.tcOutput with waiting := none } ∧ Noted p.stopShow .onAirChanged ∧
      ∀ i, (p.mixer.groups.get i).mode = .follow → (p.stopShow.mixer.groups.get i).target = .silent := by
  rw [State.stopShow_eq, State.showEnded_eq]
  generalize hv : p.setArbiter p.arbiter.ended = v
  have arbiter : v.arbiter = p.arbiter.ended := by rw [← hv]; rfl
  have same : v.showClock = p.showClock ∧ v.tcOutput = p.tcOutput ∧ v.mixer = p.mixer := by rw [← hv]; exact ⟨rfl, rfl, rfl⟩
  generalize he : (v.raiseAll .onAirChanged).clockIdle.setBank { p.bank with claim := none, exchange := none } = e
  have noted : Noted e .onAirChanged := by rw [← he]; exact noted_raiseAll v .onAirChanged
  have fields : e.arbiter = v.arbiter ∧ e.bank = { p.bank with claim := none, exchange := none } ∧ e.mixer = v.mixer ∧
      e.tcOutput = { v.tcOutput with waiting := none } ∧ e.showClock = { ShowClock.reset with
        lastEmitted := v.showClock.lastEmitted, control := v.showClock.control, examine := v.showClock.examine } := by
    rw [← he]; exact ⟨rfl, rfl, rfl, rfl, rfl⟩
  obtain ⟨eArbiter, eBank, eMixer, eOut, eClock⟩ := fields
  have settled := e.touches_settleDelay
  have settledArbiter := settled.arbiter.trans (eArbiter.trans arbiter)
  obtain ⟨vClock, vOut, vMixer⟩ := same
  have ended : e.settleDelay.reEligible.retargetAll.arbiter =
      { p.arbiter.ended with eligible := e.settleDelay.eligibleNow } := by
    rw [← settledArbiter]; rfl
  refine ⟨by rw [ended]; exact ⟨rfl, rfl, rfl, rfl, rfl, rfl, rfl, rfl⟩, settled.bank.trans eBank,
    settled.showClock.trans (by rw [eClock, vClock]), settled.tcOutput.trans (by rw [eOut, vOut]),
    noted.kept (settleDelay_noticesKept e), fun i follow => ?_⟩
  have mode : (e.settleDelay.reEligible.mixer.groups.get i).mode = .follow := by
    rw [show e.settleDelay.reEligible.mixer = e.settleDelay.mixer from rfl, settled.mixer, eMixer, vMixer]
    exact follow
  have stopped : e.settleDelay.reEligible.arbiter.state = .stopped := by
    rw [show e.settleDelay.reEligible.arbiter.state = e.settleDelay.arbiter.state from rfl, settledArbiter]
    rfl
  rw [retargetAll_get, Group.retarget_target, mode]
  simp [targetOf, stopped]

/-- Settles O16: by whether the show runs. -/
theorem stopEndsShow : Obligations.StopEndsShow := by
  intro s p
  by_cases stopped : p.arbiter.state = .stopped
  · have answer : p.answerStop = (p, .done) := if_pos stopped
    exact ⟨_, exec_command_done (code := 0x11) (operands := []) (exec_stop s .p _) rfl rfl (allowed_panel _) answer,
      fun _ => deselect_done _ _, fun h => absurd stopped h⟩
  · have answer : p.answerStop = (p.stopShow, .done) := if_neg stopped
    refine ⟨_, exec_command_done (code := 0x11) (operands := []) (exec_stop s .p _) rfl rfl (allowed_panel _) answer,
      fun h => absurd h stopped, fun _ => ?_⟩
    obtain ⟨⟨ends, -⟩, -⟩ := deselect_done p.stopShow .p
    obtain ⟨⟨state, onAir, outgoing, mode, inhibit, song, sequence, history⟩, bank, clock, output, noted, targets⟩ := stopShow_leaves p
    refine ⟨(deselect_done _ .p).doneOn, (Touches.refl.stopShow (by decide)).deselect (by decide), ?_⟩
    rw [ends.arbiter, ends.bank, ends.showClock, ends.tcOutput, ends.mixer]
    exact ⟨state, onAir, outgoing, mode, inhibit, song, sequence, history, bank, clock, output, noted.kept (noticesKept_deselect_done _ _), targets⟩

/-! ### A transaction whose owner is asked -/

/-- R178, R182: the part once the owner has given its answer and the transaction has ended. -/
def State.answered (v : State) (q : Port) (a : Answer) : State :=
  if a.2 = .done then a.1.deselect q .done else v.deselect q a.2

theorem answered_done (v t : State) (q : Port) : v.answered q (t, .done) = t.deselect q .done := if_pos rfl

/-- An owner's answer that is a refusal. -/
theorem refusedWith_answer {a : Answer} {r : ResultCode} (hr : r ≠ .done) (h : a.2 = r) : RefusedWith v (v.answered q a) q r := by
  rw [State.answered, h, if_neg hr]
  exact deselect_refused v q r hr

/-- An owner's answer that is DONE with nothing changed. -/
theorem doneOnly_answer {a : Answer} (h : a = (v, .done)) : DoneOnly v (v.answered q a) q := by
  rw [h, answered_done]
  exact deselect_done v q

/-- A named command in order is answered by its owner. -/
theorem exec_command_answer {c : Instr} {code : Byte} {length n : Nat} {right : Right} {operands : List Byte} {o : State → Answer}
    (hx : exec c s = .next (s.command q code length right (withCheck code operands) o)) (hl : length = operands.length + 2)
    (hn : n = operands.length + 1) (hr : (s.opened q n).allowed q right = true) :
    exec c s = .next ((s.opened q n).answered q (o (s.opened q n))) := by
  rw [hx, command_owner hl hn hr (Prod.ext rfl rfl)]
  rfl

/-- A WRITE in order is answered by its owner. -/
theorem exec_write_answer {c : Instr} {id : Byte} {first count n len m : Nat} {data : List Byte} {o : WriteRequest → State → Answer}
    (hx : exec c s = .next (s.writeCommand q (id :: writeBody id first count data) o)) (hs : tableShape id = some (n, len))
    (hc : 1 ≤ count) (hb : count ≤ 255) (hn : first + count ≤ n) (hd : data.length = count * len)
    (hm : m = data.length + 4) (hr : (s.opened q m).allowed q (writeRight id) = true) :
    exec c s = .next ((s.opened q m).answered q (o { id, first, count, data } (s.opened q m))) := by
  obtain ⟨hl, h256⟩ := tableShape_bounds hs
  rw [hx, write_owner hs hc hb hn (by omega) hl hd hm hr (Prod.ext rfl rfl)]
  rfl

/-! ### The other answers of TAKE and START -/

theorem exec_take {x f : Byte} (operates : (s.opened q 3).operates q = true) : exec (.take q (withCheck 0x12 [x, f])) s =
    .next ((s.opened q 3).answered q ((s.opened q 3).answerTake (rigOf x) (boolOf f))) :=
  exec_command_answer (o := State.answerTake (rigOf x) (boolOf f)) rfl rfl rfl operates

theorem exec_start (s : State) (x : Byte) : exec (.start .p (withCheck 0x10 [x])) s =
    .next ((s.opened .p 2).answered .p ((s.opened .p 2).answerStart (rigOf x))) :=
  exec_command_answer (o := State.answerStart (rigOf x)) rfl rfl rfl (allowed_panel _)

theorem answerTake_onAir {r : Rig} {force : Bool} (v : State) (runs : v.arbiter.state ≠ .stopped) (h : v.arbiter.onAir = some r) :
    v.answerTake (some r) (some force) = (v, .done) := by
  unfold State.answerTake
  cases state : v.arbiter.state with
  | stopped => exact absurd state runs
  | steady | changing | blind => exact if_pos h

theorem answerTake_ineligible {r : Rig} (v : State) (state : v.arbiter.state = .steady ∨ v.arbiter.state = .blind)
    (h : v.arbiter.onAir = some r.other) (he : v.arbiter.eligible = false) :
    v.answerTake (some r) (some false) = (v, .notEligible) := by
  have other : v.arbiter.onAir ≠ some r := by rw [h]; cases r <;> simp [Rig.other]
  unfold State.answerTake
  rcases state with state | state <;> simp [state, other, he]

/-- Settles O18: by the operands, and then by the arbiter's state and the rig on air. -/
theorem takeAndStartOtherAnswers : Obligations.TakeAndStartOtherAnswers := by
  refine ⟨fun s q x f operates => ⟨_, exec_take operates, fun bad => ?badTake, fun r force hr hf => ?_⟩,
    fun s x => ⟨_, exec_start s x, fun bad => ?badStart, fun r hr => ?_⟩⟩
  case badTake =>
    refine refusedWith_answer (by decide) ?_
    rcases bad with bad | bad <;> simp only [State.answerTake, bad]
    cases rigOf x <;> rfl
  case badStart => exact refusedWith_answer (by decide) (by rw [bad]; rfl)
  · rw [hr, hf]
    refine ⟨fun stopped => refusedWith_answer (by decide) ?_, fun runs onAir => doneOnly_answer (answerTake_onAir _ runs onAir),
      fun state onAir ineligible unforced => refusedWith_answer (by decide) ?_⟩
    · simp only [State.answerTake, stopped]
    · rw [unforced, answerTake_ineligible _ state onAir ineligible]
  · rw [hr]
    refine ⟨fun runs => refusedWith_answer (by decide) ?_, fun stopped invalid => refusedWith_answer (by decide) ?_⟩
    · simp only [State.answerStart, ne_eq, runs, not_false_eq_true, if_true]
    · simp only [State.answerStart, stopped, invalid, ne_eq, not_true_eq_false, if_false, Bool.false_eq_true]

/-! ### The claim and the copy -/

theorem claimedFrom_iff : s.claimedFrom q = true ↔ ∃ c, s.bank.claim = some c ∧ c ≠ q := by
  unfold State.claimedFrom
  cases s.bank.claim <;> simp

theorem exec_releaseClaim (s : State) (q : Port) : exec (.releaseClaim q (withCheck 0x23 [])) s =
    .next ((s.opened q 1).answered q ((s.opened q 1).answerRelease q)) :=
  exec_command_answer (operands := []) (o := State.answerRelease q) rfl rfl rfl (allowed_everyPort _ q)

theorem exec_copyBank (s : State) (q : Port) : exec (.copyBank q (withCheck 0x22 [])) s =
    .next ((s.opened q 1).answered q ((s.opened q 1).answerCopy q)) :=
  exec_command_answer (operands := []) (o := State.answerCopy q) rfl rfl rfl (allowed_everyPort _ q)

/-- R182: an answer DONE that leaves `t`, the ports moving no further than the end of the transaction. -/
theorem onlyPort_answered (v t : State) (q : Port) : OnlyPort q t (v.answered q (t, .done)) ∧ DoneOn (v.answered q (t, .done)) q := by
  rw [answered_done]
  exact ⟨(deselect_done t q).1, (deselect_done t q).doneOn⟩

/-- R166: the release of a claim, by who holds it. -/
theorem answerRelease_of_none (h : v.bank.claim = none) : v.answerRelease q = (v, .done) := by simp [State.answerRelease, h]

theorem answerRelease_own (h : v.bank.claim = some q) :
    v.answerRelease q = (v.setBank { v.bank with claim := none }, .done) := by
  simp [State.answerRelease, h]

theorem answerRelease_other {c : Port} (h : v.bank.claim = some c) (hc : c ≠ q) : v.answerRelease q =
    if q = .p then ((v.setBank { v.bank with claim := none }).raiseOn c .claimLost, .done) else (v, .claimed) := by
  simp [State.answerRelease, h, hc]

theorem answerCopy_eq (v : State) (q : Port) : v.answerCopy q =
    if v.arbiter.state = .stopped then (v, .wrongState) else if v.claimedFrom q then (v, .claimed)
    else if v.bank.exchange.isSome then (v, .busy)
    else (v.setBank { v.bank with back := v.bank.front, claim := some (v.bank.claim.getD q) }, .done) := rfl

/-- Settles O54: by who holds the claim, the arbiter's state and the pending exchange. -/
theorem releaseClaimAndCopyBank : Obligations.ReleaseClaimAndCopyBank := by
  refine ⟨fun s q => ⟨_, exec_releaseClaim s q, fun none => ?_, fun own => ?_, fun c holder other => ⟨fun rig => ?_, fun panel => ?_⟩⟩,
    fun s q => ⟨_, exec_copyBank s q, ?_⟩⟩
  · exact doneOnly_answer (answerRelease_of_none none)
  · rw [answerRelease_own own]
    exact (onlyPort_answered _ _ q).symm
  · refine refusedWith_answer (by decide) ?_
    rw [answerRelease_other holder other, if_neg rig]
  · rw [answerRelease_other holder other, if_pos panel]
    obtain ⟨only, done⟩ := onlyPort_answered (s.opened q 1)
      (((s.opened q 1).setBank { (s.opened q 1).bank with claim := none }).raiseOn c .claimLost) q
    refine ⟨done, only.1.bank, ?_, ?_⟩
    · exact ((Touches.refl.setBank (by decide)).raiseOn (by decide)).andThen only.1 (by decide)
    · rw [only.2 c other]
      simp [State.raiseOn]
  · generalize s.opened q 1 = p
    rw [answerCopy_eq]
    refine ⟨fun stopped => ?_, fun runs claimed => ?_, fun runs free => ⟨fun pending => ?_, fun none => ?_⟩⟩
    · exact refusedWith_answer (by decide) (by rw [if_pos stopped])
    · exact refusedWith_answer (by decide) (by rw [if_neg runs, if_pos (claimedFrom_iff.mpr claimed)])
    all_goals
      have unclaimed : ¬ p.claimedFrom q = true := by
        rw [claimedFrom_iff]
        rintro ⟨c, hc, other⟩
        rcases free with free | free <;> rw [free] at hc <;> cases hc
        exact other rfl
    · refine refusedWith_answer (by decide) ?_
      rw [if_neg runs, if_neg unclaimed, if_pos (Option.isSome_iff_ne_none.mpr pending)]
    · rw [if_neg runs, if_neg unclaimed, none]
      have kept : p.bank.claim.getD q = q := by rcases free with free | free <;> rw [free] <;> rfl
      rw [kept, if_neg (by simp)]
      exact (onlyPort_answered p (p.setBank { p.bank with back := p.bank.front, claim := some q }) q).symm

/-! ### The lamps -/

theorem exec_lampStepBoundary (s : State) : exec .lampStepBoundary s = .next s.prepare.takeLampStep := rfl

/-- R197: a step boundary that is due. -/
theorem takeLampStep_due (h : s.lamps.due = true) : s.takeLampStep = s.setLamps { s.lamps with
    due := false, timer := 0, step := (s.lamps.step + 1) % 16
    lit := Table.tab fun i => (s.lamps.patterns.get (s.inForce i)).getLsbD (15 - (s.lamps.step + 1) % 16) } := if_pos h

theorem takeLampStep_leaves (h : s.lamps.due = true) : Touches [.lamps] s s.takeLampStep ∧
    s.takeLampStep.lamps.step = (s.lamps.step + 1) % 16 ∧ s.takeLampStep.lamps.timer = 0 ∧ s.takeLampStep.lamps.due = false ∧
    s.takeLampStep.lamps.override = s.lamps.override ∧ s.takeLampStep.lamps.patterns = s.lamps.patterns ∧
    ∀ i, s.takeLampStep.lamps.lit.get i = (s.lamps.patterns.get (s.inForce i)).getLsbD (15 - (s.lamps.step + 1) % 16) := by
  rw [takeLampStep_due h]
  exact ⟨Touches.refl.setLamps (by decide), rfl, rfl, rfl, rfl, rfl, fun i => Table.get_tab ..⟩

/-- Settles O57: the step is the one that is due, and each lamp's automatic choice is the table of R198. -/
theorem lampStepBoundary : Obligations.LampStepBoundary := by
  intro s p step rig air sync clock due
  refine ⟨p.takeLampStep, exec_lampStepBoundary s, ?_⟩
  clear_value p
  obtain ⟨touched, hstep, timer, notDue, overrides, patterns, lit⟩ := takeLampStep_leaves due
  refine ⟨touched, hstep, timer, notDue, overrides, patterns, fun i => (lit i).trans ?_⟩
  have choice : ∀ i, p.automatic.get i =
      (match i with | 0 => rig .a | 1 => rig .b | 2 => air .a | 3 => air .b | 4 => sync | 5 => clock) := by
    have health : ∀ r, healthPattern (p.handed r) = rig r := fun r => by cases h : p.handed r <;> simp [rig, healthPattern, h]
    have onAir : ∀ r, airPattern p.arbiter r = air r := fun r => by
      cases h : p.arbiter.state <;> simp [air, airPattern, h]
    have aligned : syncPattern p.alignment.state = sync := by cases h : p.alignment.state <;> simp [sync, syncPattern, h]
    have shown : clockPattern p.showClock.state = clock := by cases h : p.showClock.state <;> simp [clock, clockPattern, h]
    intro i
    rw [← health .a, ← health .b, ← onAir .a, ← onAir .b, ← aligned, ← shown]
    fin_cases i <;> rfl
  rw [State.inForce, choice] <;> rfl

/-- R192: SET_LAMP's operands. -/
theorem exec_setLamp (s : State) (x y : Byte) : exec (.setLamp .p (withCheck 0x33 [x, y])) s =
    .next ((s.opened .p 3).answered .p ((s.opened .p 3).answerLamp (finOf 6 x) (overrideOf y))) :=
  exec_command_answer (o := State.answerLamp (finOf 6 x) (overrideOf y)) rfl rfl rfl (allowed_panel _)

theorem finOf_none {n : Nat} {b : Byte} (h : n ≤ b.toNat) : finOf n b = none := dif_neg (by omega)

theorem finOf_some {n : Nat} {b : Byte} {i : Fin n} (h : b.toNat = i.val) : finOf n b = some i := by
  have := i.isLt
  rw [finOf, dif_pos (by omega)]
  exact congrArg some (Fin.ext h)

theorem overrideOf_none {b : Byte} (h : 8 ≤ b.toNat) (auto : b ≠ 0xFF) : overrideOf b = none := by
  rw [overrideOf, if_neg auto, finOf_none h]; rfl

theorem overrideOf_some {b : Byte} {k : Fin 8} (h : b.toNat = k.val) : overrideOf b = some (some k) := by
  have auto : b ≠ 0xFF := by rintro rfl; have := k.isLt; simp at h; omega
  rw [overrideOf, if_neg auto, finOf_some h]; rfl

theorem exec_writeLampPatterns (s : State) (i : Fin 8) (x : BitVec 16) :
    exec (.writeLampPatterns .p (writeBody 26 i.val 1 (be16 x.toNat))) s = .next ((s.opened .p 6).answered .p
      ((s.opened .p 6).answerPatterns { id := 26, first := i.val, count := 1, data := be16 x.toNat })) :=
  exec_write_answer (o := State.answerPatterns) rfl rfl le_rfl (by decide) (by have := i.isLt; omega) rfl rfl rfl

theorem answerPatterns_one (v : State) (i : Fin 8) (x : BitVec 16) :
    v.answerPatterns { id := 26, first := i.val, count := 1, data := be16 x.toNat } =
      (v.setLamps { v.lamps with patterns := v.lamps.patterns.set i x }, .done) := by
  rw [State.answerPatterns, entries_one 26 i.val (data := be16 x.toNat) (len := 2) rfl, readPattern_be16]
  simp [storeFrom]

/-- Settles O58: by the two operands of SET_LAMP, and by the one pattern of the WRITE. -/
theorem lampOverridesAndPatterns : Obligations.LampOverridesAndPatterns := by
  refine ⟨fun s x y => ⟨_, exec_setLamp s x y, fun bad => ?_, fun i hi good => ?_⟩,
    fun s i x => ⟨_, exec_writeLampPatterns s i x, ?_⟩⟩
  · refine refusedWith_answer (by decide) ?_
    rcases bad with bad | ⟨beyond, auto⟩
    · rw [finOf_none bad]; rfl
    · rw [overrideOf_none beyond auto]; cases finOf 6 x <;> rfl
  · generalize s.opened .p 3 = p
    obtain ⟨o, ho⟩ : ∃ o, overrideOf y = some o := by
      rcases good with small | rfl
      · exact ⟨_, overrideOf_some (k := ⟨y.toNat, small⟩) rfl⟩
      · exact ⟨none, rfl⟩
    rw [finOf_some hi, ho, show p.answerLamp (some i) (some o) = (p.setOverride i o, .done) from rfl]
    obtain ⟨only, done⟩ := onlyPort_answered p (p.setOverride i o) .p
    have lamps := only.1.lamps
    refine ⟨done, (Touches.refl.setOverride (by decide)).andThen only.1 (by decide), ?_, fun j hj => ?_, ?_, fun k hk => ?_⟩
    · rw [lamps]; rfl
    · rw [lamps]; exact Table.get_set_ne _ _ _ _ (Ne.symm hj)
    · rintro rfl
      rw [lamps, ← Option.some.inj ho]
      exact Table.get_set_same ..
    · rw [lamps, ← Option.some.inj ((overrideOf_some hk).symm.trans ho)]
      exact Table.get_set_same ..
  · generalize s.opened .p 6 = p
    rw [answerPatterns_one]
    obtain ⟨only, done⟩ := onlyPort_answered p (p.setLamps { p.lamps with patterns := p.lamps.patterns.set i x }) .p
    have lamps := only.1.lamps
    refine ⟨done, (Touches.refl.setLamps (by decide)).andThen only.1 (by decide), ?_, ?_, fun j hj => ?_⟩
    · rw [lamps]; rfl
    · rw [lamps]; simp
    · rw [lamps]; simp [Ne.symm hj]

end Sys2Proof.Machine

/-! PROOFS. Timecode records (R130, R135 to R137, R196): the HELD records, the examination of a sample instant, the end of a sending,
and the line. -/

namespace Sys2Proof.Machine

open Sys2Proof

/- In order: bodies elaborated side by side while the kernel still checks the text above each hold a thread's stack. -/
set_option Elab.async false

variable {s t : State} {tc : Timecode} {flags : TcFlags}

/-! ### A record handed over (R137) -/

/-- R136: the record of a timecode with its flags. -/
def State.recordOf (s : State) (tc : Timecode) (flags : TcFlags) : TcRecord :=
  { tc, rate := s.bank.setup.frameRate.fps, song := s.clockSong, flags }

/-- R137: with no sending under way a record's sending begins, its start bit on the line at once. -/
theorem handRecord_sent (h : s.tcOutput.sending = none) : (s.handRecord tc flags).tcOutput = { s.tcOutput with
    sending := some
      { record := s.recordOf tc flags, left := s.bank.setup.recordPeriods, bit := s.bank.setup.bitPeriods }
    line := false } := by
  have level := s.bank.setup.send_level (s.recordOf tc flags)
  have driven := TcOutput.drive_sent { s.tcOutput with sending := some (s.bank.setup.send (s.recordOf tc flags)) } rfl
  rw [level] at driven
  have out : (s.handRecord tc flags).tcOutput =
      ({ s.tcOutput with sending := some (s.bank.setup.send (s.recordOf tc flags)) } : TcOutput).drive := by
    simp only [State.handRecord, h]
    rfl
  exact out.trans driven

/-- R137: a record waits while another is sent. -/
theorem handRecord_waits (h : s.tcOutput.sending ≠ none) (hw : s.tcOutput.waiting = none) :
    (s.handRecord tc flags).tcOutput = { s.tcOutput with waiting := some (s.recordOf tc flags) } := by
  obtain ⟨y, hy⟩ := Option.ne_none_iff_exists'.mp h
  simp only [State.handRecord, hy, hw]
  rfl

/-- R137: a record that replaces a waiting one keeps its marks. -/
theorem handRecord_merges {old : TcRecord} (h : s.tcOutput.sending ≠ none) (hw : s.tcOutput.waiting = some old) :
    (s.handRecord tc flags).tcOutput = { s.tcOutput with waiting := some { s.recordOf tc flags with flags := { flags with
      jumped := flags.jumped || old.flags.jumped, songChanged := flags.songChanged || old.flags.songChanged } } } := by
  obtain ⟨y, hy⟩ := Option.ne_none_iff_exists'.mp h
  simp only [State.handRecord, hy, hw]
  rfl

/-! ### HELD (R130, R135) -/

theorem exec_freewheelLimit (s : State) : exec .freewheelLimit s = .next s.takeFreewheelLimit := rfl

theorem takeFreewheelLimit_due {n : Nat} (hs : s.showClock.state = .freewheel) (hn : s.showClock.freewheelCounter = some n)
    (due : s.showClock.control.freewheelLimit ≤ n) : s.takeFreewheelLimit = s.enterHeld s.holdValue := by
  simp [State.takeFreewheelLimit, hs, hn, due]

/-- R130: the clock in HELD with a value, its first HELD record handed over. -/
theorem enterHeld_showClock (s : State) (value : Timecode) : (s.enterHeld value).showClock = { s.showClock with
    state := .held, anchor := none, slewCounter := none, freewheelCounter := none, lastFrame := .absent
    jumped := false, songChanged := false, heldValue := some value, cadence := some 0, cadenceDue := false
    lastEmitted := some (value, { noTcFlags with held := true }), emitted := true } := rfl

theorem enterHeld_sent (s : State) (value : Timecode) (h : s.tcOutput.sending = none) :
    (s.enterHeld value).tcOutput = { s.tcOutput with
      sending := some { record := s.recordOf value { noTcFlags with held := true }
                        left := s.bank.setup.recordPeriods, bit := s.bank.setup.bitPeriods }
      line := false } := by
  refine (handRecord_sent (by exact h)).trans ?_
  rfl

theorem exec_heldRecord (s : State) : exec .heldRecord s = .next s.prepare.takeHeldRecord := rfl

theorem takeHeldRecord_due (hs : s.showClock.state = .held) (hv : s.showClock.heldValue = some tc) (due : s.showClock.cadenceDue = true) :
    s.takeHeldRecord =
      (s.setShowClock { s.showClock with cadenceDue := false }).handRecord tc { noTcFlags with held := true } := by
  simp [State.takeHeldRecord, hs, hv, due]

/-! ### The end of a sending (R137) -/

theorem exec_recordSendEnd (s : State) : exec .recordSendEnd s = .next s.prepare.takeRecordSendEnd := rfl

theorem takeRecordSendEnd_due {y : Sending} (hy : s.tcOutput.sending = some y) (due : y.left = 0) :
    s.takeRecordSendEnd = s.setTcOutput ({ s.tcOutput with
      sending := s.tcOutput.waiting.map s.bank.setup.send, waiting := none } : TcOutput).drive := by
  simp [State.takeRecordSendEnd, hy, due]

/-! ### The line (R196) -/

theorem getD_flatMap {α β : Type} {f : α → List β} {m : Nat} (hf : ∀ x, (f x).length = m) (a : α) (d : β) : ∀ (l : List α) (k j : Nat),
    k < l.length → j < m → (l.flatMap f).getD (m * k + j) d = (f (l.getD k a)).getD j d
  | x :: l, 0, j, _, hj => by
    rw [List.flatMap_cons, Nat.mul_zero, Nat.zero_add, List.getD_append _ _ _ _ (by rw [hf]; exact hj)]
    rfl
  | x :: l, k + 1, j, hk, hj => by
    rw [List.flatMap_cons, List.getD_append_right _ _ _ _ (by rw [hf]; nlinarith), hf,
      show m * (k + 1) + j - m = m * k + j by rw [Nat.mul_succ]; omega]
    exact getD_flatMap hf a d l k j (by simpa using hk) hj

/-- R196: bit `j` of byte `k` of a record. -/
theorem recordBits_getD (r : TcRecord) (k : Fin 9) (j : Fin 10) :
    (recordBits r).getD (10 * k.val + j.val) true = (lineBits ((recordBytes r).getD k.val 0)).getD j.val true :=
  getD_flatMap lineBits_length 0 true (recordBytes r) k.val j.val (by rw [recordBytes_length]; exact k.isLt) j.isLt

/-- R196: a start bit, eight data bits with the least significant first, and a stop bit. -/
theorem lineBits_getD (b : Byte) (j : Fin 10) : (j.val = 0 → (lineBits b).getD j.val true = false) ∧
    (j.val = 9 → (lineBits b).getD j.val true = true) ∧
    (1 ≤ j.val → j.val ≤ 8 → (lineBits b).getD j.val true = b.getLsbD (j.val - 1)) := by
  fin_cases j <;> simp [lineBits, List.range_succ]

theorem tcFlagsByte_eq (f : TcFlags) : tcFlagsByte f = byte ((if f.preroll then 1 else 0) + (if f.jumped then 2 else 0) +
    (if f.songChanged then 4 else 0) + (if f.freewheel then 8 else 0) + (if f.held then 16 else 0)) := by
  obtain ⟨a, b, c, d, e⟩ := f
  revert a b c d e
  decide

/-- R196: the bit whose sample periods run. -/
theorem level_running {y : Sending} {n : Nat} (hn : n < 90) (low : (89 - n) * y.bit < y.left) (high : y.left ≤ (90 - n) * y.bit) :
    y.level = (recordBits y.record).getD n true := by
  have pos : 0 < y.bit := Nat.pos_of_ne_zero fun h => by rw [h] at low high; omega
  have split : (90 - n) * y.bit = (89 - n) * y.bit + y.bit := by
    rw [show 90 - n = (89 - n) + 1 by omega, Nat.succ_mul]
  have elapsed : (y.left + y.bit - 1) / y.bit = 90 - n :=
    Nat.div_eq_of_lt_le (by omega) (by rw [Nat.succ_mul]; omega)
  rw [Sending.level, elapsed, show recordLength - (90 - n) = n by simp only [recordLength]; omega]

/-! ### The statements -/

/-- Settles O28: the record of each entry to HELD and of each cadence is one handed over; the line by the bit whose periods run. -/
theorem heldClockAndSendEnd : Obligations.HeldClockAndSendEnd := by
  refine ⟨fun s n hs hn due => ?limit, fun s x => ?cadence, fun s y => ?ends, fun x h => ?idle, fun x y k j h => ?line⟩
  case limit =>
    intro value held
    refine ⟨_, exec_freewheelLimit s, Touches.refl.takeFreewheelLimit (by decide), ?_⟩
    rw [takeFreewheelLimit_due hs hn due]
    exact ⟨enterHeld_showClock s _, enterHeld_sent s _⟩
  case cadence =>
    intro p held hs hv due
    refine ⟨p.takeHeldRecord, exec_heldRecord s, ?_⟩
    clear_value p
    refine ⟨Touches.refl.takeHeldRecord (by decide), ?_⟩
    rw [takeHeldRecord_due hs hv due]
    exact ⟨rfl, fun free => handRecord_sent free⟩
  case ends =>
    intro p hy zero
    refine ⟨p.takeRecordSendEnd, exec_recordSendEnd s, ?_⟩
    clear_value p
    refine ⟨Touches.refl.takeRecordSendEnd (by decide), ?_⟩
    rw [takeRecordSendEnd_due hy zero]
    refine ⟨rfl, fun none => ?_, fun w hw => ?_⟩
    · simp [none, TcOutput.drive]
    · simp only [setTcOutput_tcOutput, hw, Option.map_some]
      exact ⟨p.bank.setup.send_level w, rfl⟩
  case idle => rw [TcOutput.tick, TcOutput.drive_idle _ (by simp [h])]; simp [h]
  case line =>
    intro t n f flags fields sent
    have ticked : t = { x with sending := some { y with left := y.left - 1 }, line := ({ y with left := y.left - 1 } : Sending).level } := by
      simp [t, TcOutput.tick, TcOutput.drive, h]
    rw [ticked]
    refine ⟨rfl, rfl, fun zero => Sending.level_done _ zero, fun low high => ?_⟩
    have bytes : fields ++ [xorAll fields] = recordBytes y.record := by
      simp only [fields, flags, f, ← tcFlagsByte_eq]
      rfl
    have level : ({ y with left := y.left - 1 } : Sending).level = (lineBits sent).getD j.val true :=
      (level_running (n := n) (by have := k.isLt; have := j.isLt; omega) low high).trans
        ((recordBits_getD y.record k j).trans (by rw [← bytes]))
    dsimp only
    rw [level]
    exact lineBits_getD sent j

/-! ### The examination of a sample instant (R136) -/

theorem exec_frameBoundary (s : State) : exec .frameBoundary s = .next s.prepare.takeFrameBoundary := rfl

theorem takeFrameBoundary_open (open_ : s.showClock.examine = true)
    (hs : s.showClock.state = .running ∨ s.showClock.state = .slewing ∨ s.showClock.state = .freewheel) :
    s.takeFrameBoundary = (s.setShowClock { s.showClock with examine := false }).examineRunning := by
  unfold State.takeFrameBoundary
  rw [if_pos open_]
  rcases hs with hs | hs | hs <;> simp only [setShowClock_showClock, hs]

/-- R126, R136: the timecode of a sample instant, its frame count, and whether a record is asked for. -/
def State.frameTimecode (s : State) : Timecode :=
  if decide (s.elapsed < 0) then s.startOf s.clockSong
  else timecodeAt s.bank.setup.frameRate.fps (s.startOf s.clockSong) s.frameCount

def State.frameLast (s : State) : LastFrame := if decide (s.elapsed < 0) then .preroll else .count s.frameCount

abbrev State.frameDue (s : State) : Prop :=
  (decide (s.elapsed < 0) = true ∧ s.showClock.lastFrame = .absent) ∨
    (decide (s.elapsed < 0) = false ∧ s.showClock.lastFrame ≠ .count s.frameCount)

/-- R136: the clock's examination, by whether the last frame count asks for a record. -/
theorem examineRunning_due (h : s.frameDue) : s.examineRunning =
    s.emitRunning s.frameTimecode (decide (s.elapsed < 0)) s.frameLast := by
  unfold State.examineRunning
  rcases h with ⟨hp, hl⟩ | ⟨hp, hl⟩
  · have before : s.elapsed < 0 := of_decide_eq_true hp
    simp [State.derived, State.frameTimecode, State.frameLast, before, hl]
  · have after : ¬ s.elapsed < 0 := of_decide_eq_false hp
    simp only [State.derived, State.frameTimecode, State.frameLast, after, decide_false, if_false, Bool.false_eq_true]
    split
    · rfl
    · rfl
    · rename_i n hn
      rw [if_neg fun same => hl (by rw [hn, same])]

theorem examineRunning_not_due (h : ¬ s.frameDue) : s.examineRunning = s := by
  unfold State.examineRunning
  rw [State.frameDue, not_or] at h
  obtain ⟨pre, post⟩ := h
  split
  · rename_i before
    cases hl : s.showClock.lastFrame with
    | absent => exact absurd ⟨by simpa using before, hl⟩ pre
    | preroll => rfl
    | count n => rfl
  · rename_i after
    have counted : s.showClock.lastFrame = .count s.frameCount := not_not.mp fun hl => post ⟨by simpa using after, hl⟩
    simp only [counted, if_true]

/-- R136: the flags of a record of the running clock. -/
def State.runningFlags (s : State) (preroll : Bool) : TcFlags :=
  { preroll, jumped := s.showClock.jumped, songChanged := s.showClock.songChanged
    freewheel := s.showClock.state == .freewheel, held := false }

/-- R136: the running clock has handed its record over. -/
theorem emitRunning_leaves (s : State) (tc : Timecode) (preroll : Bool) (last : LastFrame) :
    (s.emitRunning tc preroll last).showClock = { s.showClock with
      jumped := false, songChanged := false, lastFrame := last
      freewheelCounter := if preroll then s.showClock.freewheelCounter else s.showClock.freewheelCounter.map (· + 1)
      lastEmitted := some (tc, s.runningFlags preroll), emitted := true } ∧
    (s.tcOutput.sending = none → (s.emitRunning tc preroll last).tcOutput = { s.tcOutput with
      sending := some { record := s.recordOf tc (s.runningFlags preroll)
                        left := s.bank.setup.recordPeriods, bit := s.bank.setup.bitPeriods }
      line := false }) ∧
    (s.tcOutput.sending ≠ none → s.tcOutput.waiting = none → (s.emitRunning tc preroll last).tcOutput =
      { s.tcOutput with waiting := some (s.recordOf tc (s.runningFlags preroll)) }) ∧
    ∀ old, s.tcOutput.sending ≠ none → s.tcOutput.waiting = some old → (s.emitRunning tc preroll last).tcOutput =
      { s.tcOutput with waiting := some { s.recordOf tc (s.runningFlags preroll) with
          flags := { s.runningFlags preroll with
            jumped := s.showClock.jumped || old.flags.jumped
            songChanged := s.showClock.songChanged || old.flags.songChanged } } } := by
  refine ⟨rfl, fun free => ?_, fun busy free => ?_, fun old busy full => ?_⟩
  · exact (handRecord_sent (by exact free)).trans rfl
  · exact (handRecord_waits (by exact busy) (by exact free)).trans rfl
  · exact (handRecord_merges (by exact busy) (by exact full)).trans rfl

/-- Settles O29: by whether the last frame count asks for a record, and by what the Timecode Output holds. -/
theorem frameBoundaryRecord : Obligations.FrameBoundaryRecord := by
  intro s p c preroll x last due flags record open_ runs
  refine ⟨p.takeFrameBoundary, exec_frameBoundary s, ?_⟩
  clear_value p
  refine ⟨Touches.refl.takeFrameBoundary (by decide), ?_⟩
  rw [takeFrameBoundary_open open_ runs]
  generalize hv : p.setShowClock { p.showClock with examine := false } = v
  have asks : v.frameDue ↔ due := by rw [← hv]; rfl
  refine ⟨fun none => ?_, fun wants => ?_⟩
  · rw [examineRunning_not_due (mt asks.mp none), ← hv]
    exact ⟨rfl, rfl⟩
  · rw [examineRunning_due (asks.mpr wants)]
    obtain ⟨clock, sent, waits, merges⟩ := emitRunning_leaves v v.frameTimecode (decide (v.elapsed < 0)) v.frameLast
    refine ⟨clock.trans ?_, fun free => (sent ?_).trans ?_, fun busy free => (waits ?_ ?_).trans ?_,
      fun old busy full => (merges old ?_ ?_).trans ?_⟩
    all_goals rw [← hv]
    · rfl
    · exact free
    · rfl
    · exact busy
    · exact free
    · rfl
    · exact busy
    · exact full
    · rfl

end Sys2Proof.Machine

/-! PROOFS. What the arbiter's standing tests, the handing on of a health state and the taking of an exchange leave of a rig: each
parser but for DIVERGED, and every in-tick flag; and those tests where no exchange is pending. -/

namespace Sys2Proof.Machine

open Sys2Proof

/- In order: bodies elaborated side by side while the kernel still checks the text above each hold a thread's stack. -/
set_option Elab.async false

variable {s t u : State} {r : Rig} {k : Fin 11} {h : Health} {f g : Table 11 FaultEntry} {kinds : KindSet} {time : Nat}

/-! ### Flags under the moves of a health state (R40) -/

theorem Health.qualify_flags : (h.qualify f kinds).flags = h.flags := by
  unfold Health.qualify
  split <;> rfl

theorem Health.settleQualifying_flags : (h.settleQualifying f).flags = h.flags := by
  unfold Health.settleQualifying
  split
  · exact Health.qualify_flags
  · rfl

theorem Health.restored_flags : (h.restored time).flags = h.flags := by
  unfold Health.restored
  split <;> rfl

theorem Health.settleDue_flags : (h.settleDue f time).flags = h.flags := Health.restored_flags.trans Health.settleQualifying_flags

theorem Health.restoreChange_flags : (h.restoreChange time).flags = h.flags := by
  unfold Health.restoreChange
  dsimp only
  split <;> rfl

theorem Health.policyChange_flags : (h.policyChange f g).flags = h.flags := by
  unfold Health.policyChange
  dsimp only
  split
  · split <;> rfl
  · split
    · exact Health.qualify_flags
    · split <;> rfl
  · split
    · exact Health.qualify_flags
    · rfl
  · split
    · rfl
    · exact Health.qualify_flags
  · rfl

/-- R40: evidence takes no flag back. -/
theorem Health.evidence_flags_kept (hk : h.flags.get k = true) : (h.evidence f time kinds).flags.get k = true := by
  by_cases hs : h.state = .offline
  · rwa [show h.evidence f time kinds = h from if_pos hs]
  · rw [Health.evidence_flags hs, KindSet.get_union, hk, Bool.true_or]

/-! ### What is carried -/

/-- A flag of a rig is set, and where an exchange may bring a restart of the monitors, in what that would leave of the rig too
(R45). -/
def State.flagged (s : State) (r : Rig) (k : Fin 11) : Prop :=
  (s.health.get r).flags.get k = true ∧
    (s.bank.exchange = none ∨ ∀ u, s.instantHealth.unguarded = some u → (u.get r).health.flags.get k = true)

/-- From `s` to `t` each parser stands but for DIVERGED, and every flag that is set stays. -/
structure Carried (s t : State) : Prop where
  parsers : ∀ r, t.parsers.get r = { s.parsers.get r with diverged := (t.parsers.get r).diverged }
  flags : ∀ r k, s.flagged r k → t.flagged r k

theorem Carried.refl (s : State) : Carried s s := ⟨fun _ => rfl, fun _ _ => id⟩

theorem Carried.trans (a : Carried s t) (b : Carried t u) : Carried s u :=
  ⟨fun r => by rw [b.parsers r, a.parsers r], fun r k hk => b.flags r k (a.flags r k hk)⟩

/-- The blocks whose moves carry everything. -/
abbrev quietBlocks : List Block :=
  [.clock, .links, .guards, .lines, .alignment, .arbiter, .mixer, .showClock, .tcOutput, .matchers, .ports, .lamps, .device,
    .tickDue, .pending]

theorem Carried.frame {bs : List Block} (a : Carried s t) (b : Touches bs t u) (sub : bs ⊆ quietBlocks := by decide) :
    Carried s u := by
  have quiet := b.mono sub
  refine a.trans ⟨fun r => by rw [quiet.parsers], fun r k hk => ?_⟩
  rw [State.flagged, quiet.health, quiet.instantHealth, quiet.bank]
  exact hk

theorem Carried.ite {p : Prop} [Decidable p] {v : State} (hu : p → Carried s u) (hv : ¬ p → Carried s v) :
    Carried s (if p then u else v) := by
  split
  · exact hu ‹_›
  · exact hv ‹_›

theorem Carried.setHanding (a : Carried s t) (r : Rig) (x : Handing) : Carried s (t.setHanding r x) :=
  a.trans ⟨fun _ => rfl, fun _ _ hk => hk⟩

/-- A move of one rig's health that takes no flag back. -/
theorem Carried.moveHealth (a : Carried s t) (r : Rig) {m : Health → Health}
    (hm : ∀ h k, h.flags.get k = true → (m h).flags.get k = true) : Carried s (t.moveHealth r m) := by
  have touched : Touches [.health] t (t.moveHealth r m) := Touches.refl.moveHealth (by decide)
  have health : (t.moveHealth r m).health = t.health.set r (m (t.health.get r)) := t.moveHealth_health r m
  refine a.trans ⟨fun q => by rw [touched.parsers], fun q k ⟨own, kept⟩ => ⟨?_, ?_⟩⟩
  · rw [health, PerRig.get_set]
    split
    · rename_i same; subst same; exact hm _ _ own
    · exact own
  · rw [touched.bank]
    refine kept.imp_right fun kept u hu => ?_
    cases old : t.instantHealth.unguarded with
    | none =>
      rw [State.moveHealth_of_none _ old] at hu
      exact absurd (hu.symm.trans old) (by simp)
    | some v =>
      have moved : u = v.set r { v.get r with health := m (v.get r).health } := by
        have := hu
        simp only [State.moveHealth, State.moveHealthBy, State.setRigHealth, setHealth_instantHealth, old] at this
        exact (Option.some.inj this).symm
      rw [moved, PerRig.get_set]
      split
      · rename_i same; subst same; exact hm _ _ (kept v old)
      · exact kept v old

theorem Carried.noteEvidence (a : Carried s t) (r : Rig) (kinds : KindSet) : Carried s (t.noteEvidence r kinds) :=
  a.moveHealth r fun _ _ hk => Health.evidence_flags_kept (by exact hk)

theorem Carried.setDiverged (a : Carried s t) (r : Rig) (b : Bool) :
    Carried s (t.setParser r { t.parsers.get r with diverged := b }) := by
  refine a.trans ⟨fun q => ?_, fun _ _ hk => hk⟩
  rw [State.setParser, setParsers_parsers, PerRig.get_set]
  split
  · rename_i same; subst same; rfl
  · rfl

theorem Carried.reDivergedBy (a : Carried s t) (r : Rig) (x : HealthState) : Carried s (t.reDivergedBy r x) :=
  .ite (fun _ => a) fun _ => .ite (fun _ => (a.setDiverged r _).noteEvidence r _) fun _ => a.setDiverged r _

theorem Carried.undoGuards (a : Carried s t) (pending : t.bank.exchange ≠ none) : Carried s t.undoGuards := by
  unfold State.undoGuards
  split
  · exact a
  · rename_i u hu
    refine ((a.trans ⟨fun q => ?_, fun q k hk => ⟨?_, .inr fun v hv => by cases hv⟩⟩).reDivergedBy _ _).reDivergedBy _ _
    · cases q <;> rfl
    · have set := hk.2.resolve_left pending u hu
      cases q <;> exact set

theorem Carried.guardRestartBoth (a : Carried s t) (pending : t.bank.exchange ≠ none) : Carried s t.guardRestartBoth :=
  (a.frame (bs := [.guards]) (Touches.refl.setGuards (by decide))).undoGuards pending

/-- R172: the banks have been exchanged. -/
theorem Carried.setBank {x : BankStore} (a : Carried s t) (hx : x.exchange = none) : Carried s (t.setBank x) :=
  a.trans ⟨fun _ => rfl, fun _ _ ⟨own, _⟩ => ⟨own, .inl hx⟩⟩

/-! ### The standing tests carry everything -/

theorem Carried.goesDown (a : Carried s t) (r : Rig) : Carried s (t.goesDown r) :=
  a.frame (bs := changeBlocks) (Touches.refl.goesDown (by decide))

theorem Carried.comesUp (a : Carried s t) (r : Rig) : Carried s (t.comesUp r) :=
  a.frame (bs := [.arbiter, .mixer]) (Touches.refl.comesUp (by decide))

section Handing

variable {run : State → State} (hr : ∀ u, Carried u (run u))
include hr

theorem Carried.takeHealthWith (a : Carried s t) (r : Rig) (x : Handing) : Carried s (t.takeHealthWith run r x) := by
  have eligible := a.frame (bs := [.arbiter]) (Touches.refl.reEligible (by decide))
  exact (Carried.ite (fun _ => eligible.goesDown r) fun _ => .ite (fun _ => eligible.comesUp r) fun _ => eligible).trans (hr _)

theorem Carried.handOneWith (a : Carried s t) (r : Rig) : Carried s (t.handOneWith run r) :=
  .ite (fun _ => a) fun _ => (((a.setHanding r _).frame (bs := [.ports]) (Touches.refl.raiseAll (by decide))).reDivergedBy
    r.other _).takeHealthWith hr r _

theorem Carried.handHealthWith (a : Carried s t) (r : Rig) : Carried s (t.handHealthWith run r) :=
  .ite (fun _ => a) fun _ => .ite (fun _ => a.handOneWith hr r) fun _ => (a.handOneWith hr r).handOneWith hr _

theorem Carried.handSettledWith (a : Carried s t) (r : Rig) : Carried s (t.handSettledWith run r) :=
  .ite (fun _ => a) fun _ => a.handHealthWith hr r

theorem Carried.handBothWith (a : Carried s t) : Carried s (t.handBothWith run) :=
  ((a.handSettledWith hr .a).handSettledWith hr .b).trans (hr _)

theorem Carried.exchangeTakenWith (a : Carried s t) (pending : t.bank.exchange ≠ none) : Carried s (t.exchangeTakenWith run) := by
  have swapped := ((a.guardRestartBoth pending).setBank (x := { t.guardRestartBoth.bank with
    front := t.guardRestartBoth.bank.back, back := t.bank.front, claim := none, exchange := none }) rfl).frame
      (bs := [.ports]) (Touches.refl.raiseAll (n := .bankExchanged) (by decide))
  have judged : ∀ v, Carried s v → Carried s ((((v.restoreChange .a).restoreChange .b).policyChange .a t.bank.front.fault).policyChange
      .b t.bank.front.fault) := fun v hv =>
    (((hv.moveHealth .a fun _ _ hk => by rw [Health.restoreChange_flags]; exact hk).moveHealth .b fun _ _ hk => by
      rw [Health.restoreChange_flags]; exact hk).moveHealth .a fun _ _ hk => by
      rw [Health.policyChange_flags]; exact hk).moveHealth .b fun _ _ hk => by rw [Health.policyChange_flags]; exact hk
  have regrouped : ∀ v, Carried s v → Carried s v.retargetAll := fun v hv =>
    hv.frame (bs := [.mixer]) (Touches.refl.retargetAll (by decide))
  have grouped : ∀ v, Carried s v → Carried s (if v.arbiter.state = .blind then v else v.retargetAll) :=
    fun v hv => .ite (fun _ => hv) fun _ => regrouped v hv
  have rebased := ((grouped _ (judged _ swapped)).frame (bs := [.showClock])
    (Touches.refl.rebase (f := t.bank.front.song) (by decide))).frame (bs := [.matchers]) (Touches.refl.clearMemories (by decide))
  exact .ite (fun _ => regrouped _ (rebased.handBothWith hr)) fun _ => rebased.handBothWith hr

theorem Carried.dueExchangeWith (a : Carried s t) : Carried s (t.dueExchangeWith run) := by
  have settled : Carried s t.settleDues :=
    (a.moveHealth .a fun _ _ hk => by rw [Health.settleDue_flags]; exact hk).moveHealth .b fun _ _ hk => by
      rw [Health.settleDue_flags]; exact hk
  unfold State.dueExchangeWith
  split
  · exact a
  · rename_i e he
    have pending : t.settleDues.bank.exchange ≠ none := by
      rw [(Touches.refl.settleDues (by decide) : Touches [.health] t _).bank, he]; simp
    exact .ite (fun _ => settled.exchangeTakenWith hr pending) fun _ => a

end Handing

/-- R89: a completion but for what the Bank Store does at it and the groups' targets of BLIND. -/
def State.completed (s : State) : State :=
  let s := s.closeEntry .completed
  let s := s.setArbiter { s.arbiter with state := if s.onAirDown then .blind else .steady, outgoing := none }
  let s := if s.arbiter.state = .blind then s.raiseAll .blindEntered else s
  (s.raiseAll .changeDone).settleDelay.reEligible

theorem State.completeWith_eq (bank : State → State) (s : State) : s.completeWith bank =
    if (bank s.completed).arbiter.state = .blind then (bank s.completed).handTargets else bank s.completed := rfl

theorem State.touches_completed (s : State) : Touches [.lines, .alignment, .arbiter, .ports] s s.completed := by
  refine ((Touches.raiseAll ?_ (by decide)).settleDelay (by decide)).reEligible (by decide)
  have settled : Touches [.lines, .alignment, .arbiter, .ports] s ((s.closeEntry .completed).setArbiter
      { (s.closeEntry .completed).arbiter with
        state := if (s.closeEntry .completed).onAirDown then .blind else .steady, outgoing := none }) :=
    (Touches.refl.closeEntry (by decide)).setArbiter (by decide)
  have raised : ∀ v, Touches [.lines, .alignment, .arbiter, .ports] s v →
      Touches [.lines, .alignment, .arbiter, .ports] s (if v.arbiter.state = .blind then v.raiseAll .blindEntered else v) := by
    intro v hv
    split
    · exact hv.raiseAll (by decide)
    · exact hv
  exact raised _ settled

theorem Carried.completeWith {bank : State → State} (a : Carried s t) (hb : ∀ u, Carried u (bank u)) :
    Carried s (t.completeWith bank) := by
  have done := (a.frame t.touches_completed).trans (hb _)
  rw [State.completeWith_eq]
  exact .ite (fun _ => done.frame (bs := [.mixer]) (Touches.refl.handTargets (by decide))) fun _ => done

theorem Carried.arbRunWith {bank : State → State} (hb : ∀ u, Carried u (bank u)) :
    ∀ (n : Nat) {t : State}, Carried s t → Carried s (arbRunWith bank n t)
  | 0, _, a => a
  | n + 1, _, a => .ite (fun _ => Carried.arbRunWith hb n (a.completeWith hb)) fun _ => .ite (fun _ => Carried.arbRunWith hb n
      (a.frame (bs := changeBlocks) (Touches.refl.enterChanging (by decide)))) fun _ => a

theorem carried_run (s : State) : Carried s s.run :=
  (Carried.refl s).arbRunWith (fun u => (Carried.refl u).dueExchangeWith fun v => (Carried.refl v).arbRunWith Carried.refl 4) 4

/-! ### With no exchange pending (R170) -/

theorem dueExchangeWith_of_none {run : State → State} (h : s.bank.exchange = none) : s.dueExchangeWith run = s := by
  simp [State.dueExchangeWith, h]

/-- R170: with no exchange pending the standing tests ask nothing of the Bank Store. -/
theorem arbRunWith_of_none {bank : State → State} (hb : ∀ v : State, v.bank.exchange = none → bank v = v) : ∀ (n : Nat) {s : State},
    s.bank.exchange = none → arbRunWith bank n s = arbRunWith (fun v => v) n s
  | 0, _, _ => rfl
  | n + 1, s, h => by
    have same : s.completeWith bank = s.completeWith fun v => v := by
      rw [State.completeWith_eq, State.completeWith_eq, hb s.completed (by rw [s.touches_completed.bank]; exact h)]
    have done : (s.completeWith fun v => v).bank.exchange = none := by
      have touched : Touches changeBlocks s (s.completeWith fun v => v) :=
        Touches.refl.completeWith (fun _ => .refl) (by decide)
      rw [touched.bank]; exact h
    have entered : (s.enterChanging .lateFailover).bank.exchange = none := by
      have touched : Touches changeBlocks s (s.enterChanging .lateFailover) := Touches.refl.enterChanging (by decide)
      rw [touched.bank]; exact h
    simp only [arbRunWith, same, arbRunWith_of_none hb n done, arbRunWith_of_none hb n entered]

theorem run_of_no_exchange (h : s.bank.exchange = none) : s.run = s.settleArbiter :=
  arbRunWith_of_none (fun _ => dueExchangeWith_of_none) 4 h

theorem touches_run_of_no_exchange (h : s.bank.exchange = none) : Touches changeBlocks s s.run := by
  rw [run_of_no_exchange h]
  exact Touches.refl.settleArbiter (by decide)

end Sys2Proof.Machine

/-! PROOFS. The Link Receivers (R9 to R16): a good and a bad frame by link state, what the lanes deliver to a frame window, missing
frames, and lock gained. -/

namespace Sys2Proof.Machine

open Sys2Proof

/- In order: bodies elaborated side by side while the kernel still checks the text above each hold a thread's stack. -/
set_option Elab.async false

variable {s t : State} {r : Rig} {l : LinkRx} {lanes : LaneFrames} {w : Window} {pilot : Fin 64}

/-! ### A frame arrival by link state (R11, R12, R15) -/

theorem LinkRx.write_short (f : Frame) (h : l.store.length < 8) :
    l.write f = ({ l with store := l.store ++ [f], lastWritten := some f }, false) := if_pos h

theorem LinkRx.write_full (f : Frame) (h : 8 ≤ l.store.length) :
    l.write f = ({ l with store := l.store.drop 1 ++ [f], lastWritten := some f, slips := l.slips + 1 }, true) :=
  if_neg (Nat.not_lt.mpr h)

theorem LinkRx.arrival_acquiring (f : Option Frame) (h : l.state = .acquiring) : l.arrival pilot f =
    (match f with
      | some f => { l with
          acquisition := min 64 (l.acquisition + 1), kept := (l.kept ++ [f]).drop ((l.kept ++ [f]).length - 4) }
      | none => { l with acquisition := 0, kept := [] }, false) := by
  cases f <;> simp [LinkRx.arrival, h, Config.lockFrames, Config.keptFrames]

theorem LinkRx.arrival_good (f : Frame) (h : l.state = .locked) :
    l.arrival pilot (some f) = { l with badFrames := 0 }.write f := by
  simp [LinkRx.arrival, h]

theorem LinkRx.arrival_firstBad {f : Frame} (h : l.state = .locked) (first : l.badFrames = 0) (hf : l.lastWritten = some f) :
    l.arrival pilot none = { l with badFrames := 1 }.write (f.set pilot 0) := by
  simp [LinkRx.arrival, h, first, LinkRx.concealment, hf]

theorem LinkRx.arrival_secondBad (h : l.state = .locked) (second : l.badFrames ≠ 0) :
    l.arrival pilot none = ({ l with badFrames := 2 }, false) := by
  simp [LinkRx.arrival, h, second]

/-- R9 to R15: a frame arrival moves neither the window, the watches nor the lane error counts of its link, and its state never. -/
theorem LinkRx.arrival_keeps (f : Option Frame) : (l.arrival pilot f).1.window = l.window ∧
    (l.arrival pilot f).1.sinceWindow = l.sinceWindow ∧ (l.arrival pilot f).1.sinceMarker = l.sinceMarker ∧
    (l.arrival pilot f).1.laneErrors = l.laneErrors ∧ (l.arrival pilot f).1.state = l.state := by
  have write : ∀ (l : LinkRx) (f : Frame), (l.write f).1.window = l.window ∧ (l.write f).1.sinceWindow = l.sinceWindow ∧
      (l.write f).1.sinceMarker = l.sinceMarker ∧ (l.write f).1.laneErrors = l.laneErrors ∧ (l.write f).1.state = l.state := by
    intro l f
    unfold LinkRx.write
    split <;> exact ⟨rfl, rfl, rfl, rfl, rfl⟩
  cases f with
  | some f =>
    simp only [LinkRx.arrival]
    split
    · exact ⟨rfl, rfl, rfl, rfl, rfl⟩
    · exact ⟨rfl, rfl, rfl, rfl, rfl⟩
    · exact write _ f
  | none =>
    simp only [LinkRx.arrival]
    split
    · exact ⟨rfl, rfl, rfl, rfl, rfl⟩
    · exact ⟨rfl, rfl, rfl, rfl, rfl⟩
    · split
      · exact write _ _
      · exact ⟨rfl, rfl, rfl, rfl, rfl⟩

theorem frameArrives_links (s : State) (r : Rig) (f : Option Frame) : (s.frameArrives r f).links =
    s.links.set r ((s.links.get r).arrival (s.bank.setup.pilot.get r) f).1 := by
  unfold State.frameArrives
  dsimp only
  split
  · exact (Touches.refl.applyEvidence (by decide) : Touches eventBlocks _ _).links
  · rfl

theorem frameArrives_get (s : State) (r : Rig) (f : Option Frame) : (s.frameArrives r f).links.get r =
    ((s.links.get r).arrival (s.bank.setup.pilot.get r) f).1 := by
  rw [frameArrives_links, PerRig.get_set_same]

/-- R15, R17: an arrival that overruns no store raises no evidence. -/
theorem frameArrives_noSlip {f : Option Frame} (h : ((s.links.get r).arrival (s.bank.setup.pilot.get r) f).2 = false) :
    s.frameArrives r f = s.setLink r ((s.links.get r).arrival (s.bank.setup.pilot.get r) f).1 := by
  unfold State.frameArrives
  dsimp only
  rw [h]
  rfl

@[simp] theorem setLink_get (s : State) (r : Rig) (l : LinkRx) : (s.setLink r l).links.get r = l := by simp [State.setLink]

@[simp] theorem setLink_get_other (s : State) (r : Rig) (l : LinkRx) : (s.setLink r l).links.get r.other = s.links.get r.other := by
  simp [State.setLink]

theorem setLink_setLink (s : State) (r : Rig) (l m : LinkRx) : (s.setLink r l).setLink r m = s.setLink r m := by
  simp only [State.setLink, setLinks_links, PerRig.set_set]
  rfl

/-! ### Frame windows (R9) -/

theorem not_expired (h : 2 * w.age ≤ 3 * s.nominal) : w.expired s.nominal = false := by
  simp [Window.expired]
  omega

/-- R9: the lanes have delivered to the open window, which then closes if it is old enough. -/
theorem frameArrival_open (lanes : LaneFrames) (hw : (s.links.get r).window = some w) (young : 2 * w.age ≤ 3 * s.nominal) :
    s.frameArrival r lanes =
      if (w.deliver lanes).closesAt s.nominal ≤ w.age then
        (s.setLink r { s.links.get r with window := some (w.deliver lanes) }).closeWindow r
      else s.setLink r { s.links.get r with window := some (w.deliver lanes) } := by
  simp only [State.frameArrival, hw, not_expired young, Bool.false_eq_true, if_false]
  rfl

/-- R9: an open window closes good. -/
theorem closeWindow_good (hw : (s.links.get r).window = some w) (h : ∀ k, w.delivered.get k = true) :
    s.closeWindow r = (s.setLink r { s.links.get r with window := none }).frameArrives r (some (gather w.frames)) := by
  rw [State.closeWindow_some hw, if_pos (by simpa [allLanes] using h)]

/-- R9: an open window closes bad for each lane it lacks. -/
theorem closeWindow_bad (hw : (s.links.get r).window = some w) (h : ∃ k, w.delivered.get k = false) :
    s.closeWindow r = s.closeBad r (lanesNot w.delivered) := by
  rw [State.closeWindow_some hw, if_neg (by simpa [allLanes] using h)]

theorem deliver_delivered (lanes : LaneFrames) (k : Fin 4) : (w.deliver lanes).delivered.get k = true ↔
    w.marked.get k = true ∧ ((lanes.get k).isSome = true ∨ (w.frames.get k).isSome = true) := by
  rw [Window.delivered, Table.get_tab, Window.deliver_frames, show (w.deliver lanes).marked = w.marked from rfl]
  cases w.marked.get k <;> cases lanes.get k <;> simp

theorem deliver_owes (lanes : LaneFrames) : (w.deliver lanes).owes = true ↔ ∃ k, w.marked.get k = true ∧
    ¬ (w.marked.get k = true ∧ ((lanes.get k).isSome = true ∨ (w.frames.get k).isSome = true)) := by
  simp only [← deliver_delivered, Window.owes, List.any_eq_true, List.mem_finRange, true_and, Window.delivered, Table.get_tab]
  refine exists_congr fun k => ?_
  rw [show (w.deliver lanes).marked = w.marked from rfl]
  cases w.marked.get k <;> simp

/-- R3: a nominal period is a whole number of quarters of it. -/
theorem nominal_quarters (s : State) : ∃ n, s.nominal = 4 * n := by
  unfold State.nominal ShowSetup.nominal
  split
  · exact ⟨2048, rfl⟩
  · exact ⟨1024, rfl⟩

/-! ### A good frame -/

theorem exec_frameArrival (s : State) (dt : Nat) (r : Rig) (lanes : LaneFrames) :
    exec (.frameArrival dt r lanes) s = .next ((s.prepare.elapse dt).frameArrival r lanes) := rfl

/-- R9: four lanes that deliver to a window old enough are a good frame. -/
theorem frameArrival_good (lanes : LaneFrames) (hw : (s.links.get r).window = some w) (old : s.nominal ≤ 4 * w.age) (young : 2 * w.age ≤ 3 * s.nominal)
    (all : ∀ k, w.marked.get k = true ∧ (lanes.get k).isSome = true) : s.frameArrival r lanes =
      (s.setLink r { s.links.get r with window := none }).frameArrives r (some (gather lanes)) := by
  have delivered : ∀ k, (w.deliver lanes).delivered.get k = true := fun k => (deliver_delivered lanes k).mpr ⟨(all k).1, .inl (all k).2⟩
  have frames : (w.deliver lanes).frames = lanes := Table.ext_get fun k => by
    obtain ⟨marked, some_lane⟩ := all k
    obtain ⟨x, hx⟩ := Option.isSome_iff_exists.mp some_lane
    rw [Window.deliver_frames, if_pos marked, hx]
    rfl
  have settled : (w.deliver lanes).owes = false := by
    rw [Bool.eq_false_iff, Ne, deliver_owes]
    rintro ⟨k, marked, missing⟩
    exact missing ⟨marked, .inl (all k).2⟩
  rw [frameArrival_open lanes hw young, if_pos (by rw [Window.closesAt, settled]; simp only [Bool.false_eq_true, if_false]; omega),
    closeWindow_good (w := w.deliver lanes) (by rw [setLink_get]) delivered, frames, setLink_get, setLink_setLink]

/-- R9: word `k` of a lane is the slot 16 times the lane and `k` of the link frame. -/
theorem gather_get {lane : Fin 4} {words : Table 16 SlotWord} (h : lanes.get lane = some words) (k : Fin 16) :
    (gather lanes).get ⟨16 * lane.val + k.val, by omega⟩ = (words.get k).setWidth 24 := by
  have hl : (⟨(16 * lane.val + k.val) / 16, by omega⟩ : Fin 4) = lane := Fin.ext (by simp only []; omega)
  have hk : (⟨(16 * lane.val + k.val) % 16, by omega⟩ : Fin 16) = k := Fin.ext (by simp)
  simp only [gather, Table.get_tab, slotOf, hl, h, hk]

/-- Settles O36: the window is judged good, and the frame is taken by link state. -/
theorem goodFrameArrival : Obligations.GoodFrameArrival := by
  intro s dt r lanes w m l f hw old young all
  refine ⟨m.frameArrival r lanes, exec_frameArrival s dt r lanes, ?_⟩
  clear_value m
  rw [frameArrival_good lanes hw old young all]
  generalize hv : m.setLink r { m.links.get r with window := none } = v
  have link : v.links.get r = { l with window := none } := by rw [← hv, setLink_get]
  have moved : Touches [.links] m v := by rw [← hv]; exact Touches.refl.setLink (by decide)
  obtain ⟨window, -, -, errors, -⟩ := LinkRx.arrival_keeps (l := v.links.get r) (pilot := v.bank.setup.pilot.get r) (some f)
  rw [frameArrives_get, window, errors, link]
  refine ⟨rfl, rfl, fun acquiring => ?_, fun locked short => ?_, fun locked full => ?_, fun lane k words hlane => gather_get hlane k⟩
  · have arrives := LinkRx.arrival_acquiring (l := v.links.get r) (pilot := v.bank.setup.pilot.get r) (some f) (by rw [link]; exact acquiring)
    rw [frameArrives_noSlip (by rw [arrives]), ← link, arrives, link]
    exact ⟨moved.setLink (by decide), rfl, rfl⟩
  · have arrives := (LinkRx.arrival_good (l := v.links.get r) (pilot := v.bank.setup.pilot.get r) f (by rw [link]; exact locked)).trans
      (LinkRx.write_short f (by rw [link]; exact short))
    rw [frameArrives_noSlip (by rw [arrives]), ← link, arrives, link]
    exact ⟨moved.setLink (by decide), rfl, rfl, rfl⟩
  · have arrives := (LinkRx.arrival_good (l := v.links.get r) (pilot := v.bank.setup.pilot.get r) f (by rw [link]; exact locked)).trans
      (LinkRx.write_full f (by rw [link]; exact full))
    rw [← link, arrives, link]
    exact ⟨rfl, rfl, rfl⟩

/-! ### Bad frames -/

theorem exec_missingFrame (s : State) (r : Rig) : exec (.missingFrame r) s = .next (s.prepare.takeMissingFrame r) := rfl

theorem countErrors_of_present (h : l.state ≠ .absent) (bad : Table 4 Bool) : l.countErrors bad =
    { l with laneErrors := l.laneErrors.update fun i n => if bad.get i then n + 1 else n } := if_neg h

/-- R10: a missing frame that is due. -/
theorem takeMissingFrame_due (h : (s.links.get r).state ≠ .absent) (due : 2 ≤ (s.links.get r).sinceWindow) :
    s.takeMissingFrame r = (s.setLink r
      (({ s.links.get r with sinceWindow := 0 } : LinkRx).countErrors (Table.fill 4 true))).frameArrives r none := if_pos ⟨h, due⟩

/-- What a bad frame makes of a link by its state: the acquisition cleared, the first in a row concealed, the second counted. -/
theorem frameArrives_bad (s : State) (r : Rig) :
    let l := s.links.get r
    let t := s.frameArrives r none
    (l.state = .acquiring → t = s.setLink r { l with acquisition := 0, kept := [] }) ∧
    (l.state = .locked → l.badFrames = 0 → l.store.length < 8 → ∀ f, l.lastWritten = some f → t = s.setLink r { l with
      badFrames := 1, store := l.store ++ [f.set (s.bank.setup.pilot.get r) 0], lastWritten := some (f.set (s.bank.setup.pilot.get r) 0) }) ∧
    (l.state = .locked → l.badFrames ≠ 0 → t = s.setLink r { l with badFrames := 2 }) := by
  intro l t
  refine ⟨fun acquiring => ?_, fun locked first short f hf => ?_, fun locked second => ?_⟩
  · have arrives := LinkRx.arrival_acquiring (pilot := s.bank.setup.pilot.get r) none acquiring
    exact (frameArrives_noSlip (by rw [arrives])).trans (by rw [arrives])
  · have arrives := (LinkRx.arrival_firstBad (pilot := s.bank.setup.pilot.get r) locked first hf).trans
      (LinkRx.write_short _ (by exact short))
    exact (frameArrives_noSlip (by rw [arrives])).trans (by rw [arrives])
  · have arrives := LinkRx.arrival_secondBad (pilot := s.bank.setup.pilot.get r) locked second
    exact (frameArrives_noSlip (by rw [arrives])).trans (by rw [arrives])

/-- R9: a window closes bad. -/
theorem closeBad_link (s : State) (r : Rig) (bad : Table 4 Bool) (h : (s.links.get r).state ≠ .absent) :
    s.closeBad r bad = (s.setLink r { s.links.get r with
      window := none
      laneErrors := (s.links.get r).laneErrors.update fun i n => if bad.get i then n + 1 else n }).frameArrives r none := by
  rw [State.closeBad, countErrors_of_present (by exact h)]

/-- Settles O37: a missing frame and a window that closes bad are bad frames taken by link state; a window that does not close
keeps what it was given. -/
theorem badFrames : Obligations.BadFrames := by
  refine ⟨fun s r => ?missing, fun s dt r lanes none => ?closed, fun s dt r lanes w => ?delivery⟩
  case missing =>
    intro p l present due
    refine ⟨p.takeMissingFrame r, exec_missingFrame s r, ?_⟩
    clear_value p
    rw [takeMissingFrame_due present due, countErrors_of_present (by exact present)]
    generalize hm : ({ p.links.get r with
      sinceWindow := 0
      laneErrors := (p.links.get r).laneErrors.update fun i n => if (Table.fill 4 true).get i then n + 1 else n } : LinkRx) = m
    generalize hv : p.setLink r m = v
    have link : v.links.get r = m := by rw [← hv, setLink_get]
    have moved : Touches [.links] p v := by rw [← hv]; exact Touches.refl.setLink (by decide)
    obtain ⟨acquiring, first, second⟩ := frameArrives_bad v r
    obtain ⟨-, watch, -, errors, -⟩ := LinkRx.arrival_keeps (l := v.links.get r) (pilot := v.bank.setup.pilot.get r) none
    refine ⟨?_, fun k => ?_, fun hs => ?_, fun hs hb short f hf => ?_, fun hs hb => ?_⟩
    · rw [frameArrives_get, watch, link, ← hm]
    · rw [frameArrives_get, errors, link, ← hm]
      simp only [Table.get_update, Table.get_fill, if_true]
      rfl
    · rw [acquiring (by rw [link, ← hm]; exact hs), setLink_get]
      exact ⟨moved.setLink (by decide), rfl, rfl⟩
    · rw [first (by rw [link, ← hm]; exact hs) (by rw [link, ← hm]; exact hb) (by rw [link, ← hm]; exact short) f
        (by rw [link, ← hm]; exact hf), setLink_get, link, moved.bank, ← hm]
      exact ⟨moved.setLink (by decide), rfl, rfl⟩
    · rw [second (by rw [link, ← hm]; exact hs) (by rw [link, ← hm]; exact hb), setLink_get, link, ← hm]
      exact ⟨moved.setLink (by decide), rfl, rfl⟩
  case closed => rw [exec_frameArrival, (State.frameArrival_no_window lanes none).1]
  case delivery =>
    intro m l delivered owed hw young
    refine ⟨m.frameArrival r lanes, exec_frameArrival s dt r lanes, ?_⟩
    clear_value m
    obtain ⟨quarter, nominal⟩ := nominal_quarters m
    have owes : (w.deliver lanes).owes = true ↔ owed := deliver_owes lanes
    rw [frameArrival_open lanes hw young]
    refine ⟨fun stays => ?_, fun old settled lacking present => ?_⟩
    · have wait : ¬ (w.deliver lanes).closesAt m.nominal ≤ w.age := by
        unfold Window.closesAt
        split
        · rcases stays with stays | ⟨-, stays⟩ <;> omega
        · rename_i hn
          rcases stays with stays | ⟨stays, -⟩
          · omega
          · exact absurd (owes.mpr stays) hn
      rw [if_neg wait, setLink_get, setLink_get_other]
      refine ⟨Touches.refl.setLink (by decide), rfl, rfl, _, rfl, rfl, rfl, fun k => ?_⟩
      rw [Window.deliver_frames]
      cases w.marked.get k <;> cases lanes.get k <;> simp
    · have closes : (w.deliver lanes).closesAt m.nominal ≤ w.age := by
        unfold Window.closesAt
        split
        · rename_i hn
          rcases settled with settled | settled
          · exact absurd (owes.mp hn) settled
          · omega
        · omega
      obtain ⟨k, lacks⟩ := lacking
      rw [if_pos closes, closeWindow_bad (w := w.deliver lanes) (by rw [setLink_get])
        ⟨k, Bool.eq_false_iff.mpr (mt (deliver_delivered lanes k).mp lacks)⟩, closeBad_link _ r _ (by rw [setLink_get]; exact present),
        setLink_get, setLink_setLink]
      generalize hv : m.setLink r _ = v
      have link : v.links.get r = { m.links.get r with
          window := none
          laneErrors := (m.links.get r).laneErrors.update fun i n =>
            if (lanesNot (w.deliver lanes).delivered).get i then n + 1 else n } := by rw [← hv, setLink_get]
      obtain ⟨acquiring, -, second⟩ := frameArrives_bad v r
      obtain ⟨window, -, -, errors, -⟩ := LinkRx.arrival_keeps (l := v.links.get r) (pilot := v.bank.setup.pilot.get r) none
      refine ⟨?_, fun k => ?_, fun hs => ?_, fun hs hb => ?_⟩
      · rw [frameArrives_get, window, link]
      · rw [frameArrives_get, errors, link]
        simp only [Table.get_update, lanesNot, Table.get_map]
        refine ⟨fun has => ?_, fun lacks => ?_⟩
        · rw [(deliver_delivered lanes k).mpr has]; rfl
        · rw [Bool.eq_false_iff.mpr (mt (deliver_delivered lanes k).mp lacks)]; rfl
      · rw [acquiring (by rw [link]; exact hs), setLink_get]
        exact ⟨rfl, rfl⟩
      · rw [second (by rw [link]; exact hs) (by rw [link]; exact hb), setLink_get]

end Sys2Proof.Machine

/-! PROOFS. A lane frame marker and its window (R9), lock gained and lost (R11, R12), an absent link (R13) and a beacon that fails a
check (R26): what is due of a link, what an OFFLINE rig keeps, and what evidence leaves of a rig. -/

namespace Sys2Proof.Machine

open Sys2Proof

/- In order: bodies elaborated side by side while the kernel still checks the text above each hold a thread's stack. -/
set_option Elab.async false

variable {s t u : State} {r q : Rig} {k : Fin 11} {h : Health} {f : Table 11 FaultEntry} {kinds : KindSet} {time : Nat} {w : Window}

/-! ### OFFLINE under the moves of a health state (R49, R52, R54) -/

/-- R49: while OFFLINE no evidence is evaluated. -/
theorem Health.evidence_offline (hs : h.state = .offline) : h.evidence f time kinds = h := if_pos hs

/-- R49: no evidence takes a rig OFFLINE. -/
theorem Health.evidence_online (hs : h.state ≠ .offline) : (h.evidence f time kinds).state ≠ .offline := by
  have restored : (h.restored time).state ≠ .offline := by
    unfold Health.restored
    split
    · simp
    · exact hs
  unfold Health.evidence
  rw [if_neg hs]
  dsimp only
  split
  · have same : (Health.restored { h with flags := h.flags.union kinds } time).state = (h.restored time).state := by
      unfold Health.restored Health.restoreDue
      dsimp only
      split <;> rfl
    split
    · rename_i off
      exact absurd (same.symm.trans off) restored
    · split <;> simp [Health.fail]
    · split <;> simp_all [Health.fail]
    · split <;> simp_all [Health.relapseWith]
    · simp [Health.relapse, Health.relapseWith, Health.fail]
  · exact hs

theorem Health.settleDue_offline (hs : h.state = .offline) : (h.settleDue f time).state = .offline := by
  have settled : (h.settleQualifying f).state = .offline := by
    unfold Health.settleQualifying
    split
    · simp [Health.qualify, hs]
    · exact hs
  rw [Health.settleDue, Health.restored, if_neg (by simp [Health.restoreDue, settled])]
  exact settled

theorem Health.settleDue_online (hs : h.state ≠ .offline) : (h.settleDue f time).state ≠ .offline := by
  have settled : (h.settleQualifying f).state ≠ .offline := by
    unfold Health.settleQualifying
    split
    · unfold Health.qualify
      split <;> simp_all [Health.fail, Health.relapse, Health.relapseWith]
    · exact hs
  unfold Health.settleDue Health.restored
  split
  · simp
  · exact settled

/-! ### What evidence leaves with no exchange pending -/

/-- From `s` to `t` the banks and the links stand, and each rig that is OFFLINE, as it was but for what the view notes of the events
of the tick; no rig goes OFFLINE. -/
structure Evidenced (s t : State) : Prop where
  bank : t.bank = s.bank
  links : t.links = s.links
  offline : ∀ r, (s.health.get r).state = .offline → ∃ e, t.health.get r = { s.health.get r with events := e }
  online : ∀ r, (s.health.get r).state ≠ .offline → (t.health.get r).state ≠ .offline

theorem Evidenced.refl (s : State) : Evidenced s s := ⟨rfl, rfl, fun _ _ => ⟨_, rfl⟩, fun _ => id⟩

theorem Evidenced.trans (a : Evidenced s t) (b : Evidenced t u) : Evidenced s u := by
  refine ⟨b.bank.trans a.bank, b.links.trans a.links, fun r off => ?_, fun r on => b.online r (a.online r on)⟩
  obtain ⟨e, he⟩ := a.offline r off
  obtain ⟨d, hd⟩ := b.offline r (by rw [he]; exact off)
  exact ⟨d, by rw [hd, he]⟩

theorem Evidenced.frame {bs : List Block} (a : Evidenced s t) (b : Touches bs t u) (bank : Block.bank ∉ bs := by decide)
    (links : Block.links ∉ bs := by decide) (health : Block.health ∉ bs := by decide) : Evidenced s u :=
  a.trans ⟨b.bank bank, b.links links, fun r _ => ⟨_, by rw [b.health health]⟩, fun r on => by rw [b.health health]; exact on⟩

theorem Evidenced.ite {p : Prop} [Decidable p] {v : State} (hu : p → Evidenced s u) (hv : ¬ p → Evidenced s v) :
    Evidenced s (if p then u else v) := by
  split
  · exact hu ‹_›
  · exact hv ‹_›

theorem Evidenced.noteEvidence (a : Evidenced s t) (r : Rig) (kinds : KindSet) : Evidenced s (t.noteEvidence r kinds) := by
  have touched : Touches [.health] t (t.noteEvidence r kinds) := Touches.refl.noteEvidence (by decide)
  have health := t.moveHealth_health r fun h =>
    { h with events := h.events.union (KindSet.filter kinds eventKind) }.evidence t.bank.front.fault t.restoreTime kinds
  refine a.trans ⟨touched.bank, touched.links, fun q off => ?_, fun q on => ?_⟩
  · rw [State.noteEvidence, health, PerRig.get_set]
    split
    · rename_i same
      subst same
      exact ⟨_, Health.evidence_offline off⟩
    · exact ⟨_, rfl⟩
  · rw [State.noteEvidence, health, PerRig.get_set]
    split
    · rename_i same
      subst same
      exact Health.evidence_online on
    · exact on

theorem Evidenced.reDivergedBy (a : Evidenced s t) (r : Rig) (x : HealthState) : Evidenced s (t.reDivergedBy r x) := by
  have set : ∀ b, Evidenced s (t.setParser r { t.parsers.get r with diverged := b }) := fun b =>
    a.frame (bs := [.parsers]) (Touches.refl.setParser (by decide))
  exact .ite (fun _ => a) fun _ => .ite (fun _ => (set _).noteEvidence r _) fun _ => set _

theorem Evidenced.setHanding (a : Evidenced s t) (r : Rig) (x : Handing) : Evidenced s (t.setHanding r x) :=
  a.trans ⟨rfl, rfl, fun _ _ => ⟨_, rfl⟩, fun _ => id⟩

theorem Evidenced.run (a : Evidenced s t) (none : s.bank.exchange = none) : Evidenced s t.run :=
  a.frame (touches_run_of_no_exchange (by rw [a.bank]; exact none))

theorem Evidenced.takeHealth (a : Evidenced s t) (none : s.bank.exchange = none) (r : Rig) (x : Handing) :
    Evidenced s (t.takeHealthWith State.run r x) := by
  have handed := a.frame (bs := [.arbiter]) (Touches.refl.reEligible (by decide))
  refine Evidenced.run ?_ none
  exact .ite (fun _ => handed.frame (bs := changeBlocks) (Touches.refl.goesDown (by decide))) fun _ => .ite
    (fun _ => handed.frame (bs := changeBlocks) (Touches.refl.comesUp (by decide))) fun _ => handed

theorem Evidenced.handOne (a : Evidenced s t) (none : s.bank.exchange = none) (r : Rig) :
    Evidenced s (t.handOneWith State.run r) :=
  .ite (fun _ => a) fun _ => Evidenced.takeHealth ((((a.setHanding r _).frame (bs := [.ports])
    (Touches.refl.raiseAll (by decide))).reDivergedBy r.other _)) none r _

theorem Evidenced.handHealth (a : Evidenced s t) (none : s.bank.exchange = none) (r : Rig) : Evidenced s (t.handHealth r) :=
  .ite (fun _ => a) fun _ => .ite (fun _ => a.handOne none r) fun _ => (a.handOne none r).handOne none _

theorem Evidenced.applyEvidence (a : Evidenced s t) (none : s.bank.exchange = none) (r : Rig) (kinds : KindSet) :
    Evidenced s (t.applyEvidence r kinds) := by
  have taken : Evidenced s (t.takeEvidence r kinds) := .ite (fun _ => a.noteEvidence r kinds) fun _ => a
  exact .ite (fun _ => taken) fun _ => taken.handHealth none r

/-! ### What evidence leaves of its own rig -/

/-- R40: evidence of a rig that is not OFFLINE sets its flag. -/
theorem noteEvidence_flag (on : (s.health.get r).state ≠ .offline) (hk : kinds.get k = true) :
    ((s.noteEvidence r kinds).health.get r).flags.get k = true := by
  rw [State.noteEvidence, State.moveHealth_health, PerRig.get_set_same, Health.evidence_flags (by exact on), KindSet.get_union, hk,
    Bool.or_true]

/-- R45: a rig that a restart of the monitors would leave OFFLINE while it is not rests on what they decided. -/
theorem guardHeld_of_offline {v : PerRig Unguarded} (hv : s.instantHealth.unguarded = some v)
    (off : (v.get r).health.state = .offline) (on : (s.health.get r).state ≠ .offline) : s.guardHeld r = true := by
  simp only [State.guardHeld, hv, Health.settleDue_offline off, bne_iff_ne, ne_eq]
  exact fun same => Health.settleDue_online on same.symm

theorem unsettled_of_guardHeld (held : s.guardHeld r = true) (on : (s.health.get r).state ≠ .offline) : s.unsettled r = true := by
  unfold State.unsettled
  dsimp only
  split
  · exact absurd ‹_› on
  all_goals simp [held]

/-- R40: evidence with everything that follows from it at the instant leaves the flags of its kinds set, also where an exchange
taken at the instant restarts the monitors. -/
theorem applyEvidence_flag (on : (s.health.get r).state ≠ .offline) (hk : kinds.get k = true) :
    ((s.applyEvidence r kinds).health.get r).flags.get k = true := by
  have flag := noteEvidence_flag on hk
  have online := ((Evidenced.refl s).noteEvidence r kinds).online r on
  rw [State.applyEvidence, State.applyEvidenceWith, State.takeEvidence, if_pos (KindSet.nonempty_iff.mpr ⟨k, hk⟩)]
  by_cases undone : ∃ v, (s.noteEvidence r kinds).instantHealth.unguarded = some v ∧ (v.get r).health.state = .offline
  · obtain ⟨v, hv, off⟩ := undone
    rw [State.handSettledWith, if_pos (unsettled_of_guardHeld (guardHeld_of_offline hv off online) online)]
    exact flag
  · refine (((Carried.refl (s.noteEvidence r kinds)).handSettledWith carried_run r).flags r k ⟨flag, .inr fun v hv => ?_⟩).1
    cases old : s.instantHealth.unguarded with
    | none =>
      rw [State.noteEvidence, State.moveHealth_of_none _ old] at hv
      exact absurd (hv.symm.trans old) (by simp)
    | some x =>
      have moved : v.get r = { x.get r with health := Health.evidence { (x.get r).health with
          events := (x.get r).health.events.union (KindSet.filter kinds eventKind) } s.bank.front.fault s.restoreTime kinds } := by
        have := hv
        simp only [State.noteEvidence, State.moveHealth, State.moveHealthBy, State.setRigHealth, setHealth_instantHealth, old] at this
        rw [← Option.some.inj this, PerRig.get_set_same]
      have on' : (x.get r).health.state ≠ .offline := fun off => undone ⟨v, hv, by
        rw [moved, Health.evidence_offline (by exact off)]; exact off⟩
      rw [moved, Health.evidence_flags (by exact on'), KindSet.get_union, hk, Bool.or_true]

/-- Evidence with everything that follows from it leaves each parser but for DIVERGED. -/
theorem carried_applyEvidence (s : State) (r : Rig) (kinds : KindSet) : Carried s (s.applyEvidence r kinds) := by
  have taken : Carried s (s.takeEvidence r kinds) := .ite (fun _ => (Carried.refl s).noteEvidence r kinds) fun _ => .refl s
  exact taken.handSettledWith carried_run r

/-! ### Lock gained and lost (R11, R12) -/

theorem exec_lockGained (s : State) (r : Rig) : exec (.lockGained r) s = .next (s.takeLockGained r) := rfl

theorem exec_lockLost (s : State) (r : Rig) : exec (.lockLost r) s = .next (s.takeLockLost r) := rfl

/-- R11: a lock that is due is gained. -/
theorem takeLockGained_due (acquiring : (s.links.get r).state = .acquiring) (full : 64 ≤ (s.links.get r).acquisition) :
    s.takeLockGained r = ((s.setLink r { s.links.get r with
        state := .locked, store := (s.links.get r).kept, lastWritten := (s.links.get r).kept.getLast?, badFrames := 0,
        acquisition := 0, kept := [] }).setParser r { (s.parsers.get r).setAge (some 0) with missing := false }).reEligible.run :=
  if_pos ⟨acquiring, full⟩

/-- R12: a lock that is due is lost. -/
theorem takeLockLost_due (locked : (s.links.get r).state = .locked) (bad : 2 ≤ (s.links.get r).badFrames) :
    s.takeLockLost r = (((((s.judgeBeacon r []).setLink r { s.links.get r with
      state := .acquiring, store := [], acquisition := 0, kept := [], badFrames := 0 }).silentAbandon r).recordAbsent
        r).reEligible.run).applyEvidence r (oneKind .link) :=
  if_pos ⟨locked, bad⟩

theorem judgeBeacon_of_none {order : List BeaconReader} (h : (s.parsers.get r).judging = none) : s.judgeBeacon r order = s := by
  simp only [State.judgeBeacon, h]

theorem recordAbsent_carried (s : State) (r : Rig) :
    Carried (s.setParser r { s.parsers.get r with record := none, selfFault := false }) (s.recordAbsent r) :=
  ((Carried.refl _).frame (bs := [.guards]) (Touches.refl.setGuard (by decide))).reDivergedBy r _ |>.reDivergedBy r.other _

theorem recordAbsent_evidenced (s : State) (r : Rig) : Evidenced s (s.recordAbsent r) :=
  (((Evidenced.refl s).frame (bs := [.parsers]) (Touches.refl.setParser (by decide))).frame (bs := [.guards])
    (Touches.refl.setGuard (by decide))).reDivergedBy r _ |>.reDivergedBy r.other _

/-- R17: a link that is not LOCKED makes LINK present. -/
theorem conditions_link (h : (s.links.get r).state ≠ .locked) : (s.conditions r).get FaultKind.link.idx = true := by
  simpa [State.conditions] using h

/-- Settles O38: the link is set, and what follows at the instant leaves it and the parser's items. -/
theorem lockGainedAndLost : Obligations.LockGainedAndLost := by
  refine ⟨fun s r => ?gained, fun s r => ?lost⟩
  case gained =>
    intro l acquiring full
    refine ⟨s.takeLockGained r, exec_lockGained s r, ?_⟩
    rw [takeLockGained_due acquiring full]
    generalize hv : s.setLink r _ = v
    generalize hu : v.setParser r _ = u
    have links : u.reEligible.run.links = v.links := by
      rw [(Touches.refl.run (by decide) : Touches eventBlocks u.reEligible _).links,
        (Touches.refl.reEligible (by decide) : Touches [.arbiter] u _).links, ← hu]
      rfl
    have carried : Carried u u.reEligible.run :=
      ((Carried.refl u).frame (bs := [.arbiter]) (Touches.refl.reEligible (by decide))).trans (carried_run _)
    have parser : u.parsers.get r = { (s.parsers.get r).setAge (some 0) with missing := false } := by
      rw [← hu, State.setParser, setParsers_parsers, PerRig.get_set_same]
    rw [links, carried.parsers r, parser, ← hv, setLink_get, setLink_get_other]
    exact ⟨rfl, rfl, rfl, rfl, rfl, rfl, rfl⟩
  case lost =>
    intro l locked bad judging none
    refine ⟨s.takeLockLost r, exec_lockLost s r, ?_⟩
    rw [takeLockLost_due locked bad, judgeBeacon_of_none judging]
    generalize hv : s.setLink r _ = v
    generalize hu : v.silentAbandon r = u
    generalize hx : (u.recordAbsent r).reEligible.run = x
    have abandoned : Evidenced v u := by rw [← hu]; exact (Evidenced.refl v).frame (bs := [.parsers]) (Touches.refl.silentAbandon (by decide))
    have bank : v.bank.exchange = .none := by rw [← hv]; exact none
    have absent : Evidenced v x := by
      rw [← hx]
      exact ((abandoned.trans (recordAbsent_evidenced u r)).frame (bs := [.arbiter]) (Touches.refl.reEligible (by decide))).run bank
    have judged := absent.applyEvidence bank r (oneKind .link)
    have carried : Carried (u.setParser r { u.parsers.get r with record := .none, selfFault := false }) (x.applyEvidence r (oneKind .link)) := by
      refine Carried.trans ?_ (carried_applyEvidence x r _)
      rw [← hx]
      exact ((recordAbsent_carried u r).frame (bs := [.arbiter]) (Touches.refl.reEligible (by decide))).trans (carried_run _)
    have parser : u.parsers.get r = { s.parsers.get r with assembly := .waiting, judging := .none } := by
      rw [← hu, State.silentAbandon, State.setParser, setParsers_parsers, PerRig.get_set_same, ← hv]
      rfl
    have link : v.links.get r = { l with state := .acquiring, store := [], acquisition := 0, kept := [], badFrames := 0 } := by
      rw [← hv, setLink_get]
    have other : v.links.get r.other = s.links.get r.other := by rw [← hv, setLink_get_other]
    rw [judged.links, carried.parsers r, State.setParser, setParsers_parsers, PerRig.get_set_same, parser]
    refine ⟨link, other, rfl, rfl, rfl, rfl, conditions_link ?_, fun on => applyEvidence_flag (absent.online r ?_) rfl⟩
    · rw [judged.links, link]
      exact LinkState.noConfusion
    · rw [← hv]
      exact on

/-! ### An absent link (R13) -/

theorem exec_linkAbsent (s : State) (r : Rig) : exec (.linkAbsent r) s = .next (s.prepare.takeLinkAbsent r) := rfl

/-- R13: an absence that is due is taken. -/
theorem takeLinkAbsent_due (present : (s.links.get r).state ≠ .absent) (silent : 4096 ≤ (s.links.get r).sinceMarker) :
    ∃ u x y : State, u = ((((s.judgeBeacon r []).setLink r { s.links.get r with
        state := .absent, store := [], acquisition := 0, kept := [], badFrames := 0, sinceWindow := 0,
        sinceMarker := 0 }).moveHealth r Health.goOffline).silentAbandon r).recordAbsent r ∧
      x = u.setParser r ((u.parsers.get r).setAge none) ∧
      y = (if (x.parsers.get r).missing then x else x.missingBegins r) ∧ s.takeLinkAbsent r = (y.handHealth r).reEligible.run :=
  ⟨_, _, _, rfl, rfl, rfl, if_pos ⟨present, silent⟩⟩

theorem missingBegins_carried (s : State) (r : Rig) :
    Carried (s.setParser r { s.parsers.get r with missing := true }) (s.missingBegins r) := by
  have set := Carried.refl (s.setParser r { s.parsers.get r with missing := true })
  exact (Carried.ite (fun _ => set.frame (bs := [.showClock, .tcOutput]) (Touches.refl.enterFreewheel (by decide)))
    fun _ => set).trans (carried_applyEvidence _ r _)

theorem Evidenced.missingBegins (a : Evidenced s t) (none : s.bank.exchange = none) (r : Rig) : Evidenced s (t.missingBegins r) := by
  have set := a.frame (bs := [.parsers]) (Touches.refl.setParser (r := r) (x := { t.parsers.get r with missing := true }) (by decide))
  exact Evidenced.applyEvidence (.ite (fun _ => set.frame (bs := [.showClock, .tcOutput]) (Touches.refl.enterFreewheel (by decide)))
    fun _ => set) none r _

/-- Settles O39: the rig is OFFLINE before anything follows, and what follows leaves an OFFLINE rig, the link and the parser's
items. -/
theorem linkAbsentTakesRigOffline : Obligations.LinkAbsentTakesRigOffline := by
  intro s r p l present silent judging none
  refine ⟨p.takeLinkAbsent r, exec_linkAbsent s r, ?_⟩
  clear_value p
  obtain ⟨u, x, y, hu, hx, hy, taken⟩ := takeLinkAbsent_due present silent
  rw [judgeBeacon_of_none judging] at hu
  rw [taken]
  generalize hv : (p.setLink r _).moveHealth r _ = v at hu
  have moved : v.links = p.links.set r { l with
      state := .absent, store := [], acquisition := 0, kept := [], badFrames := 0, sinceWindow := 0, sinceMarker := 0 } := by
    rw [← hv, (Touches.refl.moveHealth (by decide) : Touches [.health] _ _).links]
    rfl
  have health : v.health.get r = (p.health.get r).goOffline := by
    rw [← hv, State.moveHealth_health, PerRig.get_set_same]
    rfl
  have bank : v.bank.exchange = .none := by
    rw [← hv, (Touches.refl.moveHealth (by decide) : Touches [.health] _ _).bank]
    exact none
  have absent : Evidenced v u := by
    rw [hu]
    exact ((Evidenced.refl v).frame (bs := [.parsers]) (Touches.refl.silentAbandon (by decide))).trans (recordAbsent_evidenced _ r)
  have aged : Evidenced v x := by rw [hx]; exact absent.frame (bs := [.parsers]) (Touches.refl.setParser (by decide))
  have missing : Evidenced v y := by rw [hy]; exact .ite (fun _ => aged) fun _ => aged.missingBegins bank r
  have ended := ((missing.handHealth bank r).frame (bs := [.arbiter]) (Touches.refl.reEligible (by decide))).run bank
  obtain ⟨e, offline⟩ := ended.offline r (by rw [health]; rfl)
  have record : (u.parsers.get r).record = .none := by
    rw [hu, (recordAbsent_carried _ r).parsers r, State.setParser, setParsers_parsers, PerRig.get_set_same]
  have parser : x.parsers.get r = (u.parsers.get r).setAge .none := by
    rw [hx, State.setParser, setParsers_parsers, PerRig.get_set_same]
  have begun : (y.parsers.get r).record = .none ∧ (y.parsers.get r).age = .none ∧ (y.parsers.get r).missing = true := by
    rw [hy]
    split
    · rename_i already
      exact ⟨by rw [parser]; exact record, by rw [parser]; rfl, already⟩
    · rw [(missingBegins_carried x r).parsers r, State.setParser, setParsers_parsers, PerRig.get_set_same, parser]
      exact ⟨record, rfl, rfl⟩
  have carried : Carried y (y.handHealth r).reEligible.run :=
    (((Carried.refl y).handHealthWith carried_run r).frame (bs := [.arbiter]) (Touches.refl.reEligible (by decide))).trans (carried_run _)
  rw [ended.links, moved, PerRig.get_set_same, carried.parsers r, offline, health]
  exact ⟨rfl, rfl, rfl, rfl, begun.1, begun.2.1, begun.2.2, rfl, rfl, rfl, rfl, rfl, rfl⟩

/-! ### A beacon that fails a check (R26) -/

theorem exec_beaconComplete (s : State) (r : Rig) (order : List BeaconReader) :
    exec (.beaconComplete r order) s = .next (s.prepare.judgeBeacon r order) := rfl

/-- R26: the integrity of a beacon in terms of its bytes. -/
theorem integrityOk_iff (bytes : List Byte) : integrityOk bytes = true ↔
    ¬ (beaconByte bytes 0 ≠ 0x7E ∨ beaconByte bytes 1 ≠ 0x81 ∨ crc16 (bytes.take 14) ≠ beaconByte bytes 14 ++ beaconByte bytes 15 ∨
      2 < (beaconByte bytes 4).toNat) := by
  have crc : (crc16 (bytes.take 14) = BitVec.ofNat 16 (nat16 (beaconByte bytes 14) (beaconByte bytes 15))) ↔
      crc16 (bytes.take 14) = beaconByte bytes 14 ++ beaconByte bytes 15 := by
    rw [← toNat_append_bytes, BitVec.ofNat_toNat, BitVec.setWidth_eq]
  have transport : (transportOf (beaconByte bytes 4)).isSome = true ↔ (beaconByte bytes 4).toNat ≤ 2 := by
    rw [transportOf]
    split
    · rename_i h; simp [h]
    split
    · rename_i h; simp [h]
    split
    · rename_i h; simp [h]
    · simp only [Option.isSome_none, Bool.false_eq_true, false_iff]
      bv_omega
  simp only [integrityOk, Bool.and_eq_true, beq_iff_eq, crc, transport, not_or, ne_eq, not_not, Nat.not_lt, and_assoc]

/-- A beacon that a check discards with evidence of a kind. -/
theorem rejectBeacon_leaves (s : State) (r : Rig) (k : FaultKind) :
    let t := s.rejectBeacon r k
    (t.parsers.get r).judging = (s.parsers.get r).judging ∧ (t.parsers.get r).rejected = (s.parsers.get r).rejected + 1 ∧
      (t.parsers.get r).record = (s.parsers.get r).record ∧ (t.parsers.get r).valid = (s.parsers.get r).valid ∧
      (t.parsers.get r).age = (s.parsers.get r).age ∧
      ((s.health.get r).state ≠ .offline → (t.health.get r).flags.get k.idx = true) := by
  intro t
  have parser := (carried_applyEvidence (s.setParser r { s.parsers.get r with rejected := (s.parsers.get r).rejected + 1 }) r
    (oneKind k)).parsers r
  rw [State.setParser, setParsers_parsers, PerRig.get_set_same] at parser
  rw [show t.parsers.get r = _ from parser]
  exact ⟨rfl, rfl, rfl, rfl, rfl, fun on => applyEvidence_flag on (by cases k <;> rfl)⟩

/-- Settles O40: the check that fails discards the beacon with its own kind of evidence. -/
theorem beaconRejected : Obligations.BeaconRejected := by
  intro s r order j p b corrupt judging fails
  refine ⟨p.judgeBeacon r order, exec_beaconComplete s r order, ?_⟩
  clear_value p
  have integrity : integrityOk j.bytes = true ↔ ¬ corrupt := integrityOk_iff j.bytes
  generalize hv : p.setParser r { p.parsers.get r with judging := none } = v
  have parser : v.parsers.get r = { p.parsers.get r with judging := none } := by
    rw [← hv, State.setParser, setParsers_parsers, PerRig.get_set_same]
  have health : v.health = p.health := by rw [← hv]; rfl
  have judged : p.judgeBeacon r order = v.rejectBeacon r (if corrupt then .corrupt else .identity) := by
    have discards : p.judgeBeacon r order = if !integrityOk j.bytes then v.rejectBeacon r .corrupt
        else if !identityOk r j.bytes then v.rejectBeacon r .identity else v.acceptBeacon r j order := by
      rw [← hv]
      simp only [State.judgeBeacon, judging]
    rw [discards]
    by_cases hc : corrupt
    · rw [if_pos (by simpa using mt integrity.mp (not_not.mpr hc)), if_pos hc]
    · have wrong : identityOk r j.bytes = false := by simpa [identityOk] using fails.resolve_left hc
      rw [if_neg (by simp [integrity.mpr hc]), if_pos (by simp [wrong]), if_neg hc]
  obtain ⟨cleared, rejected, record, valid, age, flag⟩ := rejectBeacon_leaves v r (if corrupt then .corrupt else .identity)
  rw [parser] at cleared rejected record valid age
  rw [health] at flag
  rw [judged]
  refine ⟨cleared, rejected, record, valid, age, fun on => ⟨fun hc => ?_, fun hc => ?_⟩⟩
  · simpa only [if_pos hc] using flag on
  · simpa only [if_neg hc] using flag on

end Sys2Proof.Machine

/-! PROOFS. A lane frame marker and its frame window (R9, R10, R11, R13): what the taking of what stands due does to a link, and
the windows a marker opens, joins and closes. -/

namespace Sys2Proof.Machine

open Sys2Proof

/- In order: bodies elaborated side by side while the kernel still checks the text above each hold a thread's stack. -/
set_option Elab.async false

variable {s t u : State} {r q : Rig} {l : LinkRx} {w : Window} {lane : Fin 4} {complete bad : Table 4 Bool}

/-! ### What the taking of what stands due does to the links -/

/-- R12: a link at the taking of a lock lost that stands due. -/
def LinkRx.lost (l : LinkRx) : LinkRx :=
  if l.state = .locked ∧ 2 ≤ l.badFrames then
    { l with state := .acquiring, store := [], acquisition := 0, kept := [], badFrames := 0 }
  else l

/-- R11: a link at the taking of a lock gained that stands due. -/
def LinkRx.gained (l : LinkRx) : LinkRx :=
  if l.state = .acquiring ∧ 64 ≤ l.acquisition then
    { l with state := .locked, store := l.kept, lastWritten := l.kept.getLast?, badFrames := 0, acquisition := 0, kept := [] }
  else l

theorem takeLockLost_links (s : State) (r q : Rig) :
    (s.takeLockLost r).links.get q = if q = r then (s.links.get q).lost else s.links.get q := by
  by_cases due : (s.links.get r).state = .locked ∧ 2 ≤ (s.links.get r).badFrames
  · rw [takeLockLost_due due.1 due.2]
    have judged : Touches beaconBlocks s (s.judgeBeacon r []) := Touches.refl.judgeBeacon (by decide)
    rw [(Touches.refl.applyEvidence (by decide) : Touches eventBlocks _ _).links,
      (Touches.refl.run (by decide) : Touches eventBlocks _ _).links,
      (((Touches.refl.silentAbandon (by decide)).recordAbsent (by decide)).reEligible (by decide) :
        Touches [.parsers, .guards, .health, .arbiter] _ _).links, State.setLink, setLinks_links, judged.links, PerRig.get_set]
    split
    · rename_i same
      rw [same, LinkRx.lost, if_pos due]
    · rfl
  · rw [show s.takeLockLost r = s from if_neg due]
    split
    · rename_i same
      rw [same, LinkRx.lost, if_neg due]
    · rfl

theorem takeLockGained_links (s : State) (r q : Rig) :
    (s.takeLockGained r).links.get q = if q = r then (s.links.get q).gained else s.links.get q := by
  by_cases due : (s.links.get r).state = .acquiring ∧ 64 ≤ (s.links.get r).acquisition
  · rw [takeLockGained_due due.1 due.2, (Touches.refl.run (by decide) : Touches eventBlocks _ _).links,
      ((Touches.refl.setParser (by decide)).reEligible (by decide) : Touches [.parsers, .arbiter] _ _).links, State.setLink,
      setLinks_links, PerRig.get_set]
    split
    · rename_i same
      rw [same, LinkRx.gained, if_pos due]
    · rfl
  · rw [show s.takeLockGained r = s from if_neg due]
    split
    · rename_i same
      rw [same, LinkRx.gained, if_neg due]
    · rfl

/-- The taking of what stands due takes a lock of each link that is lost or gained, and nothing else of the links. -/
theorem resolve_links (s : State) (r : Rig) : s.resolve.links.get r = (s.links.get r).lost.gained := by
  have accepted : Touches eventBlocks s s.takeAcceptance := Touches.refl.takeAcceptance (by decide)
  have rest : ∀ v : State, Touches eventBlocks v
      (((v.settleRig .a).settleRig .b).handNew.takeAlignmentHeld.takeHoldLimit.takeFreewheelLimit) := fun v =>
    ((((((Touches.refl.settleRig (by decide)).settleRig (by decide)).handNew (by decide)).takeAlignmentHeld
      (by decide)).takeHoldLimit (by decide)).takeFreewheelLimit (by decide))
  rw [show s.resolve = _ from rfl, State.resolve, (rest _).links, takeLockGained_links, takeLockGained_links, takeLockLost_links,
    takeLockLost_links, accepted.links]
  cases r <;> simp

/-! ### A lost or a gained lock leaves the window and the counts of the lanes -/

theorem LinkRx.lost_keeps (l : LinkRx) : l.lost.window = l.window ∧ l.lost.laneErrors = l.laneErrors := by
  unfold LinkRx.lost
  split <;> exact ⟨rfl, rfl⟩

theorem LinkRx.gained_keeps (l : LinkRx) : l.gained.window = l.window ∧ l.gained.laneErrors = l.laneErrors := by
  unfold LinkRx.gained
  split <;> exact ⟨rfl, rfl⟩

theorem LinkRx.lost_of_bad (locked : l.state = .locked) (h : 2 ≤ l.badFrames) : l.lost =
    { l with state := .acquiring, store := [], acquisition := 0, kept := [], badFrames := 0 } := if_pos ⟨locked, h⟩

theorem LinkRx.lost_of_few (h : l.state = .locked → l.badFrames < 2) : l.lost = l :=
  if_neg fun due => absurd (h due.1) (Nat.not_lt.mpr due.2)

theorem LinkRx.gained_of_short (h : l.state = .acquiring → l.acquisition < 64) : l.gained = l :=
  if_neg fun due => absurd (h due.1) (Nat.not_lt.mpr due.2)

/-! ### The marker -/

theorem exec_laneFrameMarker (s : State) (dt : Nat) (r : Rig) (lane : Fin 4) (complete : Table 4 Bool) :
    exec (.laneFrameMarker dt r lane complete) s = .next ((s.prepare.elapse dt).laneMarker r lane complete) := rfl

/-- R9: the window a marker closes, or joins, or does not find. -/
def State.cutWindow (s : State) (r : Rig) (lane : Fin 4) (complete : Table 4 Bool) : State :=
  match (s.links.get r).window with
  | none => s
  | some w =>
    if w.expired s.nominal then (s.closeWindow r).resolve
    else if w.marked.get lane then (s.closeBad r ((lanesNot complete).set lane true)).resolve
    else s

/-- R9: a marker takes its window once another has been closed. -/
def LinkRx.marked (l : LinkRx) (lane : Fin 4) : LinkRx :=
  match l.marker.window with
  | none => l.marker.openWindow lane
  | some w => { l.marker with window := some { w with marked := w.marked.set lane true } }

theorem laneMarker_eq (s : State) (r : Rig) (lane : Fin 4) (complete : Table 4 Bool) : s.laneMarker r lane complete =
    ((s.linkDues r).cutWindow r lane complete).setLink r
      ((((s.linkDues r).cutWindow r lane complete).links.get r).marked lane) := by
  have taken : ∀ v : State, (match (v.links.get r).marker.window with
      | none => v.setLink r ((v.links.get r).marker.openWindow lane)
      | some w => v.setLink r { (v.links.get r).marker with window := some { w with marked := w.marked.set lane true } }) =
      v.setLink r ((v.links.get r).marked lane) := by
    intro v
    unfold LinkRx.marked
    split <;> rfl
  exact taken _

theorem LinkRx.marker_present (h : l.state ≠ .absent) : l.marker = { l with sinceMarker := 0 } := if_neg h

theorem LinkRx.marker_absent (h : l.state = .absent) :
    l.marker = { l with state := .acquiring, acquisition := 0, kept := [], sinceMarker := 0 } := if_pos h

theorem LinkRx.marker_keeps (l : LinkRx) : l.marker.window = l.window ∧ l.marker.sinceMarker = 0 ∧ l.marker.laneErrors = l.laneErrors := by
  unfold LinkRx.marker
  split <;> exact ⟨rfl, rfl, rfl⟩

theorem LinkRx.marked_open (h : l.window = none) : l.marked lane = l.marker.openWindow lane := by
  simp only [LinkRx.marked, l.marker_keeps.1, h]

theorem LinkRx.marked_joins (h : l.window = some w) :
    l.marked lane = { l.marker with window := some { w with marked := w.marked.set lane true } } := by
  simp only [LinkRx.marked, l.marker_keeps.1, h]

theorem LinkRx.marked_sinceMarker : (l.marked lane).sinceMarker = 0 := by
  cases h : l.window with
  | none => rw [LinkRx.marked_open h]; exact l.marker_keeps.2.1
  | some w => rw [LinkRx.marked_joins h]; exact l.marker_keeps.2.1

/-! ### The window a marker closes -/

theorem cutWindow_of_none (h : (s.links.get r).window = none) : s.cutWindow r lane complete = s := by
  simp only [State.cutWindow, h]

theorem cutWindow_of_unmarked (h : (s.links.get r).window = some w) (young : 2 * w.age ≤ 3 * s.nominal)
    (fresh : w.marked.get lane = false) : s.cutWindow r lane complete = s := by
  simp only [State.cutWindow, h, not_expired young, fresh, Bool.false_eq_true, if_false]

theorem cutWindow_of_marked (h : (s.links.get r).window = some w) (young : 2 * w.age ≤ 3 * s.nominal)
    (again : w.marked.get lane = true) : s.cutWindow r lane complete =
      (s.closeBad r ((lanesNot complete).set lane true)).resolve := by
  simp only [State.cutWindow, h, not_expired young, again, Bool.false_eq_true, if_false, if_true]

/-- R9: while the link is ABSENT a window closes with no error counted. -/
theorem closeBad_absent (h : (s.links.get r).state = .absent) :
    (s.closeBad r bad).links.get r = { s.links.get r with window := none } := by
  have still : ∀ (l : LinkRx) pilot, l.state = .absent → (l.arrival pilot none).1 = l := fun l pilot hl => by
    simp only [LinkRx.arrival, hl]
  rw [State.closeBad, frameArrives_get, setLink_get, LinkRx.countErrors, if_pos (by exact h), still _ _ (by exact h)]

/-- R9, R12: what a second marker on a lane makes of the link, by link state, before it opens its own window. -/
theorem cutWindow_link (h : (s.links.get r).window = some w) (young : 2 * w.age ≤ 3 * s.nominal)
    (again : w.marked.get lane = true) :
    let l := s.links.get r
    let m := (s.cutWindow r lane complete).links.get r
    m.window = none ∧
      (l.state = .absent → m = { l with window := none }) ∧
      (l.state ≠ .absent → ∀ k, m.laneErrors.get k =
        if k = lane ∨ complete.get k = false then l.laneErrors.get k + 1 else l.laneErrors.get k) ∧
      (l.state = .acquiring → m.state = .acquiring ∧ m.acquisition = 0 ∧ m.kept = []) ∧
      (l.state = .locked → l.badFrames = 0 → l.store.length < 8 → ∀ f, l.lastWritten = some f → m.state = .locked ∧
        m.badFrames = 1 ∧ m.store = l.store ++ [f.set (s.bank.setup.pilot.get r) 0]) ∧
      (l.state = .locked → l.badFrames ≠ 0 → m.state = .acquiring ∧ m.acquisition = 0 ∧ m.store = []) := by
  intro l m
  have hm : m = ((s.closeBad r ((lanesNot complete).set lane true)).links.get r).lost.gained := by
    rw [show m = (s.cutWindow r lane complete).links.get r from rfl, cutWindow_of_marked h young again, resolve_links]
  clear_value m
  subst hm
  by_cases absent : l.state = .absent
  · rw [closeBad_absent absent, LinkRx.lost_of_few (fun x => by rw [show _ = LinkState.absent from absent] at x; cases x),
      LinkRx.gained_of_short (fun x => by rw [show _ = LinkState.absent from absent] at x; cases x)]
    refine ⟨rfl, fun _ => rfl, fun n => absurd absent n, fun x => ?_, fun x => ?_, fun x => ?_⟩
    all_goals rw [absent] at x; cases x
  · rw [closeBad_link _ r _ absent]
    generalize hv : s.setLink r _ = v
    have link : v.links.get r = { l with window := none, laneErrors := l.laneErrors.update fun i n =>
        if ((lanesNot complete).set lane true).get i then n + 1 else n } := by rw [← hv, setLink_get]
    have bank : v.bank = s.bank := by rw [← hv]; rfl
    obtain ⟨acquiring, first, second⟩ := frameArrives_bad v r
    obtain ⟨window, -, -, errors, -⟩ := LinkRx.arrival_keeps (l := v.links.get r) (pilot := v.bank.setup.pilot.get r) none
    refine ⟨?_, fun x => absurd x absent, fun _ k => ?_, fun hs => ?_, fun hs hb short f hf => ?_, fun hs hb => ?_⟩
    · rw [(LinkRx.gained_keeps _).1, (LinkRx.lost_keeps _).1, frameArrives_get, window, link]
    · rw [(LinkRx.gained_keeps _).2, (LinkRx.lost_keeps _).2, frameArrives_get, errors, link]
      rw [Table.get_update]
      by_cases same : k = lane
      · simp [same]
      · rw [Table.get_set_ne _ _ _ _ (Ne.symm same), lanesNot, Table.get_map]
        cases complete.get k <;> simp [same]
    · rw [acquiring (by rw [link]; exact hs), setLink_get, link, LinkRx.lost_of_few (fun x => by cases hs.symm.trans x),
        LinkRx.gained_of_short (fun _ => Nat.zero_lt_succ 63)]
      exact ⟨hs, rfl, rfl⟩
    · rw [first (by rw [link]; exact hs) (by rw [link]; exact hb) (by rw [link]; exact short) f (by rw [link]; exact hf),
        setLink_get, link, bank, LinkRx.lost_of_few (fun _ => Nat.one_lt_two), LinkRx.gained_of_short (fun x => by cases hs.symm.trans x)]
      exact ⟨hs, rfl, rfl⟩
    · rw [second (by rw [link]; exact hs) (by rw [link]; exact hb), setLink_get, link, LinkRx.lost_of_bad (by exact hs) (by exact Nat.le_refl 2),
        LinkRx.gained_of_short (fun _ => Nat.zero_lt_succ 63)]
      exact ⟨rfl, rfl, rfl⟩

/-- Settles O35: by the window the marker finds open, and its lane in it. -/
theorem laneMarkerAndWindow : Obligations.LaneMarkerAndWindow := by
  intro s dt r lane complete m l only
  refine ⟨(m.cutWindow r lane complete).setLink r (((m.cutWindow r lane complete).links.get r).marked lane),
    (exec_laneFrameMarker s dt r lane complete).trans (congrArg Host.Outcome.next (laneMarker_eq ..)), ?_⟩
  clear_value m
  rw [setLink_get]
  refine ⟨LinkRx.marked_sinceMarker, fun none => ?_, fun w hw young fresh present => ?_, fun w hw young again present => ?_,
    fun w hw young absent => ⟨fun fresh => ?_, fun again => ?_⟩⟩
  · rw [cutWindow_of_none none, LinkRx.marked_open none, setLink_get_other]
    refine ⟨Touches.refl.setLink (by decide), rfl, rfl, rfl, fun absent => ?_, fun present => ?_⟩
    · rw [LinkRx.marker_absent absent]
      exact ⟨rfl, rfl⟩
    · rw [LinkRx.marker_present present]
      rfl
  · rw [cutWindow_of_unmarked hw young fresh, LinkRx.marked_joins hw, setLink_get_other, LinkRx.marker_present present]
    exact ⟨Touches.refl.setLink (by decide), rfl, rfl⟩
  · obtain ⟨closed, -, errors, acquiring, first, second⟩ := cutWindow_link (complete := complete) hw young again
    rw [LinkRx.marked_open closed]
    generalize ((m.cutWindow r lane complete).links.get r) = x at *
    have keeps : x.state ≠ .absent → x.marker = { x with sinceMarker := 0 } := LinkRx.marker_present
    refine ⟨rfl, fun k => ?_, fun hs => ?_, fun hs hb short f hf => ?_, fun hs hb => ?_⟩
    · rw [show (x.marker.openWindow lane).laneErrors = x.laneErrors from x.marker_keeps.2.2]
      exact errors present k
    · rw [keeps (by rw [(acquiring hs).1]; exact LinkState.noConfusion)]
      exact acquiring hs
    · rw [keeps (by rw [(first hs hb short f hf).1]; exact LinkState.noConfusion)]
      exact first hs hb short f hf
    · rw [keeps (by rw [(second hs hb).1]; exact LinkState.noConfusion)]
      exact second hs hb
  · rw [cutWindow_of_unmarked hw young fresh, LinkRx.marked_joins hw, setLink_get_other, LinkRx.marker_absent absent]
    exact ⟨Touches.refl.setLink (by decide), rfl, rfl⟩
  · obtain ⟨closed, link, -⟩ := cutWindow_link (complete := complete) hw young again
    rw [LinkRx.marked_open closed, link absent, LinkRx.marker_absent (by exact absent)]
    rfl

end Sys2Proof.Machine

/-! PROOFS. The Clock Input (R4 to R7): a house clock edge by clock state, the return, and what time brings of the clock's own
events, each at its own moment. -/

namespace Sys2Proof.Machine

open Sys2Proof

/- In order: bodies elaborated side by side while the kernel still checks the text above each hold a thread's stack. -/
set_option Elab.async false

variable {s t u : State} {c : ClockInput} {e : ClockEvent} {w dt nominal : Nat}

/-! ### A sample instant as the Clock Input sees it (R4) -/

/-- R4: the Clock Input at a sample instant. -/
def ClockInput.counted (c : ClockInput) : ClockInput :=
  { c with count := c.count + 1, sinceInstant := 0, absorbing := false, joining := false }

theorem closeMoment_clock (s : State) : s.closeMoment.clock = s.clock :=
  (Touches.refl.closeMoment (by decide) : Touches dueBlocks s s.closeMoment).clock

theorem instant_clock (s : State) : s.instant.clock = s.clock.counted := by
  have sampled : ∀ (v : State) (r : Rig), Touches [.links, .parsers, .guards, .lines] v (v.sampleLink r).1 :=
    fun v r => Touches.refl.sampleLink (by decide)
  have blocks : Touches [.links, .parsers, .guards, .lines, .mixer, .showClock, .tcOutput, .lamps] s.countInstant
      s.instantBlocks.1 := by
    have a := (sampled s.countInstant .a).mono (cs := [.links, .parsers, .guards, .lines, .mixer, .showClock, .tcOutput, .lamps])
      (by decide)
    have b := a.andThen (sampled _ .b) (by decide)
    exact (((b.produce (by decide)).setShowClock (by decide)).setTcOutput (by decide)).setLamps (by decide)
  have judged : Touches eventBlocks s.instantBlocks.1 s.instant :=
    ((Touches.refl.takeEvidence (by decide)).takeEvidence (by decide)).handNew (by decide)
  rw [judged.clock, blocks.clock]
  rfl

theorem sampleInstant_clock (s : State) : s.sampleInstant.clock = s.clock.counted := by
  rw [State.sampleInstant, instant_clock, (Touches.refl.closeInstant (by decide) : Touches dueBlocks s s.closeInstant).clock]

/-! ### A house clock edge and the return (R5, R7) -/

theorem exec_houseClockEdge (s : State) (dt : Nat) : exec (.houseClockEdge dt) s = .next (s.prepare.elapse dt).houseEdge := rfl

theorem exec_clockReturn (s : State) : exec .clockReturn s = .next s.takeClockReturn := rfl

/-- R5: an edge in LOCKED that counts. -/
theorem houseEdge_counted (locked : s.clock.source = .locked) (h : s.clock.joining = true ∨ s.nominal ≤ 2 * s.clock.sinceInstant) :
    s.houseEdge = s.sampleInstant.edgeSeen := by
  simp only [State.houseEdge, locked]
  exact if_pos (by simpa using h)

/-- R5: a glitch, or the edge that belongs to a substituted increment. -/
theorem houseEdge_glitch (locked : s.clock.source = .locked) (out : s.clock.joining = false)
    (early : 2 * s.clock.sinceInstant < s.nominal) : s.houseEdge = s.edgeSeen := by
  simp only [State.houseEdge, locked]
  exact if_neg (by simp [out, early])

/-- R7: an edge in HOLDOVER that ends a house period. -/
theorem houseEdge_holdover {d : Nat} (holdover : s.clock.source = .holdover) (hd : s.clock.sinceEdge = some d) :
    s.houseEdge = (s.setClock { s.clock with
      returnCounter := if goodPeriod s.nominal d then min 1024 (s.clock.returnCounter + 1) else 0 }).edgeSeen := by
  simp only [State.houseEdge, holdover, hd]
  rfl

/-- R7: the Clock Input back in LOCKED, before its phase join. -/
def State.relocked (s : State) : State :=
  (s.setClock { s.clock with source := .locked, returnCounter := 0 }).raiseAll .clockHoldover

theorem takeClockReturn_due (holdover : s.clock.source = .holdover) (h : 1024 ≤ s.clock.returnCounter) : s.takeClockReturn =
    if s.nominal ≤ 2 * s.clock.sinceInstant then s.relocked.sampleInstant
    else s.relocked.setClock { s.relocked.clock with joining := true } := if_pos ⟨holdover, h⟩

theorem goodPeriod_iff (n d : Nat) : goodPeriod n d = true ↔ 7 * n ≤ 8 * d ∧ 8 * d ≤ 9 * n := by
  simp only [goodPeriod, Bool.and_eq_true, decide_eq_true_eq]
  omega

/-- Settles O33: by clock state, and by what the edge or the return finds of the period. -/
theorem houseClockEdge : Obligations.HouseClockEdge := by
  refine ⟨fun s dt => ?locked, fun s dt d => ?holdover, fun s => ?returned⟩
  case locked =>
    intro m locked
    refine ⟨m.houseEdge, exec_houseClockEdge s dt, ?_⟩
    clear_value m
    by_cases counts : m.clock.joining = true ∨ m.nominal ≤ 2 * m.clock.sinceInstant
    · have clock : m.houseEdge.clock = { m.clock.counted with sinceEdge := some 0, absorbing := false } := by
        rw [houseEdge_counted locked counts, State.edgeSeen, setClock_clock, sampleInstant_clock]
      rw [clock]
      refine ⟨locked, rfl, rfl, fun _ => ⟨rfl, rfl, rfl, houseEdge_counted locked counts⟩, fun out early => ?_⟩
      rcases counts with counts | counts
      · simp [out] at counts
      · omega
    · obtain ⟨out, early⟩ := not_or.mp counts
      rw [houseEdge_glitch locked (Bool.eq_false_iff.mpr out) (Nat.not_le.mp early)]
      exact ⟨locked, rfl, rfl, fun h => absurd h counts, fun _ _ => ⟨Touches.refl.setClock (by decide), rfl⟩⟩
  case holdover =>
    intro m holdover hd
    refine ⟨m.houseEdge, exec_houseClockEdge s dt, ?_⟩
    clear_value m
    rw [houseEdge_holdover holdover hd]
    refine ⟨(Touches.refl.setClock (by decide)).setClock (by decide), rfl, holdover, rfl, rfl, fun good => ?_, fun bad => ?_⟩
    · exact if_pos ((goodPeriod_iff ..).mpr good)
    · exact if_neg fun good => by
        have := (goodPeriod_iff ..).mp good
        omega
  case returned =>
    intro locked holdover full
    refine ⟨s.takeClockReturn, exec_clockReturn s, ?_⟩
    have noted : Noted s.relocked .clockHoldover := noted_raiseAll _ _
    have clock : s.relocked.clock = { s.clock with source := .locked, returnCounter := 0 } :=
      (Touches.refl.raiseAll (by decide) : Touches [.ports] _ _).clock
    rw [takeClockReturn_due holdover full]
    by_cases near : s.nominal ≤ 2 * s.clock.sinceInstant
    · have sampled : NoticesKept s.relocked s.relocked.sampleInstant :=
        ((Moves.refl (writes := False) s.relocked).sampleInstant).noticesKept
      rw [if_pos near, sampleInstant_clock, clock]
      exact ⟨rfl, rfl, noted.kept sampled, fun _ => ⟨rfl, rfl, rfl, rfl⟩, fun far => absurd near (Nat.not_le.mpr far)⟩
    · rw [if_neg near, setClock_clock, clock]
      refine ⟨rfl, rfl, noted.kept (.of_ports rfl), fun h => absurd h near, fun _ => ⟨?_, rfl, rfl, by rw [← clock]; rfl⟩⟩
      exact ((Touches.refl.setClock (by decide)).raiseAll (by decide)).setClock (by decide)

/-! ### What time brings (R4 to R7) -/

/-- The Clock Input as time passes. -/
def ClockInput.aged (c : ClockInput) (dt : Nat) : ClockInput :=
  { c with sinceInstant := c.sinceInstant + dt, sinceEdge := c.sinceEdge.map (· + dt) }

/-- The Clock Input at an event of its own. -/
def ClockInput.took (c : ClockInput) : ClockEvent → ClockInput
  | .substituted => { c.counted with absorbing := true }
  | .holdover => c.counted
  | .loss => { c with source := .holdover, returnCounter := 0, absorbing := false, joining := false }
  | .timeout => { c with returnCounter := 0 }

/-- The units until an event of the Clock Input's own. -/
def ClockInput.wait (c : ClockInput) (nominal : Nat) : ClockEvent → Option Nat
  | .substituted =>
    if c.source = .locked then some ((if c.joining then nominal * 3 / 2 else nominal * 9 / 8) - c.sinceInstant) else none
  | .holdover => if c.source = .holdover then some (nominal - c.sinceInstant) else none
  | .loss => if c.source = .locked then c.sinceEdge.map (nominal * 4 - ·) else none
  | .timeout => if c.source = .holdover ∧ c.returnCounter ≠ 0 then c.sinceEdge.map (nominal * 4 - ·) else none

theorem clockWait_eq (s : State) (e : ClockEvent) : s.clockWait e = s.clock.wait s.nominal e := by cases e <;> rfl

theorem later_clock (s : State) (dt : Nat) : (s.later dt).clock = s.clock.aged dt := rfl

theorem takeClock_clock (s : State) (e : ClockEvent) : (s.takeClock e).clock = s.clock.took e := by
  cases e with
  | substituted => simp only [State.takeClock, State.substitute, setClock_clock, sampleInstant_clock, ClockInput.took]
  | holdover => exact sampleInstant_clock s
  | loss => exact (Touches.refl.raiseAll (by decide) : Touches [.ports] _ _).clock
  | timeout => rfl

theorem nominal_of_moves (h : Moves False s t) : t.nominal = s.nominal := by
  unfold State.nominal
  rw [h.setup id]

theorem sooner_some {α : Type} {x y : Option (Nat × α)} {z : Nat × α} (h : sooner x y = some z) : x = some z ∨ y = some z := by
  cases x with
  | none => exact .inr h
  | some x =>
    cases y with
    | none => exact .inl h
    | some y =>
      simp only [sooner] at h
      split at h
      · exact .inr h
      · exact .inl h

theorem nextClock_some (h : s.nextClock = some (w, e)) : s.clockWait e = some w := by
  have item : ∀ e', (s.clockWait e').map (fun v => (v, e')) = some (w, e) → s.clockWait e = some w := by
    intro e' he
    obtain ⟨v, hv, same⟩ := Option.map_eq_some_iff.mp he
    cases same
    exact hv
  rcases sooner_some h with h | h <;> rcases sooner_some h with h | h <;> exact item _ h

/-- Of what time brings next, an event of the clock comes after the units that the clock has yet to wait for it. -/
theorem nextTimed_clock (h : s.nextTimed = some (w, .clock e)) : s.clockWait e = some w := by
  rcases sooner_some h with h | h
  · obtain ⟨x, hx, same⟩ := Option.map_eq_some_iff.mp h
    cases same
    exact nextClock_some hx
  · rcases sooner_some h with h | h
    all_goals
      obtain ⟨x, -, same⟩ := Option.map_eq_some_iff.mp h
      cases same

/-- Time passes: what holds of the Clock Input and of the time yet to pass, and is kept as time passes and as each event that falls
inside it is taken, holds up to a moment from which only time passes. -/
theorem elapseWith_clock {Q : ClockInput → Nat → Prop}
    (event : ∀ c d w e, Q c d → c.wait nominal e = some w → w < d → Q ((c.aged w).took e) (d - w))
    (pass : ∀ c d w, Q c d → w < d → Q (c.aged w) (d - w)) : ∀ (n d : Nat) (s : State), s.nominal = nominal → Q s.clock d →
      (elapseWith n d s).nominal = nominal ∧ ∃ c k, Q c k ∧ (elapseWith n d s).clock = c.aged k
  | 0, d, s, hn, hq => ⟨hn, s.clock, d, hq, rfl⟩
  | n + 1, d, s, hn, hq => by
    rw [elapseWith]
    split
    · exact ⟨hn, s.clock, d, hq, rfl⟩
    · rename_i w x next
      split
      · rename_i inside
        have moved : Moves False s ((s.later w).takeTimed x).closeMoment := (((Moves.refl s).later w).takeTimed x).closeMoment
        refine elapseWith_clock event pass n (d - w) _ ((nominal_of_moves moved).trans hn) ?_
        rw [closeMoment_clock]
        cases x with
        | clock e =>
          rw [State.takeTimed, takeClock_clock, later_clock]
          exact event _ _ _ e hq (by rw [← hn, ← clockWait_eq]; exact nextTimed_clock next) inside
        | window r =>
          rw [State.takeTimed, (Touches.refl.closeWindow (by decide) :
            Touches dueBlocks (s.later w) ((s.later w).closeWindow r)).clock, later_clock]
          exact pass _ _ _ hq inside
      · exact ⟨hn, s.clock, d, hq, rfl⟩

theorem ClockInput.aged_zero (c : ClockInput) : c.aged 0 = c := by
  cases c with
  | mk => simp [ClockInput.aged]

theorem ClockInput.aged_aged (c : ClockInput) (k d : Nat) : (c.aged k).aged d = c.aged (k + d) := by
  simp [ClockInput.aged, Function.comp_def, Nat.add_assoc]

theorem elapse_clock {Q : ClockInput → Nat → Prop}
    (event : ∀ c d w e, Q c d → c.wait s.nominal e = some w → w < d → Q ((c.aged w).took e) (d - w))
    (pass : ∀ c d w, Q c d → w < d → Q (c.aged w) (d - w)) (start : Q s.clock dt) :
    (s.elapse dt).nominal = s.nominal ∧ ∃ c k, Q c k ∧ (s.elapse dt).clock = c.aged k := by
  unfold State.elapse
  split
  · rename_i zero
    subst zero
    exact ⟨rfl, s.clock, 0, start, (ClockInput.aged_zero _).symm⟩
  · exact elapseWith_clock event pass _ dt _ (nominal_of_moves (Moves.refl s).closeMoment) (by rw [closeMoment_clock]; exact start)

/-- The units until an event as time passes without one. -/
theorem ClockInput.aged_wait (c : ClockInput) (k : Nat) (e : ClockEvent) :
    (c.aged k).wait nominal e = (c.wait nominal e).map (· - k) := by
  cases e <;>
    simp only [ClockInput.wait, ClockInput.aged, apply_ite (Option.map _), Option.map_map, Option.map_none, Option.map_some,
      Function.comp_def, Nat.sub_sub] <;> rfl

/-- Where no event of the clock falls inside the time that passes, the Clock Input grows older and nothing else. -/
theorem elapse_quiet (quiet : ∀ e v, s.clock.wait s.nominal e = some v → dt ≤ v) :
    (s.elapse dt).nominal = s.nominal ∧ (s.elapse dt).clock = s.clock.aged dt := by
  have passed := elapse_clock (s := s) (dt := dt)
    (Q := fun c d => ∃ k, k + d = dt ∧ c = s.clock.aged k)
    (by
      rintro _ d w e ⟨k, sum, rfl⟩ due inside
      rw [ClockInput.aged_wait] at due
      obtain ⟨v, hv, same⟩ := Option.map_eq_some_iff.mp due
      have := quiet e v hv
      omega)
    (by
      rintro _ d w ⟨k, sum, rfl⟩ inside
      exact ⟨k + w, by omega, ClockInput.aged_aged ..⟩)
    ⟨0, Nat.zero_add _, (ClockInput.aged_zero _).symm⟩
  obtain ⟨nominal, _, d, ⟨k, sum, rfl⟩, clock⟩ := passed
  exact ⟨nominal, by rw [clock, ClockInput.aged_aged, sum]⟩

/-- R4, R7: up to the next increment in HOLDOVER the return counter may clear, and nothing else comes of the clock. -/
theorem elapse_holdover (holdover : s.clock.source = .holdover) (short : dt ≤ s.nominal - s.clock.sinceInstant) :
    (s.elapse dt).nominal = s.nominal ∧ ∃ x, (s.elapse dt).clock = { s.clock.aged dt with returnCounter := x } := by
  have passed := elapse_clock (s := s) (dt := dt)
    (Q := fun c d => ∃ k x, k + d = dt ∧ c = { s.clock.aged k with returnCounter := x })
    (by
      rintro _ d w e ⟨k, x, sum, rfl⟩ due inside
      cases e with
      | substituted => simp [ClockInput.wait, ClockInput.aged, holdover] at due
      | loss => simp [ClockInput.wait, ClockInput.aged, holdover] at due
      | holdover =>
        simp only [ClockInput.wait, ClockInput.aged, holdover, if_true, Option.some.injEq] at due
        omega
      | timeout =>
        refine ⟨k + w, 0, by omega, ?_⟩
        rw [← ClockInput.aged_aged]
        rfl)
    (by
      rintro _ d w ⟨k, x, sum, rfl⟩ inside
      refine ⟨k + w, x, by omega, ?_⟩
      rw [← ClockInput.aged_aged]
      rfl)
    ⟨0, s.clock.returnCounter, Nat.zero_add _, by rw [ClockInput.aged_zero]⟩
  obtain ⟨nominal, _, d, ⟨k, x, sum, rfl⟩, clock⟩ := passed
  refine ⟨nominal, x, clock.trans ?_⟩
  rw [← sum, ← ClockInput.aged_aged]
  rfl

/-- R6, R7: up to the end of the fourth silent period the clock neither loses its source nor clears its return counter. -/
theorem elapse_silent {d : Nat} (hd : s.clock.sinceEdge = some d) (silence : d + dt = 4 * s.nominal) :
    (s.elapse dt).nominal = s.nominal ∧ (s.elapse dt).clock.source = s.clock.source ∧
      (s.elapse dt).clock.returnCounter = s.clock.returnCounter ∧ (s.elapse dt).clock.sinceEdge = some (4 * s.nominal) := by
  have passed := elapse_clock (s := s) (dt := dt)
    (Q := fun c k => c.source = s.clock.source ∧ c.returnCounter = s.clock.returnCounter ∧
      ∃ f, c.sinceEdge = some f ∧ f + k = 4 * s.nominal)
    (by
      rintro c k w e ⟨source, counter, f, hf, sum⟩ due inside
      have edge : (c.aged w).sinceEdge = some (f + w) := by simp [ClockInput.aged, hf]
      have later : f + w + (k - w) = 4 * s.nominal := by omega
      cases e with
      | substituted => exact ⟨source, counter, f + w, edge, later⟩
      | holdover => exact ⟨source, counter, f + w, edge, later⟩
      | loss =>
        simp only [ClockInput.wait, hf, Option.map_some, Option.ite_none_right_eq_some, Option.some.injEq] at due
        omega
      | timeout =>
        simp only [ClockInput.wait, hf, Option.map_some, Option.ite_none_right_eq_some, Option.some.injEq] at due
        omega)
    (by
      rintro c k w ⟨source, counter, f, hf, sum⟩ inside
      exact ⟨source, counter, f + w, by simp [ClockInput.aged, hf], by omega⟩)
    ⟨rfl, rfl, d, hd, silence⟩
  obtain ⟨nominal, c, k, ⟨source, counter, f, hf, sum⟩, clock⟩ := passed
  rw [clock]
  exact ⟨nominal, source, counter, by rw [← sum]; simp [ClockInput.aged, hf]⟩

/-! ### The clock's own events at their own moments -/

theorem exec_clockEvent (s : State) :
    exec .substitutedIncrement s = .next (s.prepare.clockEvent .substituted) ∧
      exec .holdoverIncrement s = .next (s.prepare.clockEvent .holdover) ∧
      exec .clockLoss s = .next (s.prepare.clockEvent .loss) ∧
      exec .returnCounterTimeout s = .next (s.prepare.clockEvent .timeout) := ⟨rfl, rfl, rfl, rfl⟩

/-- An event that still stands due at its own moment is taken there. -/
theorem clockEvent_taken (hw : s.clock.wait s.nominal e = some w) (nominal : (s.elapse w).nominal = s.nominal)
    (due : (s.elapse w).clock.wait s.nominal e = some 0) : s.clockEvent e = (s.elapse w).takeClock e := by
  simp only [State.clockEvent, clockWait_eq, hw]
  exact if_pos (by rw [nominal, due])

/-- R6, R7: an event of the fourth silent period's end is taken there, or at once where the period has ended. -/
theorem clockEvent_silence {d : Nat} (hd : s.clock.sinceEdge = some d)
    (hw : s.clock.wait s.nominal e = some (s.nominal * 4 - d))
    (still : ∀ c : ClockInput, c.source = s.clock.source → c.returnCounter = s.clock.returnCounter →
      c.sinceEdge = some (4 * s.nominal) → c.wait s.nominal e = some 0) :
    ∃ v : State, s.clockEvent e = v.takeClock e ∧ v.clock.source = s.clock.source ∧
      v.clock.sinceEdge = some (max d (4 * s.nominal)) ∧ (4 * s.nominal ≤ d → v = s) := by
  by_cases past : 4 * s.nominal ≤ d
  · have now : s.nominal * 4 - d = 0 := by omega
    have here : s.elapse 0 = s := if_pos rfl
    rw [now] at hw
    have taken := clockEvent_taken hw (by rw [here]) (by rw [here]; exact hw)
    rw [here] at taken
    exact ⟨s, taken, rfl, by rw [hd, max_eq_left past], fun _ => rfl⟩
  · obtain ⟨nominal, source, counter, edge⟩ := elapse_silent (s := s) (dt := s.nominal * 4 - d) hd (by omega)
    exact ⟨_, clockEvent_taken hw nominal (still _ source counter edge), source, by rw [edge, max_eq_right (by omega)],
      fun h => absurd h past⟩

/-- Settles O34: each event is taken at its own moment, up to which the Clock Input grows older. -/
theorem referenceIncrementsAndSilence : Obligations.ReferenceIncrementsAndSilence := by
  refine ⟨fun s => ?substituted, fun s => ?holdover, fun s d => ?loss, fun s d => ?timeout⟩
  case substituted =>
    intro p due wait locked first
    refine ⟨p.clockEvent .substituted, (exec_clockEvent s).1, ?_⟩
    clear_value p
    have hw : p.clock.wait p.nominal .substituted = some wait := if_pos locked
    have quiet : ∀ e v, p.clock.wait p.nominal e = some v → wait ≤ v := by
      intro e v hv
      cases e with
      | substituted => exact (Option.some.inj (hw.symm.trans hv)).le
      | holdover => simp [ClockInput.wait, locked] at hv
      | loss =>
        simp only [ClockInput.wait, locked, if_true] at hv
        obtain ⟨d, hd, same⟩ := Option.map_eq_some_iff.mp hv
        have := first d hd
        omega
      | timeout => simp [ClockInput.wait, locked] at hv
    obtain ⟨nominal, clock⟩ := elapse_quiet quiet
    have taken := clockEvent_taken hw nominal (by rw [clock, ClockInput.aged_wait, hw, Option.map_some, Nat.sub_self])
    have after : (p.clockEvent .substituted).clock = (p.clock.aged wait).took .substituted := by
      rw [taken, takeClock_clock, clock]
    rw [after]
    refine ⟨locked, rfl, rfl, rfl, rfl, rfl, taken.trans ?_⟩
    rw [State.takeClock, State.substitute, sampleInstant_clock, clock]
    rfl
  case holdover =>
    intro p wait holdover
    refine ⟨p.clockEvent .holdover, (exec_clockEvent s).2.1, ?_⟩
    clear_value p
    have hw : p.clock.wait p.nominal .holdover = some wait := if_pos holdover
    obtain ⟨nominal, x, clock⟩ := elapse_holdover (dt := wait) holdover (Nat.le_refl _)
    have taken := clockEvent_taken hw nominal (by
      rw [clock]
      simp only [ClockInput.wait, ClockInput.aged, holdover, if_true, Option.some.injEq]
      omega)
    have after : (p.clockEvent .holdover).clock = ({ p.clock.aged wait with returnCounter := x } : ClockInput).took .holdover := by
      rw [taken, takeClock_clock, clock]
    rw [after]
    exact ⟨holdover, rfl, rfl, rfl, taken⟩
  case loss =>
    intro p locked hd
    refine ⟨p.clockEvent .loss, (exec_clockEvent s).2.2.1, ?_⟩
    clear_value p
    obtain ⟨v, taken, -, edge, here⟩ := clockEvent_silence (e := .loss) hd (by simp [ClockInput.wait, locked, hd])
      fun c source _ edge => by simp [ClockInput.wait, source, locked, edge, Nat.mul_comm]
    rw [taken, takeClock_clock]
    refine ⟨rfl, rfl, noted_raiseAll _ _, edge, fun past => ?_⟩
    rw [here past]
    exact ⟨(Touches.refl.setClock (by decide)).raiseAll (by decide), rfl, rfl⟩
  case timeout =>
    intro p holdover counter hd
    refine ⟨p.clockEvent .timeout, (exec_clockEvent s).2.2.2, ?_⟩
    clear_value p
    obtain ⟨v, taken, source, edge, here⟩ := clockEvent_silence (e := .timeout) hd
      (by simp [ClockInput.wait, holdover, counter, hd])
      fun c source same edge => by simp [ClockInput.wait, source, same, holdover, counter, edge, Nat.mul_comm]
    rw [taken, takeClock_clock]
    refine ⟨source.trans holdover, rfl, edge, fun past => ?_⟩
    rw [here past]
    exact ⟨Touches.refl.setClock (by decide), rfl⟩

end Sys2Proof.Machine

/-! PROOFS. RESTART (R187): what it makes of each owner, block by block. -/

namespace Sys2Proof.Machine

open Sys2Proof

/- In order: bodies elaborated side by side while the kernel still checks the text above each hold a thread's stack. -/
set_option Elab.async false

variable {s t : State} {r : Rig}

/-! ### The monitors restarted with every record absent (R29, R45) -/

/-- R36: with no record DIVERGED of a rig ends and is no evidence. -/
theorem reDivergedBy_of_no_record {x : HealthState} (h : (s.parsers.get r).record = none) :
    Touches [.parsers] s (s.reDivergedBy r x) := by
  have ended : s.divergedBy r x = false := by simp [State.divergedBy, Parser.notPlaying, h]
  unfold State.reDivergedBy
  rw [ended]
  dsimp only
  split
  · exact Touches.refl
  · rw [if_neg (by simp)]
    exact Touches.refl.setParser (by decide)

/-- R45: a restart of both monitors leaves each parser but for DIVERGED. -/
theorem guardRestartBoth_parser (s : State) (r : Rig) : s.guardRestartBoth.parsers.get r =
    { s.parsers.get r with diverged := (s.guardRestartBoth.parsers.get r).diverged } := by
  unfold State.guardRestartBoth State.undoGuards
  split
  · rfl
  · rename_i u hu
    have judged : ∀ v : State, Carried v ((v.reDivergedJudged .a).reDivergedJudged .b) := fun v =>
      ((Carried.refl v).reDivergedBy .a _).reDivergedBy .b _
    rw [(judged _).parsers r]
    cases r <;> rfl

/-- R45: a restart of both monitors ends SILENT and FROZEN and voids the tick. -/
theorem guardRestartBoth_guard (s : State) (r : Rig) : (s.guardRestartBoth.guards.get r).void = true ∧
    (s.guardRestartBoth.guards.get r).silent = false ∧ (s.guardRestartBoth.guards.get r).frozen = false := by
  unfold State.guardRestartBoth State.undoGuards
  split
  · cases r <;> exact ⟨rfl, rfl, rfl⟩
  · rename_i u hu
    have judged : ∀ v : State, Touches [.parsers, .health] v ((v.reDivergedJudged .a).reDivergedJudged .b) := fun v =>
      (Touches.refl.reDivergedJudged (by decide)).reDivergedJudged (by decide)
    rw [(judged _).guards]
    cases r <;> exact ⟨rfl, rfl, rfl⟩

/-- R36: with no record both re-examinations of DIVERGED move no health state. -/
theorem reDivergedJudged_health (h : ∀ r, (s.parsers.get r).record = none) :
    ((s.reDivergedJudged .a).reDivergedJudged .b).health = s.health := by
  have a : Touches [.parsers] s (s.reDivergedJudged .a) := reDivergedBy_of_no_record (h .a)
  have b : Touches [.parsers] (s.reDivergedJudged .a) ((s.reDivergedJudged .a).reDivergedJudged .b) :=
    reDivergedBy_of_no_record (by
      rw [State.reDivergedJudged, ((Carried.refl s).reDivergedBy .a _).parsers .b]
      exact h .b)
  exact b.health.trans a.health

/-- R45, log 30: with both records absent a restart of both monitors leaves of each rig's health what the tick end of this instant
left with no guard condition decided. -/
theorem guardRestartBoth_health (h : ∀ r, (s.parsers.get r).record = none) (r : Rig) :
    s.guardRestartBoth.health.get r = s.unguardedHealth r := by
  unfold State.guardRestartBoth State.undoGuards State.unguardedHealth
  rw [setGuards_instantHealth]
  split
  · rfl
  · refine (congrArg (·.get r) (reDivergedJudged_health fun q => ?_)).trans ?_
    · cases q
      · exact h .a
      · exact h .b
    · cases r <;> rfl

/-! ### The owners one after the other (R187) -/

/-- R123: the groups of a part once an engine restart has silenced them. -/
def State.groupsRestarted (s : State) : State :=
  (s.linesRestarted.setMixer { s.linesRestarted.mixer with groups := s.linesRestarted.mixer.groups.map Group.restart }).retargetAll

theorem engineRestart_eq (s : State) : s.engineRestart = (((((s.groupsRestarted.clockIdle.clearMemories).setBank
    { s.groupsRestarted.clockIdle.clearMemories.bank with claim := none, exchange := none }).setLamps
      { s.groupsRestarted.clockIdle.clearMemories.lamps with override := Table.fill 6 none }).setDevice
        { cause := .restart, restarts := stop255 s.groupsRestarted.clockIdle.clearMemories.device.restarts }).raiseAll
          .engineRestarted) := rfl

/-- R24, R29, R34, R37, R45, R55, R59: the rigs' blocks after an engine restart. -/
theorem rigsRestarted_leaves (s : State) (r : Rig) :
    let t := s.rigsRestarted
    let p := t.parsers.get r
    (p.assembly = .waiting ∧ p.record = none ∧ p.valid = (s.parsers.get r).valid ∧ p.rejected = (s.parsers.get r).rejected ∧
      p.age = (if (s.links.get r).state = .locked then some 0 else none) ∧ p.missing = decide ((s.links.get r).state ≠ .locked)) ∧
    t.health.get r = (s.unguardedHealth r).goOffline ∧
    (t.guards.get r).void = true ∧ (t.guards.get r).silent = false ∧ (t.guards.get r).frozen = false := by
  intro t p
  have stopped := s.touches_restartArbiter
  generalize hv : s.restartArbiter.setParsers
    ⟨s.restartArbiter.parsers.a.restart s.restartArbiter.links.a.state,
      s.restartArbiter.parsers.b.restart s.restartArbiter.links.b.state⟩ = v
  have ended : t = v.guardRestartBoth.restartHealth := by rw [← hv]; rfl
  have offline : Touches [.health, .ports] v.guardRestartBoth v.guardRestartBoth.restartHealth :=
    Touches.refl.restartHealth (by decide)
  have parser : v.parsers.get r = (s.parsers.get r).restart (s.links.get r).state := by
    rw [← hv, stopped.parsers, stopped.links]
    cases r <;> rfl
  have absent : ∀ q, (v.parsers.get q).record = none := fun q => by rw [← hv]; cases q <;> rfl
  have health : v.guardRestartBoth.restartHealth.health.get r = (v.guardRestartBoth.health.get r).goOffline := by
    unfold State.restartHealth
    dsimp only
    split <;> cases r <;> rfl
  have same : v.unguardedHealth r = s.unguardedHealth r := by
    unfold State.unguardedHealth
    rw [← hv, setParsers_instantHealth, setParsers_health, stopped.instantHealth, stopped.health]
  rw [show p = v.guardRestartBoth.restartHealth.parsers.get r by rw [← ended], ended, offline.parsers, offline.guards,
    guardRestartBoth_parser, parser, health, guardRestartBoth_health absent, same]
  refine ⟨⟨rfl, rfl, rfl, rfl, rfl, ?_⟩, rfl, guardRestartBoth_guard v r⟩
  cases (s.links.get r).state <;> simp [Parser.restart]

/-- R184: `t` keeps the notice masks of `s`. -/
def MasksKept (s t : State) : Prop := ∀ q, (t.ports.get q).mask = (s.ports.get q).mask

theorem masksKept_raiseAll (n : Notice) : MasksKept s (s.raiseAll n) := fun q => by simp [State.raiseAll]

theorem masksKept_restartHealth (s : State) : MasksKept s s.restartHealth := by
  unfold State.restartHealth
  dsimp only
  split
  · exact masksKept_raiseAll _
  · exact fun _ => rfl

/-- R123: a group in FOLLOW or MUTE rests on SILENT after an engine restart, with the arbiter STOPPED. -/
theorem Group.restart_silent {g : Group} {x : Arbiter} {fade : Nat} {policy : BlindPolicy} (stopped : x.state = .stopped)
    (hb : g.base = .follow ∨ g.base = .mute) : (g.restart.retarget fade (targetOf x policy g.restart.mode)).current = .silent ∧
      (g.restart.retarget fade (targetOf x policy g.restart.mode)).transition = none := by
  have silent : targetOf x policy g.restart.mode = .silent := by
    rcases hb with hb | hb <;> simp [Group.restart, hb, targetOf, stopped]
  have landed : g.restart.land = g.restart := rfl
  rw [silent, Group.retarget, landed]
  exact ⟨rfl, rfl⟩

/-- R187: what of the part an engine restart has reached by the groups. -/
theorem touches_groupsRestarted (s : State) :
    Touches [.arbiter, .parsers, .guards, .health, .ports, .lines, .alignment, .mixer] s s.groupsRestarted ∧
      Touches [.lines, .alignment, .mixer] s.rigsRestarted s.groupsRestarted ∧
      Touches [.mixer] s.linesRestarted s.groupsRestarted := by
  have lined : Touches [.lines, .alignment, .mixer] s.rigsRestarted s.linesRestarted :=
    (Touches.refl.setLines (by decide)).setAlignment (by decide)
  have grouped : Touches [.mixer] s.linesRestarted s.groupsRestarted :=
    (Touches.refl.setMixer (by decide)).retargetAll (by decide)
  have both := lined.andThen grouped (by decide)
  exact ⟨((s.touches_restartArbiter.mono (by decide)).andThen s.touches_rigsRestarted (by decide)).andThen both (by decide), both, grouped⟩

/-- R187: RESTART keeps every notice mask. -/
theorem masksKept_restart (s : State) : MasksKept s (s.engineRestart.deselect .p .done) := by
  have offline : MasksKept s s.rigsRestarted := fun q => by
    rw [show s.rigsRestarted = (s.restartArbiter.setParsers
      ⟨s.restartArbiter.parsers.a.restart s.restartArbiter.links.a.state,
        s.restartArbiter.parsers.b.restart s.restartArbiter.links.b.state⟩).guardRestartBoth.restartHealth from rfl,
      masksKept_restartHealth, (s.touches_guardsRestarted _).ports, s.touches_restartArbiter.ports]
  have raised : MasksKept s.rigsRestarted s.engineRestart := fun q => by
    rw [engineRestart_eq, masksKept_raiseAll, setDevice_ports, setLamps_ports, setBank_ports,
      ((Touches.refl.clockIdle (by decide)).clearMemories (by decide) : Touches [.showClock, .tcOutput, .matchers] _ _).ports,
      (touches_groupsRestarted s).2.1.ports]
  generalize s.engineRestart = t at raised
  obtain ⟨⟨-, others⟩, own⟩ := deselect_done t .p
  intro q
  rw [← offline q, ← raised q]
  by_cases hq : q = .p
  · rw [hq, own]
  · rw [others q hq]

/-- R123: a group of a part once an engine restart has reached it. -/
theorem groupsRestarted_get (s : State) (i : Fin 8) : ∃ fade policy, s.groupsRestarted.mixer.groups.get i =
    (s.mixer.groups.get i).restart.retarget fade (targetOf s.linesRestarted.arbiter policy (s.mixer.groups.get i).restart.mode) := by
  have silenced : (s.linesRestarted.mixer.groups.map Group.restart).get i = (s.mixer.groups.get i).restart := by
    rw [Table.get_map, s.restarting_linesRestarted.mixer]
  refine ⟨(s.linesRestarted.bank.front.group.get i).fadeLength, (s.linesRestarted.bank.front.group.get i).policy,
    (retargetAll_get _ i).trans ?_⟩
  rw [setMixer_mixer, silenced]
  rfl

/-- R103: the arbiter after an engine restart. -/
theorem restartArbiter_leaves (s : State) : s.restartArbiter.arbiter = { s.arbiter with
    state := .stopped, inhibit := false, onAir := none, outgoing := none, eligible := false
    history := if s.arbiter.state = .changing then
      s.arbiter.history.map fun e => if e.ending = .inFlight then { e with ending := .aborted } else e else s.arbiter.history } := by
  unfold State.restartArbiter
  split <;> rfl

/-- Settles O60: each owner's own restart, and the frames of the others. -/
theorem engineRestart : Obligations.EngineRestart := by
  intro s p kept
  refine ⟨p.engineRestart.deselect .p .done, exec_command_done (code := 0x3F) (operands := [])
    (c := .restart .p (withCheck 0x3F [])) rfl rfl rfl (allowed_panel _) rfl, ?_⟩
  clear_value p
  obtain ⟨⟨only, -⟩, -⟩ := deselect_done p.engineRestart .p
  obtain ⟨before, rigs, lined⟩ := touches_groupsRestarted p
  have after : Touches [.showClock, .tcOutput, .matchers, .bank, .lamps, .device, .ports] p.groupsRestarted p.engineRestart := by
    rw [engineRestart_eq]
    exact ((((((Touches.refl.clockIdle (by decide)).clearMemories (by decide)).setBank (by decide)).setLamps (by decide)).setDevice
      (by decide)).raiseAll (by decide))
  have last : p.engineRestart.showClock = p.groupsRestarted.clockIdle.showClock ∧ p.engineRestart.tcOutput.waiting = none ∧
      p.engineRestart.matchers = p.groupsRestarted.clearMemories.matchers ∧
      p.engineRestart.bank = { p.groupsRestarted.bank with claim := none, exchange := none } ∧
      p.engineRestart.lamps = { p.groupsRestarted.lamps with override := Table.fill 6 none } ∧
      p.engineRestart.device = { cause := .restart, restarts := stop255 p.groupsRestarted.device.restarts } := by
    rw [engineRestart_eq]
    exact ⟨rfl, rfl, rfl, rfl, rfl, rfl⟩
  obtain ⟨showClock, waiting, matchers, bank, lamps, device⟩ := last
  have arbiter : p.groupsRestarted.arbiter = p.restartArbiter.arbiter := rigs.arbiter.trans p.touches_rigsRestarted.arbiter
  have stopped : p.linesRestarted.arbiter.state = .stopped := by
    rw [← lined.arbiter, arbiter, restartArbiter_leaves]
  refine ⟨(deselect_done _ .p).doneOn, (noted_raiseAll _ _).kept (noticesKept_deselect_done _ _), ?_⟩
  rw [only.clock, only.links, only.tickDue, only.device, only.parsers, only.health, only.guards, only.lines, only.alignment,
    only.arbiter, only.mixer, only.showClock, only.tcOutput, only.matchers, only.bank, only.lamps, after.clock, after.links,
    after.tickDue, after.parsers, after.health, after.guards, after.lines, after.alignment, after.arbiter, after.mixer, before.clock,
    before.links, before.tickDue, rigs.parsers, rigs.health, rigs.guards, lined.lines, lined.alignment, arbiter,
    restartArbiter_leaves, p.restarting_linesRestarted.alignment, p.restarting_linesRestarted.lines, device, before.device,
    showClock, waiting, bank, before.bank, lamps, before.lamps]
  refine ⟨rfl, rfl, rfl, rfl, fun r => (rigsRestarted_leaves p r).1, fun r => ?rig, rfl, rfl, rfl, rfl, rfl, rfl, rfl, rfl, rfl, rfl,
    rfl, rfl, fun i => ?group, rfl, ?control, ?emitted, rfl, fun k => ?matcher, rfl, fun q => ?mask, rfl⟩
  case rig =>
    obtain ⟨-, health, void, silent, frozen⟩ := rigsRestarted_leaves p r
    rw [health]
    refine ⟨rfl, rfl, rfl, rfl, rfl, rfl, void, silent, frozen, ?_⟩
    cases r <;> rfl
  case group =>
    obtain ⟨fade, policy, group⟩ := groupsRestarted_get p i
    rw [group]
    obtain ⟨mode, base, oneSong, -⟩ := Group.retarget_modes (p.mixer.groups.get i).restart fade
      (targetOf p.linesRestarted.arbiter policy (p.mixer.groups.get i).restart.mode)
    exact ⟨mode, base, oneSong, fun hb => Group.restart_silent stopped hb⟩
  case control => rw [← before.showClock]; rfl
  case emitted => rw [← before.showClock]; rfl
  case matcher => rw [matchers, ← before.matchers]; exact Table.get_map ..
  case mask => exact masksKept_restart p q

end Sys2Proof.Machine

/-! PROOFS. What the Show Clock reads (chapter 7), so that its moves agree on parts that agree on it; the settling of the standby
delay (R66 to R68, R75) as a function of what it reads. -/

namespace Sys2Proof.Machine

open Sys2Proof

/- In order: bodies elaborated side by side while the kernel still checks the text above each hold a thread's stack. -/
set_option Elab.async false

variable {s t u v p : State} {r : Rig}

/-! ### What the Show Clock reads -/

/-- `u` shows the Show Clock what `s` does, with rig `r` on air, and has at least the notices of `s`. -/
structure ClockAgrees (r : Rig) (s u : State) : Prop where
  clock : u.clock = s.clock
  showClock : u.showClock = s.showClock
  tcOutput : u.tcOutput = s.tcOutput
  front : u.bank.front = s.bank.front
  setup : u.bank.setup = s.bank.setup
  parser : u.parsers.get r = s.parsers.get r
  delay : (u.lines.get r).delay = (s.lines.get r).delay
  onAir : u.arbiter.onAir = some r
  onAir' : s.arbiter.onAir = some r
  runs : u.arbiter.state = .stopped ↔ s.arbiter.state = .stopped
  notices : NoticesKept s u

theorem ClockAgrees.setShowClock (a : ClockAgrees r s u) {x y : ShowClock} (h : y = x) :
    ClockAgrees r (s.setShowClock x) (u.setShowClock y) := by
  subst h
  exact ⟨a.clock, rfl, a.tcOutput, a.front, a.setup, a.parser, a.delay, a.onAir, a.onAir', a.runs, a.notices⟩

theorem ClockAgrees.setTcOutput (a : ClockAgrees r s u) {x y : TcOutput} (h : y = x) :
    ClockAgrees r (s.setTcOutput x) (u.setTcOutput y) := by
  subst h
  exact ⟨a.clock, a.showClock, rfl, a.front, a.setup, a.parser, a.delay, a.onAir, a.onAir', a.runs, a.notices⟩

theorem ClockAgrees.raiseAll (a : ClockAgrees r s u) (n : Notice) : ClockAgrees r (s.raiseAll n) (u.raiseAll n) := by
  refine ⟨a.clock, a.showClock, a.tcOutput, a.front, a.setup, a.parser, a.delay, a.onAir, a.onAir', a.runs, fun q k h => ?_⟩
  have kept := a.notices q k
  by_cases hk : n.idx = k
  · subst hk
    exact noted_raiseAll u n q
  · simp only [State.raiseAll, setPorts_ports, PerPort.get_map, Table.get_set_ne _ _ _ _ hk] at h ⊢
    exact kept h

theorem ClockAgrees.ite {b c : Prop} [Decidable b] [Decidable c] (h : c ↔ b) {s' u' s'' u'' : State}
    (hb : b → ClockAgrees r s' u') (hn : ¬ b → ClockAgrees r s'' u'') :
    ClockAgrees r (if b then s' else s'') (if c then u' else u'') := by
  by_cases x : b
  · rw [if_pos x, if_pos (h.mpr x)]; exact hb x
  · rw [if_neg x, if_neg (mt h.mp x)]; exact hn x

theorem ClockAgrees.clockSong (a : ClockAgrees r s u) : u.clockSong = s.clockSong := by
  unfold State.clockSong
  rw [a.showClock]

theorem ClockAgrees.startOf (a : ClockAgrees r s u) : u.startOf = s.startOf := by
  funext x
  unfold State.startOf
  rw [a.front]

theorem ClockAgrees.derived (a : ClockAgrees r s u) : u.derived = s.derived := by
  have elapsed : u.elapsed = s.elapsed := by unfold State.elapsed; rw [a.clock, a.showClock]
  unfold State.derived State.frameCount
  rw [elapsed, a.startOf, a.clockSong, a.setup]

theorem ClockAgrees.holdValue (a : ClockAgrees r s u) : u.holdValue = s.holdValue := by
  unfold State.holdValue
  rw [a.showClock, a.derived]

theorem ClockAgrees.handRecord (a : ClockAgrees r s u) (tc : Timecode) (flags : TcFlags) :
    ClockAgrees r (s.handRecord tc flags) (u.handRecord tc flags) := by
  unfold State.handRecord
  rw [a.setup, a.clockSong, a.tcOutput, a.showClock]
  exact (a.setTcOutput rfl).setShowClock rfl

theorem ClockAgrees.enterHeld (a : ClockAgrees r s u) {x y : Timecode} (h : y = x) :
    ClockAgrees r (s.enterHeld x) (u.enterHeld y) := by
  subst h
  unfold State.enterHeld
  rw [a.showClock]
  exact (a.setShowClock rfl).handRecord _ _

theorem ClockAgrees.takeFreewheelLimit (a : ClockAgrees r s u) : ClockAgrees r s.takeFreewheelLimit u.takeFreewheelLimit := by
  unfold State.takeFreewheelLimit
  rw [a.showClock]
  split
  · exact .ite Iff.rfl (fun _ => a.enterHeld a.holdValue) fun _ => a
  · exact a

theorem ClockAgrees.enterFreewheel (a : ClockAgrees r s u) : ClockAgrees r s.enterFreewheel u.enterFreewheel := by
  unfold State.enterFreewheel
  rw [a.showClock]
  exact .ite Iff.rfl (fun _ => (a.setShowClock rfl).takeFreewheelLimit) fun _ => a

theorem ClockAgrees.clockCorrect (a : ClockAgrees r s u) (x : Stamp) : ClockAgrees r (s.clockCorrect x) (u.clockCorrect x) := by
  unfold State.clockCorrect
  rw [a.showClock]
  exact .ite Iff.rfl (fun _ => a.setShowClock rfl) fun _ => .ite Iff.rfl (fun _ => a.setShowClock rfl) fun _ =>
    (a.setShowClock rfl).raiseAll _

theorem ClockAgrees.clockSongChange (a : ClockAgrees r s u) (x : Stamp) (y : Byte) :
    ClockAgrees r (s.clockSongChange x y) (u.clockSongChange x y) := by
  unfold State.clockSongChange
  rw [a.showClock]
  exact a.setShowClock rfl

theorem ClockAgrees.clockLeaveIdle (a : ClockAgrees r s u) (x : Stamp) (y : Byte) :
    ClockAgrees r (s.clockLeaveIdle x y) (u.clockLeaveIdle x y) := by
  unfold State.clockLeaveIdle
  rw [a.showClock]
  exact a.setShowClock rfl

theorem ClockAgrees.clockResume (a : ClockAgrees r s u) (x : Stamp) : ClockAgrees r (s.clockResume x) (u.clockResume x) := by
  unfold State.clockResume
  rw [a.showClock]
  exact a.setShowClock rfl

theorem ClockAgrees.clockFollow (a : ClockAgrees r s u) (rec : RigRecord) :
    ClockAgrees r (s.clockFollow r rec) (u.clockFollow r rec) := by
  have target : u.targetFrom r (rec.anchor.getD 0) = s.targetFrom r (rec.anchor.getD 0) := by
    unfold State.targetFrom
    rw [a.delay]
  have corrects : ClockAgrees r
      (if rec.song = s.clockSong then s.clockCorrect (s.targetFrom r (rec.anchor.getD 0))
        else s.clockSongChange (s.targetFrom r (rec.anchor.getD 0)) rec.song)
      (if rec.song = s.clockSong then u.clockCorrect (s.targetFrom r (rec.anchor.getD 0))
        else u.clockSongChange (s.targetFrom r (rec.anchor.getD 0)) rec.song) :=
    .ite Iff.rfl (fun _ => a.clockCorrect _) fun _ => a.clockSongChange _ _
  have holds : ClockAgrees r ((s.setShowClock { s.showClock with song := some rec.song }).enterHeld (s.startOf rec.song))
      ((u.setShowClock { s.showClock with song := some rec.song }).enterHeld (s.startOf rec.song)) :=
    (a.setShowClock rfl).enterHeld rfl
  unfold State.clockFollow
  rw [a.showClock, a.clockSong, a.startOf]
  dsimp only
  rw [target]
  cases rec.transport with
  | playing =>
    cases s.showClock.state with
    | idle => exact .ite a.runs (fun _ => a) fun _ => a.clockLeaveIdle _ _
    | held => exact .ite Iff.rfl (fun _ => a.clockResume _) fun _ => a.clockSongChange _ _
    | running => exact corrects
    | slewing => exact corrects
    | freewheel => exact corrects
  | cued =>
    cases s.showClock.state with
    | idle => exact a
    | held => exact .ite Iff.rfl (fun _ => a) fun _ => a.setShowClock rfl
    | running => exact holds
    | slewing => exact holds
    | freewheel => exact holds
  | stopped =>
    have held := a.enterHeld a.holdValue
    cases s.showClock.state with
    | idle => exact a
    | held => exact a
    | running => exact held
    | slewing => exact held
    | freewheel => exact held

/-- R132: the Show Clock's re-evaluation agrees on parts that agree on what it reads. -/
theorem ClockAgrees.clockReevaluate (a : ClockAgrees r s u) : ClockAgrees r s.clockReevaluate u.clockReevaluate := by
  have followed : ClockAgrees r
      (match (s.parsers.get r).record with | some rec => s.clockFollow r rec | none => s)
      (match (s.parsers.get r).record with | some rec => u.clockFollow r rec | none => u) := by
    split
    · exact a.clockFollow _
    · exact a
  simp only [State.clockReevaluate, a.onAir, a.onAir', a.parser]
  exact ClockAgrees.ite (Iff.of_eq (congrArg (·.missing = true) followed.parser)) (fun _ => followed.enterFreewheel) fun _ => followed

/-! ### The standby delay settled (R66 to R68, R75) -/

/-- R67: the delay that the standby of the rig `r` requires for an offset. -/
def requiredFor (lines : PerRig TrimLine) (r : Rig) (offset : Int) : Int :=
  match r with
  | .a => lines.a.delay - offset
  | .b => lines.b.delay + offset

/-- R68, R75: alignment and lines with a delay in reach set, or deferred while CHANGING. -/
def Alignment.placed (x : Alignment) (lines : PerRig TrimLine) (r : Rig) (changing : Bool) (d : Int) : Alignment × PerRig TrimLine :=
  if changing then ({ x with deferred := some { link := r.other, delay := d.toNat }, lastRequired := some d }, lines)
  else ({ x with deferred := none, lastRequired := some d }, lines.set r.other { lines.get r.other with delay := d.toNat })

/-- R68: alignment and lines once the standby delay is settled against rig `r`. -/
def Alignment.settled (x : Alignment) (lines : PerRig TrimLine) (r : Rig) (changing : Bool) : Alignment × PerRig TrimLine :=
  let d := requiredFor lines r (x.accepted.getD 0)
  match x.state with
  | .none => ({ x with deferred := none }, lines)
  | .confirming => ({ x with deferred := none }, lines)
  | .outOfReach =>
    if inReach d then ({ x with state := .accepted, pairless := 0 } : Alignment).placed lines r changing d
    else ({ x with lastRequired := some d }, lines)
  | .accepted =>
    if inReach d then x.placed lines r changing d
    else ({ x with state := .outOfReach, deferred := none, lastRequired := some d }, lines)
  | .held =>
    if inReach d then x.placed lines r changing d
    else ({ x with
      state := .outOfReach, deferred := none, lastRequired := some d, pairless := 0, holdAge := 0, limitDue := false }, lines)

/-- R68: whether settling moves an accepted offset into reach or out of it, which raises ALIGNMENT_CHANGED. -/
def Alignment.reaches (x : Alignment) (lines : PerRig TrimLine) (r : Rig) : Bool :=
  let d := requiredFor lines r (x.accepted.getD 0)
  match x.state with
  | .none => false
  | .confirming => false
  | .outOfReach => inReach d
  | .accepted => !inReach d
  | .held => !inReach d

theorem reference_of_onAir (h : s.arbiter.onAir = some r) : s.arbiter.reference = r := by simp [Arbiter.reference, h]

theorem requiredDelay_eq (s : State) (o : Int) : s.requiredDelay o = requiredFor s.lines s.arbiter.reference o := by
  unfold State.requiredDelay requiredFor Arbiter.standby Arbiter.reference
  cases s.arbiter.onAir with
  | none => rfl
  | some r => cases r <;> rfl

theorem standby_eq (x : Arbiter) : x.standby = x.reference.other := by
  unfold Arbiter.standby Arbiter.reference
  cases x.onAir <;> rfl

theorem placeDelay_placed (s : State) (d : Int) : ((s.placeDelay d).alignment, (s.placeDelay d).lines) =
    s.alignment.placed s.lines s.arbiter.reference (s.arbiter.state = .changing) d := by
  unfold State.placeDelay Alignment.placed
  rw [standby_eq]
  by_cases h : s.arbiter.state = .changing
  · simp only [h, decide_true, if_true]
    rfl
  · simp only [h, decide_false, Bool.false_eq_true, if_false]
    rfl

/-- R68: settling does to alignment and lines what it reads of the part. -/
theorem settleDelay_settled (s : State) : (s.settleDelay.alignment, s.settleDelay.lines) =
      s.alignment.settled s.lines s.arbiter.reference (s.arbiter.state = .changing) ∧
    (s.alignment.reaches s.lines s.arbiter.reference = true → Noted s.settleDelay .alignmentChanged) := by
  have placed : ∀ v : State, v.lines = s.lines → v.arbiter = s.arbiter → ∀ d, ((v.placeDelay d).alignment, (v.placeDelay d).lines) =
      v.alignment.placed s.lines s.arbiter.reference (s.arbiter.state = .changing) d := fun v hl ha d => by
    rw [← hl, ← ha]
    exact placeDelay_placed v d
  cases hx : s.alignment.state with
  | none =>
    simp only [State.settleDelay, Alignment.settled, Alignment.reaches, hx]
    exact ⟨rfl, Bool.noConfusion⟩
  | confirming =>
    simp only [State.settleDelay, Alignment.settled, Alignment.reaches, hx]
    exact ⟨rfl, Bool.noConfusion⟩
  | outOfReach =>
    simp only [State.settleDelay, Alignment.settled, Alignment.reaches, hx, requiredDelay_eq]
    split
    · exact ⟨placed (s.setAlignment { s.alignment with state := .accepted, pairless := 0 }) rfl rfl _, fun _ => noted_raiseAll _ _⟩
    · exact ⟨rfl, fun h => absurd h ‹_›⟩
  | accepted =>
    simp only [State.settleDelay, Alignment.settled, Alignment.reaches, hx, requiredDelay_eq]
    split
    · rename_i hd
      exact ⟨placed _ rfl rfl _, fun h => by simp [hd] at h⟩
    · exact ⟨rfl, fun _ => noted_raiseAll _ _⟩
  | held =>
    simp only [State.settleDelay, Alignment.settled, Alignment.reaches, hx, requiredDelay_eq]
    split
    · rename_i hd
      exact ⟨placed _ rfl rfl _, fun h => by simp [hd] at h⟩
    · exact ⟨rfl, fun _ => noted_raiseAll _ _⟩

/-- R68: with no offset accepted settling drops a deferred delay. -/
theorem Alignment.settled_unsettled {x : Alignment} {lines : PerRig TrimLine} {changing : Bool} (h : x.state = .none ∨ x.state = .confirming) :
    x.settled lines r changing = ({ x with deferred := none }, lines) := by
  obtain ⟨state⟩ := x
  rcases h with rfl | rfl <;> rfl

/-- R68: an accepted offset in reach. -/
theorem Alignment.settled_inReach {x : Alignment} {lines : PerRig TrimLine} {changing : Bool}
    (h : x.state = .accepted ∨ x.state = .held ∨ x.state = .outOfReach)
    (hd : inReach (requiredFor lines r (x.accepted.getD 0)) = true) : x.settled lines r changing =
      ({ x with
        state := if x.state = .outOfReach then .accepted else x.state
        pairless := if x.state = .outOfReach then 0 else x.pairless } : Alignment).placed lines r changing
          (requiredFor lines r (x.accepted.getD 0)) := by
  obtain ⟨state⟩ := x
  rcases h with rfl | rfl | rfl <;> exact if_pos hd

/-- R68: an accepted offset out of reach. -/
theorem Alignment.settled_outOfReach {x : Alignment} {lines : PerRig TrimLine} {changing : Bool}
    (h : x.state = .accepted ∨ x.state = .held ∨ x.state = .outOfReach)
    (hd : ¬ inReach (requiredFor lines r (x.accepted.getD 0)) = true) : x.settled lines r changing =
      (match x.state with
        | .held => { x with
            state := .outOfReach, deferred := none, lastRequired := some (requiredFor lines r (x.accepted.getD 0)), pairless := 0,
            holdAge := 0, limitDue := false }
        | .accepted => { x with
            state := .outOfReach, deferred := none, lastRequired := some (requiredFor lines r (x.accepted.getD 0)) }
        | _ => { x with lastRequired := some (requiredFor lines r (x.accepted.getD 0)) }, lines) := by
  obtain ⟨state⟩ := x
  rcases h with rfl | rfl | rfl <;> exact if_neg hd

/-- R66: settling leaves the line of the rig it settles against. -/
theorem Alignment.settled_line (x : Alignment) (lines : PerRig TrimLine) (r : Rig) (changing : Bool) :
    (x.settled lines r changing).2.get r = lines.get r := by
  have kept : ∀ (x : Alignment) d, (x.placed lines r changing d).2.get r = lines.get r := by
    intro x d
    unfold Alignment.placed
    split
    · rfl
    · cases r <;> rfl
  unfold Alignment.settled
  dsimp only
  split
  · rfl
  · rfl
  all_goals
    split
    · exact kept _ _
    · rfl

/-- R75: while CHANGING settling moves no delay. -/
theorem Alignment.settled_changing (x : Alignment) (lines : PerRig TrimLine) (r : Rig) : (x.settled lines r true).2 = lines := by
  unfold Alignment.settled
  dsimp only
  split
  · rfl
  · rfl
  all_goals split <;> rfl

/-- Log 35: a settling while CHANGING and one at the completion leave what the second alone does. -/
theorem Alignment.settled_again (x : Alignment) (lines : PerRig TrimLine) (r : Rig) (changing : Bool) :
    (x.settled lines r true).1.settled (x.settled lines r true).2 r changing = x.settled lines r changing := by
  cases hx : x.state with
  | none => simp [Alignment.settled, hx]
  | confirming => simp [Alignment.settled, hx]
  | outOfReach =>
    by_cases hd : inReach (requiredFor lines r (x.accepted.getD 0)) = true
    · simp [Alignment.settled, Alignment.placed, hx, hd]
    · simp [Alignment.settled, hx, hd]
  | accepted =>
    by_cases hd : inReach (requiredFor lines r (x.accepted.getD 0)) = true
    · simp [Alignment.settled, Alignment.placed, hx, hd]
    · simp [Alignment.settled, hx, hd]
  | held =>
    by_cases hd : inReach (requiredFor lines r (x.accepted.getD 0)) = true
    · simp [Alignment.settled, Alignment.placed, hx, hd]
    · simp [Alignment.settled, hx, hd]

/-- R66 to R68: what the statements say of a settled delay, from alignment and lines. -/
theorem standbySettled_of (h : (t.alignment, t.lines) = p.alignment.settled p.lines r (t.arbiter.state = .changing))
    (hn : p.alignment.reaches p.lines r = true → Noted t .alignmentChanged) : StandbySettled p t r := by
  refine ⟨fun hx => ?_, fun a ha hx => ?_⟩
  · rw [Alignment.settled_unsettled hx, Prod.mk.injEq] at h
    exact ⟨h.2, h.1⟩
  · intro d state pairless
    have hd : d = requiredFor p.lines r a := rfl
    clear_value d
    subst hd
    have offset : p.alignment.accepted.getD 0 = a := by rw [ha]; rfl
    refine ⟨fun reach => ?_, fun reach => ?_⟩
    · have reached : inReach (requiredFor p.lines r (p.alignment.accepted.getD 0)) = true := by
        rw [offset]; exact (inReach_iff _).mpr reach
      rw [Alignment.settled_inReach hx reached, offset] at h
      refine ⟨fun out => hn ?_, fun changing => ?_, fun still => ?_⟩
      · simpa [Alignment.reaches, out] using reached
      · rw [Alignment.placed, decide_eq_true changing, if_pos rfl, Prod.mk.injEq] at h
        exact ⟨h.2, h.1⟩
      · rw [Alignment.placed, decide_eq_false still, if_neg Bool.noConfusion, Prod.mk.injEq] at h
        rw [h.1, h.2, PerRig.get_set_same]
        exact ⟨by cases r <;> rfl, rfl, rfl⟩
    · have far : ¬ inReach (requiredFor p.lines r (p.alignment.accepted.getD 0)) = true := by
        rw [offset, inReach_iff]; omega
      rw [Alignment.settled_outOfReach hx far, Prod.mk.injEq, offset] at h
      refine ⟨h.2, fun out => hn ?_, h.1⟩
      rcases hx with hx | hx | hx
      · simpa [Alignment.reaches, hx] using far
      · simpa [Alignment.reaches, hx] using far
      · exact absurd hx out

end Sys2Proof.Machine

/-! PROOFS. The arbiter's standing tests (R89, R94), a rig handed on air (R82, R83, R132), and a changeover begun or reversed with
what completes it at once (R88, R89, R91). -/

namespace Sys2Proof.Machine

open Sys2Proof

/- In order: bodies elaborated side by side while the kernel still checks the text above each hold a thread's stack. -/
set_option Elab.async false

variable {s t u v x y p : State} {r : Rig} {bank : State → State} {n : Nat}

/-! ### The standing tests -/

theorem arbRunWith_still (hc : s.completionHolds = false) (hl : s.lateFailoverHolds = false) : arbRunWith bank n s = s := by
  cases n with
  | zero => rfl
  | succ n => rw [arbRunWith, hc, hl]; rfl

theorem arbRunWith_completes (hc : s.completionHolds = true) :
    arbRunWith bank (n + 1) s = arbRunWith bank n (s.completeWith bank) := if_pos hc

theorem arbRunWith_fails (hc : s.completionHolds = false) (hl : s.lateFailoverHolds = true) :
    arbRunWith bank (n + 1) s = arbRunWith bank n (s.enterChanging .lateFailover) := by
  rw [arbRunWith, hc, hl]
  rfl

/-- With no test of the arbiter's holding nothing follows. -/
theorem run_still (hc : s.completionHolds = false) (hl : s.lateFailoverHolds = false) : s.run = s := arbRunWith_still hc hl

theorem completionHolds_of_not_changing (h : s.arbiter.state ≠ .changing) : s.completionHolds = false := by
  rw [Bool.eq_false_iff]
  exact fun holds => h (State.changing_of_completionHolds holds)

theorem lateFailoverHolds_of_not_blind (h : s.arbiter.state ≠ .blind) : s.lateFailoverHolds = false := by
  rw [Bool.eq_false_iff]
  exact fun holds => h (State.blind_of_lateFailoverHolds holds)

theorem lateFailoverHolds_of_manual (h : s.arbiter.mode = .manual) : s.lateFailoverHolds = false := by
  simp [State.lateFailoverHolds, State.autoPermitted, h]

/-- R94: the late failover's test, term by term. -/
theorem lateFailoverHolds_iff : s.lateFailoverHolds = true ↔ s.arbiter.state = .blind ∧ s.arbiter.mode = .auto ∧
    s.arbiter.inhibit = false ∧ (s.bank.front.song.get (songIndex s.arbiter.song)).auto = true ∧ s.arbiter.eligible = true := by
  simp [State.lateFailoverHolds, State.autoPermitted, and_assoc]

/-- R89: the completion test, group by group. -/
theorem completionHolds_iff : s.completionHolds = true ↔ s.arbiter.state = .changing ∧
    ∀ j, (s.mixer.groups.get j).mode = .follow → (s.mixer.groups.get j).transition = none ∧
      (s.mixer.groups.get j).current = Source.ofOnAir s.arbiter.onAir := by
  simp only [State.completionHolds, Bool.and_eq_true, beq_iff_eq, List.all_eq_true, List.mem_finRange, true_implies, Bool.or_eq_true,
    bne_iff_ne, ne_eq, Option.isNone_iff_eq_none]
  refine and_congr_right fun _ => forall_congr' fun j => ?_
  tauto

/-- R89: the completion test reads the groups, and of the arbiter its state and the on-air rig. -/
theorem completionHolds_congr (hs : t.arbiter.state = s.arbiter.state) (ho : t.arbiter.onAir = s.arbiter.onAir)
    (hm : t.mixer.groups = s.mixer.groups) : t.completionHolds = s.completionHolds := by
  unfold State.completionHolds
  rw [hs, ho, hm]

/-- R170: no exchange that fell due is pending. -/
def State.noneDue (s : State) : Prop := ∀ e, s.bank.exchange = some e → e.due = false

theorem noneDue_of_none (h : s.bank.exchange = none) : s.noneDue := fun e he => by rw [h] at he; cases he

theorem dueExchangeWith_of_noneDue {run : State → State} (h : s.noneDue) : s.dueExchangeWith run = s := by
  unfold State.dueExchangeWith
  split
  · rfl
  · rename_i e he
    rw [h e he]
    rfl

/-- R76: eligibility reads the on-air rig, the health states as handed on, the alignment state and the links. -/
theorem eligibleNow_congr (ho : t.arbiter.onAir = s.arbiter.onAir) (hi : t.instantHealth = s.instantHealth)
    (ha : t.alignment.state = s.alignment.state) (hl : t.links = s.links) : t.eligibleNow = s.eligibleNow := by
  unfold State.eligibleNow Arbiter.standby State.handed
  rw [ho, hi, ha, hl]

theorem reEligible_arbiter (s : State) : s.reEligible.arbiter = { s.arbiter with eligible := s.reEligible.eligibleNow } := by
  rw [show s.reEligible.eligibleNow = s.eligibleNow from eligibleNow_congr rfl rfl rfl rfl]
  rfl

/-- R106: a group's target reads the arbiter's state and its on-air rig. -/
theorem targetOf_congr {a b : Arbiter} (hs : b.state = a.state) (ho : b.onAir = a.onAir) : targetOf b = targetOf a := by
  funext policy mode
  unfold targetOf
  rw [hs, ho]

/-- R106: the retargeting of all groups between parts with the same groups, under the same policies and targets. -/
theorem groupsRetargeted_congr {b c : Bank} {a d : Arbiter} (h : GroupsRetargeted b a p t) (hb : c.group = b.group)
    (hs : d.state = a.state) (ho : d.onAir = a.onAir) (hp : s.mixer = p.mixer) (ht : u.mixer = t.mixer) : GroupsRetargeted c d s u := by
  obtain ⟨mixer, groups⟩ := h
  exact ⟨by rw [ht, hp]; exact mixer, fun i => by rw [hb, targetOf_congr hs ho, hp, ht]; exact groups i⟩

/-! ### A rig handed on air (R82, R83, R132) -/

/-- R83: a rig that has come on air is handed to the Alignment Monitor, the Show Clock and the Group Mixer. -/
theorem handOnAir_leaves (h : y.arbiter.onAir = some r) (still : y.arbiter.state ≠ .blind ∨ y.arbiter.mode = .manual) :
    let v := y.handOnAir
    Touches changeBlocks y v ∧ v.arbiter = { y.arbiter with eligible := v.eligibleNow } ∧
      (v.alignment, v.lines) = y.alignment.settled y.lines r (y.arbiter.state = .changing) ∧
      (y.alignment.reaches y.lines r = true → Noted v .alignmentChanged) ∧ ClockAgrees r y.clockReevaluate v ∧
      GroupsRetargeted y.bank.front y.arbiter y v := by
  intro v
  have reference := reference_of_onAir h
  obtain ⟨settled, noted⟩ := settleDelay_settled y
  have touched := y.touches_settleDelay
  rw [reference] at settled noted
  have lines : y.settleDelay.lines.get r = y.lines.get r := by
    rw [show y.settleDelay.lines = _ from congrArg Prod.snd settled, Alignment.settled_line]
  have notices := settleDelay_noticesKept y
  have handed : v = y.settleDelay.reEligible.clockReevaluate.handTargets := rfl
  clear_value v
  generalize y.settleDelay = w at settled noted touched lines notices handed
  have agrees : ClockAgrees r y w.reEligible :=
    ⟨touched.clock, touched.showClock, touched.tcOutput, congrArg BankStore.front touched.bank, congrArg BankStore.setup touched.bank,
      congrArg (·.get r) touched.parsers, congrArg TrimLine.delay lines, (congrArg Arbiter.onAir touched.arbiter).trans h, h,
      Iff.of_eq (congrArg (fun x => x.state = .stopped) touched.arbiter), notices.trans (.of_ports rfl)⟩
  have clocked : Touches [.showClock, .tcOutput, .ports] w.reEligible w.reEligible.clockReevaluate :=
    Touches.refl.clockReevaluate (by decide)
  have kept : NoticesKept w w.reEligible.clockReevaluate := ((Moves.refl (writes := False) w).reEligible.clockReevaluate).noticesKept
  have eligible := reEligible_arbiter w
  generalize hz : w.reEligible.clockReevaluate = z at handed clocked kept
  have agreed : ClockAgrees r y.clockReevaluate z := by rw [← hz]; exact agrees.clockReevaluate
  have arbiter : z.arbiter = { y.arbiter with eligible := z.eligibleNow } := by
    rw [clocked.arbiter, eligible, touched.arbiter, eligibleNow_congr (s := w.reEligible) (t := z) (by rw [clocked.arbiter])
      clocked.instantHealth (by rw [clocked.alignment]) clocked.links]
  have quiet : z.lateFailoverHolds = false := by
    rcases still with still | still
    · exact lateFailoverHolds_of_not_blind (by rw [arbiter]; exact still)
    · exact lateFailoverHolds_of_manual (by rw [arbiter]; exact still)
  have targets : v = z.retargetAll := by rw [handed, State.handTargets, quiet]; rfl
  subst targets
  have before : Touches [.lines, .alignment, .arbiter, .showClock, .tcOutput, .ports] y z :=
    ((touched.mono (by decide)).reEligible (by decide)).andThen clocked (by decide)
  refine ⟨(before.mono (by decide)).retargetAll (by decide), arbiter, ?_, fun reaches => ?_, ?_, ?_⟩
  · exact (Prod.ext clocked.alignment clocked.lines).trans settled
  · exact (noted reaches).kept kept
  · exact ⟨agreed.clock, agreed.showClock, agreed.tcOutput, agreed.front, agreed.setup, agreed.parser, agreed.delay, agreed.onAir,
      agreed.onAir', agreed.runs, agreed.notices⟩
  · exact groupsRetargeted_congr (groupsRetargeted_retargetAll z) (by rw [before.bank]) (by rw [arbiter]) (by rw [arbiter])
      before.mixer.symm rfl

/-! ### A changeover begun (R88, R91) -/

/-- R88, R91: `x` is the part `p` with the arbiter's values of a changeover toward rig `r`, before that rig is handed on. -/
structure Begun (p x : State) (r : Rig) : Prop where
  touched : Touches [.arbiter] p x
  state : x.arbiter.state = .changing
  onAir : x.arbiter.onAir = some r
  outgoing : x.arbiter.outgoing = some r.other
  song : x.arbiter.song = p.arbiter.song
  sequence : x.arbiter.nextSequence = p.arbiter.nextSequence + 1
  mode : x.arbiter.mode = p.arbiter.mode
  inhibit : x.arbiter.inhibit = p.arbiter.inhibit

/-- R82, R83: the song in force follows the new on-air rig, which is handed on. -/
def State.takeOver (x : State) : State := (x.updateSong.raiseAll .onAirChanged).handOnAir

/-- R88: the part at the entry to CHANGING toward rig `r`. -/
def State.changeBegun (s : State) (r : Rig) (c : Cause) : State :=
  let s := s.openEntry r.other r c
  s.setArbiter { s.arbiter with state := .changing, onAir := some r, outgoing := some r.other }

/-- R91: the part at the reversal toward rig `r`. -/
def State.changeReversed (s : State) (r : Rig) : State :=
  let s := (s.closeEntry .reversed).openEntry r.other r .reversal
  s.setArbiter { s.arbiter with onAir := some r, outgoing := some r.other }

theorem enterChanging_eq (h : s.arbiter.onAir = some r.other) (c : Cause) : s.enterChanging c = (s.changeBegun r c).takeOver := by
  simp only [State.enterChanging, h, Rig.other_other]
  rfl

theorem reverse_eq (h : s.arbiter.onAir = some r.other) : s.reverse = (s.changeReversed r).takeOver := by
  simp only [State.reverse, h, Rig.other_other]
  rfl

theorem begun_changeBegun (s : State) (r : Rig) (c : Cause) : Begun s (s.changeBegun r c) r :=
  ⟨(Touches.refl.openEntry (by decide)).setArbiter (by decide), rfl, rfl, rfl, rfl, rfl, rfl, rfl⟩

theorem begun_changeReversed (h : s.arbiter.state = .changing) (r : Rig) : Begun s (s.changeReversed r) r :=
  ⟨((Touches.refl.closeEntry (by decide)).openEntry (by decide)).setArbiter (by decide), h, rfl, rfl, rfl, rfl, rfl, rfl⟩

/-- R82, R83, R88, R91: what the handing on of a changeover's incoming rig leaves, while it runs. -/
structure TakenOver (p x v : State) (r : Rig) : Prop where
  touched : Touches changeBlocks p v
  arbiter : v.arbiter = { x.arbiter with song := p.songOn r, eligible := v.eligibleNow }
  settled : (v.alignment, v.lines) = p.alignment.settled p.lines r true
  reaches : p.alignment.reaches p.lines r = true → Noted v .alignmentChanged
  noted : Noted v .onAirChanged
  notices : NoticesKept p v
  clock : ∀ st : ArbState, st ≠ .stopped →
    ClockAgrees r (p.setArbiter { p.arbiter with state := st, onAir := some r }).clockReevaluate v
  groups : GroupsRetargeted p.bank.front { p.arbiter with state := .changing, onAir := some r } p v

theorem Begun.takenOver (b : Begun p x r) : TakenOver p x x.takeOver r := by
  have song : x.songOn r = p.songOn r := by
    unfold State.songOn
    rw [b.touched.parsers, b.song]
  generalize hy : x.updateSong.raiseAll .onAirChanged = y
  have arbiter : y.arbiter = { x.arbiter with song := p.songOn r } := by
    rw [← hy, State.updateSong_of_onAir b.onAir, song]
    rfl
  have before : Touches [.arbiter, .ports] p y := by
    rw [← hy]
    exact ((b.touched.mono (by decide)).updateSong (by decide)).raiseAll (by decide)
  have noted : Noted y .onAirChanged := by rw [← hy]; exact noted_raiseAll _ _
  have notices : NoticesKept p y := by
    have song : Touches [.arbiter] p x.updateSong := b.touched.updateSong (by decide)
    rw [← hy]
    exact noticesKept_raiseAll_of song.ports
  have onAir : y.arbiter.onAir = some r := by rw [arbiter]; exact b.onAir
  have changing : y.arbiter.state = .changing := by rw [arbiter]; exact b.state
  obtain ⟨touched, handed, settled, reaches, clock, groups⟩ := handOnAir_leaves onAir (.inl (by rw [changing]; exact ArbState.noConfusion))
  have kept : NoticesKept y y.handOnAir := ((Moves.refl (writes := False) y).handOnAir).noticesKept
  rw [show x.takeOver = y.handOnAir by rw [← hy]; rfl]
  rw [before.alignment, before.lines] at settled reaches
  refine ⟨(before.mono (by decide)).trans touched, by rw [handed, arbiter], ?_, reaches, noted.kept kept, notices.trans kept,
    fun st run => ?_, ?_⟩
  · rw [settled, changing]
    rfl
  · have agrees : ClockAgrees r (p.setArbiter { p.arbiter with state := st, onAir := some r }) y :=
      ⟨before.clock, before.showClock, before.tcOutput, congrArg _ before.bank, congrArg _ before.bank, congrArg (·.get r) before.parsers,
        by rw [before.lines]; rfl, onAir, rfl, iff_of_false (by rw [changing]; exact ArbState.noConfusion) run, notices⟩
    have first := agrees.clockReevaluate
    exact ⟨clock.clock.trans first.clock, clock.showClock.trans first.showClock, clock.tcOutput.trans first.tcOutput,
      clock.front.trans first.front, clock.setup.trans first.setup, clock.parser.trans first.parser, clock.delay.trans first.delay,
      clock.onAir, first.onAir', clock.runs.trans first.runs, first.notices.trans clock.notices⟩
  · exact groupsRetargeted_congr groups (by rw [before.bank]) changing.symm (by rw [onAir]) before.mixer.symm rfl

/-! ### The completion of a changeover (R89) -/

/-- R89: a completion but for what the Bank Store does at it and the groups' targets of BLIND. -/
structure Completed (s c : State) (r : Rig) : Prop where
  touched : Touches [.lines, .alignment, .arbiter, .ports] s c
  arbiter : c.arbiter = { s.arbiter with
    state := if (s.handed r).down then .blind else .steady, outgoing := none, eligible := c.eligibleNow
    history := closedHistory .completed s.arbiter.history }
  settled : (c.alignment, c.lines) = s.alignment.settled s.lines r false
  reaches : s.alignment.reaches s.lines r = true → Noted c .alignmentChanged
  noted : Noted c .changeDone
  blind : (s.handed r).down = true → Noted c .blindEntered
  notices : NoticesKept s c

theorem completed_completed (h : s.arbiter.onAir = some r) : Completed s s.completed r := by
  have down : (s.closeEntry .completed).onAirDown = (s.handed r).down := by
    rw [show (s.closeEntry .completed).onAirDown = s.onAirDown from rfl, State.onAirDown, h]
  generalize hx : (s.closeEntry .completed).setArbiter { (s.closeEntry .completed).arbiter with
    state := if (s.closeEntry .completed).onAirDown then .blind else .steady, outgoing := none } = x
  generalize hy : (if x.arbiter.state = .blind then x.raiseAll .blindEntered else x) = y
  have blind : x.arbiter.state = .blind ↔ (s.handed r).down = true := by
    rw [← hx, setArbiter_arbiter, down]
    cases (s.handed r).down <;> simp
  have arbiter : y.arbiter = { s.arbiter with
      state := if (s.handed r).down then .blind else .steady, outgoing := none, history := closedHistory .completed s.arbiter.history } := by
    rw [← hy, ← down, ← hx]
    split <;> rfl
  have alignment : y.alignment = s.alignment ∧ y.lines = s.lines := by
    rw [← hy, ← hx]
    split <;> exact ⟨rfl, rfl⟩
  have notices : NoticesKept s y := by
    rw [← hy]
    split
    · exact noticesKept_raiseAll_of (by rw [← hx]; rfl)
    · exact .of_ports (by rw [← hx]; rfl)
  have completed : s.completed = (y.raiseAll .changeDone).settleDelay.reEligible := by
    rw [← hy, ← hx]
    rfl
  obtain ⟨alignment, lines⟩ := alignment
  generalize hz : y.raiseAll .changeDone = z at completed
  have raised : Touches [.ports] y z := by rw [← hz]; exact Touches.refl.raiseAll (by decide)
  have done : Noted z .changeDone := by rw [← hz]; exact noted_raiseAll _ _
  have kept : NoticesKept y z := by rw [← hz]; exact noticesKept_raiseAll _ _
  obtain ⟨settled, reaches⟩ := settleDelay_settled z
  have onAir : z.arbiter.onAir = some r := by rw [raised.arbiter, arbiter]; exact h
  have still : decide (z.arbiter.state = .changing) = false := by
    rw [raised.arbiter, arbiter]
    cases (s.handed r).down <;> rfl
  rw [reference_of_onAir onAir, raised.alignment, raised.lines, alignment, lines] at settled reaches
  rw [still] at settled
  have eligible := reEligible_arbiter z.settleDelay
  have settling := settleDelay_noticesKept z
  refine ⟨s.touches_completed, ?_, ?_, fun h => ?_, ?_, fun isDown => ?_, ?_⟩
  · rw [completed, eligible, z.touches_settleDelay.arbiter, raised.arbiter, arbiter]
  · rw [completed]
    exact settled
  · rw [completed]
    exact (reaches h).kept (.of_ports rfl)
  · rw [completed]
    exact done.kept (settling.trans (.of_ports rfl))
  · have noted : Noted y .blindEntered := by
      rw [← hy, if_pos (blind.mpr isDown)]
      exact noted_raiseAll _ _
    rw [completed]
    exact noted.kept (kept.trans (settling.trans (.of_ports rfl)))
  · rw [completed]
    exact notices.trans (kept.trans (settling.trans (.of_ports rfl)))

/-- R89, R93: a completion that no late failover follows and at which no exchange is due. -/
theorem arbRun_completes {run : State → State} (onAir : s.arbiter.onAir = some r) (hc : s.completionHolds = true) (due : s.noneDue)
    (quiet : s.completed.lateFailoverHolds = false) : arbRunWith (State.dueExchangeWith run) (n + 1) s =
      if s.completed.arbiter.state = .blind then s.completed.retargetAll else s.completed := by
  have nothing : s.completed.dueExchangeWith run = s.completed :=
    dueExchangeWith_of_noneDue fun e he => due e (by rw [← s.touches_completed.bank]; exact he)
  have targets : s.completed.handTargets = s.completed.retargetAll := by rw [State.handTargets, quiet]; rfl
  rw [arbRunWith_completes hc, State.completeWith_eq, nothing, targets]
  by_cases blind : s.completed.arbiter.state = .blind
  · rw [if_pos blind]
    refine arbRunWith_still (completionHolds_of_not_changing ?_) quiet
    change s.completed.arbiter.state ≠ .changing
    rw [blind]
    exact ArbState.noConfusion
  · rw [if_neg blind]
    refine arbRunWith_still (completionHolds_of_not_changing ?_) quiet
    rw [(completed_completed onAir).arbiter]
    dsimp only
    split <;> exact ArbState.noConfusion

/-- R88 to R91: a changeover toward rig `r`, begun from `p` as `x`, with what completes it at once, as `t`. -/
structure Ran (p x t : State) (r : Rig) : Prop where
  begun : ChangeoverBegun p t r
  touched : Touches changeBlocks p t
  mode : t.arbiter.mode = p.arbiter.mode
  inhibit : t.arbiter.inhibit = p.arbiter.inhibit
  notices : NoticesKept p t
  outcome : (t.arbiter.state = .changing ∧ t.arbiter.outgoing = some r.other ∧ t.lines = p.lines ∧
      t.arbiter.history = x.arbiter.history) ∨
    (t.arbiter.state = (if (p.handed r).down then .blind else .steady) ∧ t.arbiter.outgoing = none ∧ Noted t .changeDone ∧
      ((p.handed r).down = true → Noted t .blindEntered) ∧ t.arbiter.history = closedHistory .completed x.arbiter.history)

/-- R82, R83: a changeover that runs on. -/
theorem TakenOver.ran (b : Begun p x r) (k : TakenOver p x v r) : Ran p x v r := by
  obtain ⟨touched, arbiter, settled, reaches, noted, notices, clock, groups⟩ := k
  have state : v.arbiter.state = .changing := by rw [arbiter]; exact b.state
  refine ⟨⟨⟨by rw [arbiter]; exact b.onAir, by rw [arbiter]; rfl, by rw [arbiter], standbySettled_of ?_ reaches, noted, ?_⟩,
    by rw [arbiter]; exact b.sequence, v, groups, fun _ => rfl, fun blind => ?_⟩, touched, by rw [arbiter]; exact b.mode,
    by rw [arbiter]; exact b.inhibit, notices, .inl ⟨state, by rw [arbiter]; exact b.outgoing, ?_, by rw [arbiter]⟩⟩
  · rw [settled, state]
    rfl
  · have agrees := clock v.arbiter.state (by rw [state]; exact ArbState.noConfusion)
    exact ⟨agrees.showClock, agrees.tcOutput, agrees.notices⟩
  · rw [state] at blind
    cases blind
  · rw [← p.alignment.settled_changing p.lines r]
    exact congrArg Prod.snd settled

/-- R89, R93: a changeover that completes at once, its groups taking the targets of BLIND last. -/
theorem TakenOver.completes {w : State} (b : Begun p x r) (k : TakenOver p x v r) (c : Completed v w r) (ht : Touches [.mixer] w t)
    (hn : w.arbiter.state ≠ .blind → t.mixer = w.mixer)
    (hb : w.arbiter.state = .blind → GroupsRetargeted w.bank.front w.arbiter w t) : Ran p x t r := by
  obtain ⟨touched, arbiter, settled, reaches, noted, notices, clock, groups⟩ := k
  obtain ⟨cTouched, cArbiter, cSettled, cReaches, done, blind, cNotices⟩ := c
  have before : Touches changeBlocks p t := (touched.trans (cTouched.mono (by decide))).andThen ht (by decide)
  have kept : NoticesKept v t := cNotices.trans (.of_ports ht.ports)
  have down : v.handed r = p.handed r := by unfold State.handed; rw [touched.instantHealth]
  have values : t.arbiter = { x.arbiter with
      song := p.songOn r, state := if (p.handed r).down then .blind else .steady, outgoing := none, eligible := t.eligibleNow
      history := closedHistory .completed x.arbiter.history } := by
    rw [ht.arbiter, cArbiter, arbiter, down, eligibleNow_congr (s := w) (t := t) (by rw [ht.arbiter]) ht.instantHealth
      (by rw [ht.alignment]) ht.links]
  have settledAgain : (t.alignment, t.lines) = p.alignment.settled p.lines r (t.arbiter.state = .changing) := by
    have first : v.alignment = (p.alignment.settled p.lines r true).1 ∧ v.lines = (p.alignment.settled p.lines r true).2 :=
      ⟨congrArg Prod.fst settled, congrArg Prod.snd settled⟩
    rw [ht.alignment, ht.lines, cSettled, first.1, first.2, Alignment.settled_again, values]
    cases (p.handed r).down <;> rfl
  have runs : t.arbiter.state ≠ .stopped := by
    rw [values]
    cases (p.handed r).down <;> exact ArbState.noConfusion
  refine ⟨⟨⟨by rw [values]; exact b.onAir, by rw [values]; rfl, by rw [values], standbySettled_of settledAgain fun h =>
    (reaches h).kept kept, noted.kept kept, ?_⟩, by rw [values]; exact b.sequence, v, groups, fun blind => ?_, fun blind => ?_⟩, before,
    by rw [values]; exact b.mode, by rw [values]; exact b.inhibit, notices.trans kept,
    .inr ⟨by rw [values], by rw [values], done.kept (.of_ports ht.ports), fun h => (blind (by rw [down]; exact h)).kept (.of_ports ht.ports),
      by rw [values]⟩⟩
  · have agrees := clock t.arbiter.state runs
    exact ⟨by rw [ht.showClock, cTouched.showClock]; exact agrees.showClock,
      by rw [ht.tcOutput, cTouched.tcOutput]; exact agrees.tcOutput, agrees.notices.trans kept⟩
  · rw [hn (by rw [← ht.arbiter]; exact blind), cTouched.mixer]
  · refine groupsRetargeted_congr (hb (by rw [← ht.arbiter]; exact blind)) ?_ (by rw [ht.arbiter]) (by rw [ht.arbiter])
      cTouched.mixer.symm rfl
    rw [cTouched.bank, touched.bank]

/-- R88 to R94: a changeover toward rig `r` begun from `p`, with what completes it at once; no exchange is due and no late failover
follows. -/
theorem Begun.ran {run : State → State} (b : Begun p x r) (due : p.noneDue) (hd : (p.handed r).down = false ∨ p.arbiter.mode = .manual) :
    Ran p x (arbRunWith (State.dueExchangeWith run) (n + 1) x.takeOver) r := by
  have k := b.takenOver
  generalize x.takeOver = v at k
  have onAir : v.arbiter.onAir = some r := by rw [k.arbiter]; exact b.onAir
  have changing : v.arbiter.state = .changing := by rw [k.arbiter]; exact b.state
  cases hc : v.completionHolds with
  | false =>
    rw [arbRunWith_still hc (lateFailoverHolds_of_not_blind (by rw [changing]; exact ArbState.noConfusion))]
    exact k.ran b
  | true =>
    have c := completed_completed onAir
    have down : v.handed r = p.handed r := by unfold State.handed; rw [k.touched.instantHealth]
    have quiet : v.completed.lateFailoverHolds = false := by
      rcases hd with hd | hd
      · exact lateFailoverHolds_of_not_blind (by rw [c.arbiter, down, hd]; exact ArbState.noConfusion)
      · exact lateFailoverHolds_of_manual (by rw [c.arbiter, k.arbiter]; exact b.mode.trans hd)
    rw [arbRun_completes onAir hc (fun e he => due e (by rw [← k.touched.bank]; exact he)) quiet]
    by_cases blind : v.completed.arbiter.state = .blind
    · rw [if_pos blind]
      exact k.completes b c (Touches.refl.retargetAll (by decide)) (fun h => absurd blind h) fun _ => groupsRetargeted_retargetAll _
    · rw [if_neg blind]
      exact k.completes b c .refl (fun _ => rfl) fun h => absurd h blind

end Sys2Proof.Machine

/-! PROOFS. TAKE, SET_MODE with its late failover, and START (sections 5.2, 5.4 to 5.7). -/

namespace Sys2Proof.Machine

open Sys2Proof

/- In order: bodies elaborated side by side while the kernel still checks the text above each hold a thread's stack. -/
set_option Elab.async false

variable {s t v x p : State} {r : Rig} {q : Port} {l : List HistoryEntry} {e : HistoryEntry}

/-! ### A part that differs in its ports alone -/

/-- `t` is `v` but for its ports, on which every notice of `v` stands. -/
structure Ported (v t : State) : Prop where
  touched : Touches [.ports] v t
  notices : NoticesKept v t

/-- R182: a transaction that ends with DONE. -/
theorem ported_deselect (v : State) (q : Port) : Ported v (v.deselect q .done) :=
  ⟨(deselect_done v q).1.1, noticesKept_deselect_done v q⟩

theorem StandbySettled.ported (h : StandbySettled p v r) (k : Ported v t) : StandbySettled p t r := by
  obtain ⟨unsettled, settled⟩ := h
  have lines := k.touched.lines
  have alignment := k.touched.alignment
  have arbiter := k.touched.arbiter
  refine ⟨by rw [lines, alignment]; exact unsettled, fun a ha state => ?_⟩
  obtain ⟨inside, outside⟩ := settled a ha state
  rw [lines, alignment, arbiter]
  exact ⟨fun near => ⟨fun out => ((inside near).1 out).kept k.notices, (inside near).2⟩,
    fun far => ⟨(outside far).1, fun out => ((outside far).2.1 out).kept k.notices, (outside far).2.2⟩⟩

theorem Ported.eligibleNow (k : Ported v t) : t.eligibleNow = v.eligibleNow :=
  eligibleNow_congr (by rw [k.touched.arbiter]) k.touched.instantHealth (by rw [k.touched.alignment]) k.touched.links

theorem RigPutOnAir.ported (h : RigPutOnAir p v r) (k : Ported v t) : RigPutOnAir p t r := by
  obtain ⟨onAir, song, eligible, settled, noted, showClock, tcOutput, notices⟩ := h
  have arbiter := k.touched.arbiter
  rw [← arbiter] at onAir song eligible showClock tcOutput notices
  exact ⟨onAir, song, eligible.trans k.eligibleNow.symm, settled.ported k, noted.kept k.notices, k.touched.showClock.trans showClock,
    k.touched.tcOutput.trans tcOutput, notices.trans k.notices⟩

theorem ChangeoverBegun.ported (h : ChangeoverBegun p v r) (k : Ported v t) : ChangeoverBegun p t r := by
  obtain ⟨onAir, sequence, u, groups, running, blind⟩ := h
  refine ⟨onAir.ported k, by rw [k.touched.arbiter]; exact sequence, u, groups, ?_, ?_⟩
  · rw [k.touched.arbiter, k.touched.mixer]
    exact running
  · rw [k.touched.arbiter]
    exact fun h => groupsRetargeted_congr (blind h) rfl rfl rfl rfl k.touched.mixer

theorem Ran.ported (h : Ran p x v r) (k : Ported v t) : Ran p x t r := by
  obtain ⟨begun, touched, mode, inhibit, notices, outcome⟩ := h
  have arbiter := k.touched.arbiter
  refine ⟨begun.ported k, touched.andThen k.touched (by decide), by rw [arbiter]; exact mode, by rw [arbiter]; exact inhibit,
    notices.trans k.notices, ?_⟩
  rw [arbiter, k.touched.lines]
  exact outcome.imp_right fun ⟨state, outgoing, done, blind, history⟩ =>
    ⟨state, outgoing, done.kept k.notices, fun down => (blind down).kept k.notices, history⟩

/-! ### The history entry of a changeover (R100, R101) -/

/-- R100: the entry that a changeover from the other rig toward rig `r` opens. -/
def State.newEntry (s : State) (r : Rig) (c : Cause) : HistoryEntry :=
  { sequence := s.arbiter.nextSequence, stamp := s.clock.count, timecode := s.shown.map (·.1), fromRig := r.other, toRig := r, cause := c
    ending := .inFlight, failing := s.qualified r.other }

theorem changeBegun_history (s : State) (r : Rig) (c : Cause) :
    (s.changeBegun r c).arbiter.history = keptHistory s.arbiter.history ++ [s.newEntry r c] := rfl

/-- R91, R101: the entry of the changeover that is reversed closes REVERSED, and then the oldest entry may fall out. -/
theorem changeReversed_history (s : State) (r : Rig) : (s.changeReversed r).arbiter.history =
    closedHistory .reversed (keptHistory s.arbiter.history) ++ [s.newEntry r .reversal] := by
  have commute : keptHistory (closedHistory .reversed s.arbiter.history) = closedHistory .reversed (keptHistory s.arbiter.history) := by
    unfold keptHistory
    rw [closedHistory_length]
    split
    · rfl
    · exact List.map_drop.symm
  rw [← commute]
  rfl

/-- R101: how the entry of a changeover ends that has run or has completed at once. -/
def ranEnding (t : State) : Ending := if t.arbiter.state = .changing then .inFlight else .completed

/-- R89, R100: the history of a changeover with what completes it at once. -/
theorem Ran.history (h : Ran p x t r) (hx : x.arbiter.history = l ++ [e]) (opened : e.ending = .inFlight)
    (closed : t.arbiter.state ≠ .changing → closedHistory .completed l = l) :
    t.arbiter.history = l ++ [{ e with ending := ranEnding t }] := by
  rcases h.outcome with ⟨state, -, -, history⟩ | ⟨state, -, -, -, history⟩
  · rw [history, hx, ranEnding, if_pos state, ← opened]
  · have still : t.arbiter.state ≠ .changing := by rw [state]; split <;> exact ArbState.noConfusion
    rw [history, hx, ranEnding, if_neg still]
    conv_rhs => rw [← closed still]
    simp [closedHistory, opened]

theorem closedHistory_closed (ending : Ending) (h : ∀ e ∈ l, e.ending ≠ .inFlight) : closedHistory ending l = l := by
  refine (List.map_congr_left fun e he => ?_).trans (List.map_id l)
  exact if_neg (h e he)

theorem not_inFlight_closedHistory {ending : Ending} (h : ending ≠ .inFlight) : ∀ e ∈ closedHistory ending l, e.ending ≠ .inFlight := by
  intro e he
  obtain ⟨f, -, rfl⟩ := List.mem_map.mp he
  split <;> assumption

/-- R89, R100: the entry of a changeover stands last in the history. -/
theorem Ran.entry (h : Ran p x t r) (hx : x.arbiter.history = l ++ [e]) (opened : e.ending = .inFlight) :
    t.arbiter.history.getLast? = some { e with ending := ranEnding t } := by
  rcases h.outcome with ⟨state, -, -, history⟩ | ⟨state, -, -, -, history⟩
  · rw [history, hx, ranEnding, if_pos state, ← opened]
    exact List.getLast?_concat
  · rw [history, hx, ranEnding, if_neg (by rw [state]; split <;> exact ArbState.noConfusion)]
    simp [closedHistory, opened]

/-- R88 to R91: a changeover begun from `p` as `x`, run to its end by the standing tests. -/
theorem Begun.run (b : Begun p x r) (none : p.bank.exchange = none) (hd : (p.handed r).down = false ∨ p.arbiter.mode = .manual) :
    Ran p x x.takeOver.run r := b.ran (noneDue_of_none none) hd

/-- R75, R89, R93: whether the changeover runs on, with the delays as they stood, or has completed. -/
theorem Ran.runs_or_completed (h : Ran p x t r) :
    (t.arbiter.state = .changing ∧ t.arbiter.outgoing = some r.other ∧ ∀ k, (t.lines.get k).delay = (p.lines.get k).delay) ∨
      (t.arbiter.state = (if (p.handed r).down then .blind else .steady) ∧ t.arbiter.outgoing = none ∧ Noted t .changeDone ∧
        ((p.handed r).down = true → Noted t .blindEntered)) :=
  h.outcome.imp (fun ⟨state, outgoing, lines, _⟩ => ⟨state, outgoing, fun k => by rw [lines]⟩)
    fun ⟨state, outgoing, done, blind, _⟩ => ⟨state, outgoing, done, blind⟩

/-! ### TAKE -/

@[simp] theorem rigOf_rigByte (r : Rig) : rigOf (rigByte r) = some r := by cases r <;> rfl

theorem answerTake_standby {force : Bool} (state : s.arbiter.state = .steady ∨ s.arbiter.state = .blind)
    (h : s.arbiter.onAir = some r.other) (he : s.arbiter.eligible = true ∨ force = true) : s.answerTake (some r) (some force) =
      ((s.enterChanging (if s.arbiter.eligible then .take else .forcedTake)).run, .done) := by
  have other : s.arbiter.onAir ≠ some r := by rw [h]; cases r <;> simp [Rig.other]
  unfold State.answerTake
  by_cases eligible : s.arbiter.eligible = true
  · rcases state with state | state <;> simp [state, other, eligible]
  · have forced : force = true := he.resolve_left eligible
    rcases state with state | state <;> simp [state, other, eligible, forced]

theorem answerTake_outgoing {force : Bool} (state : s.arbiter.state = .changing) (h : s.arbiter.onAir = some r.other) :
    s.answerTake (some r) (some force) = (s.reverse.run, .done) := by
  have other : s.arbiter.onAir ≠ some r := by rw [h]; cases r <;> simp [Rig.other]
  simp [State.answerTake, state, other]

/-- Settles O17: the entry to CHANGING, or its reversal, with what completes it at once (`Begun.ran`). -/
theorem takeChangesOverOrReverses : Obligations.TakeChangesOverOrReverses := by
  constructor
  · intro s q r force p down operates state onAir allowed up none
    have taken := exec_take (x := rigByte r) (f := bit force) operates
    rw [rigOf_rigByte, boolOf_bit, answerTake_standby state onAir allowed, answered_done, enterChanging_eq onAir] at taken
    have ran := ((begun_changeBegun p r (if p.arbiter.eligible then .take else .forcedTake)).run none up).ported (ported_deselect _ q)
    exact ⟨_, taken, (deselect_done _ q).doneOn, ran.touched, ran.begun, ran.mode, ran.inhibit, ran.runs_or_completed, _,
      ran.entry (changeBegun_history _ _ _) rfl, rfl, rfl, rfl, rfl, rfl, rfl, rfl, rfl⟩
  · intro s q r force p down kept operates state onAir up none
    have taken := exec_take (x := rigByte r) (f := bit force) operates
    rw [rigOf_rigByte, boolOf_bit, answerTake_outgoing state onAir, answered_done, reverse_eq onAir] at taken
    have ran := ((begun_changeReversed state r).run none up).ported (ported_deselect _ q)
    have closed := not_inFlight_closedHistory (ending := .reversed) (l := keptHistory p.arbiter.history) (by decide)
    have history := ran.history (changeReversed_history _ _) rfl fun _ => closedHistory_closed _ closed
    have dropped : _ = closedHistory .reversed kept := (congrArg List.dropLast history).trans List.dropLast_concat
    exact ⟨_, taken, (deselect_done _ q).doneOn, ran.touched, ran.begun, ran.mode, ran.inhibit, ran.runs_or_completed, dropped,
      by rw [dropped]; exact closed, _, ran.entry (changeReversed_history _ _) rfl, rfl, rfl, rfl, rfl, rfl, rfl, rfl, rfl⟩

/-! ### SET_MODE and the late failover -/

/-- R94: the late failover's test starts a changeover toward the standby. -/
theorem run_fails (holds : s.lateFailoverHolds = true) (h : s.arbiter.onAir = some r.other) :
    s.run = arbRunWith (State.dueExchangeWith State.settleArbiter) 3 (s.changeBegun r .lateFailover).takeOver := by
  have blind := State.blind_of_lateFailoverHolds holds
  rw [← enterChanging_eq h]
  exact arbRunWith_fails (completionHolds_of_not_changing (by rw [blind]; exact ArbState.noConfusion)) holds

/-- R94: a late failover to a standby that is not down runs on, or has completed into STEADY. -/
theorem Ran.lateFailover (h : Ran p (p.changeBegun r .lateFailover) t r) (up : (p.handed r).down = false) : LateFailover p t r := by
  refine ⟨h.begun, h.mode, h.inhibit, ?_, _, h.entry (changeBegun_history _ _ _) rfl, rfl, rfl, rfl, rfl⟩
  exact h.outcome.imp (fun ⟨state, outgoing, _⟩ => ⟨state, outgoing⟩) fun ⟨state, outgoing, done, _⟩ =>
    ⟨by rw [state, up]; rfl, outgoing, done⟩

theorem exec_setMode (s : State) (b : Byte) : exec (.setMode .p (withCheck 0x13 [b])) s =
    .next ((s.opened .p 2).answered .p ((s.opened .p 2).answerMode (modeChangeOf b))) :=
  exec_command_answer (o := State.answerMode (modeChangeOf b)) rfl rfl rfl (allowed_panel _)

/-- R98: SET_MODE's operand, and the mode and the inhibit flag it leaves. -/
theorem answerMode_of_le (s : State) {b : Byte} (h : b.toNat ≤ 2) : s.answerMode (modeChangeOf b) =
    ((s.setArbiter { s.arbiter with
      mode := if b = 0 then .manual else if b = 1 then .auto else s.arbiter.mode
      inhibit := if b = 2 then false else s.arbiter.inhibit }).run, .done) := by
  have cases : b = 0 ∨ b = 1 ∨ b = 2 := by
    rcases (by omega : b.toNat = 0 ∨ b.toNat = 1 ∨ b.toNat = 2) with h | h | h
    · exact .inl (BitVec.eq_of_toNat_eq h)
    · exact .inr (.inl (BitVec.eq_of_toNat_eq h))
    · exact .inr (.inr (BitVec.eq_of_toNat_eq h))
  rcases cases with rfl | rfl | rfl <;> rfl

theorem modeChangeOf_none {b : Byte} (h : 2 < b.toNat) : modeChangeOf b = none := by
  have ne (k : Byte) (hk : k.toNat ≤ 2) : b ≠ k := fun e => by subst e; omega
  rw [modeChangeOf, if_neg (ne 0 (by decide)), if_neg (ne 1 (by decide)), if_neg (ne 2 (by decide))]

/-- R94: the standing tests make a late failover. -/
theorem lateFailover_run (holds : s.lateFailoverHolds = true) (h : s.arbiter.onAir = some r.other) (up : (s.handed r).down = false)
    (none : s.bank.exchange = none) : Ran s (s.changeBegun r .lateFailover) s.run r := by
  rw [run_fails holds h]
  exact (begun_changeBegun s r .lateFailover).ran (noneDue_of_none none) (.inl up)

/-- Settles O19: SET_MODE's operand, then the standing tests on the mode and the inhibit flag it leaves. -/
theorem setModeAndLateFailover : Obligations.SetModeAndLateFailover := by
  intro s b p mode inhibit fails
  refine ⟨p.answered .p (p.answerMode (modeChangeOf b)), exec_setMode s b, ?_⟩
  clear_value p
  refine ⟨fun large => refusedWith_answer (by decide) (by rw [modeChangeOf_none large]; rfl), fun small quiet runs => ?_,
    fun r small holds onAir up none => ?_⟩
  · have still : (p.setArbiter { p.arbiter with mode, inhibit }).lateFailoverHolds = false := by
      rw [Bool.eq_false_iff]
      exact fun holds => quiet (lateFailoverHolds_iff.mp holds)
    have unfinished : (p.setArbiter { p.arbiter with mode, inhibit }).completionHolds = false :=
      (completionHolds_congr (s := p) rfl rfl rfl).trans runs
    rw [answerMode_of_le p small, answered_done, run_still unfinished still]
    have ended := ported_deselect (p.setArbiter { p.arbiter with mode, inhibit }) .p
    exact ⟨(deselect_done _ _).doneOn, (Touches.refl.setArbiter (by decide)).andThen ended.touched (by decide), ended.touched.arbiter⟩
  · have failing : (p.setArbiter { p.arbiter with mode, inhibit }).lateFailoverHolds = true := lateFailoverHolds_iff.mpr holds
    have ran := (lateFailover_run failing onAir up none).ported (ported_deselect _ .p)
    rw [answerMode_of_le p small, answered_done]
    exact ⟨(deselect_done _ _).doneOn, ran.lateFailover up⟩

/-! ### START -/

/-- R63: both delay lines with their delays at the base delay. -/
def State.atBase (s : State) : State := s.setLines (s.lines.map fun l => { l with delay := s.bank.setup.baseDelay })

theorem baseDelays_lines (s : State) : s.baseDelays.lines = s.atBase.lines := rfl

/-- R132: what the Show Clock reads as the started rig is handed on. -/
theorem clockAgrees_started (s : State) (r : Rig) {st : ArbState} (run : st ≠ .stopped) :
    ClockAgrees r (s.atBase.setArbiter { s.atBase.arbiter with state := st, onAir := some r }) (s.started r) := by
  have touched := s.touches_started r
  have arbiter := s.started_arbiter r
  have bank := s.started_bank r
  have lines := (s.started_lines r).trans (baseDelays_lines s)
  refine ⟨touched.clock, touched.showClock, touched.tcOutput, by rw [bank]; rfl, by rw [bank]; rfl, by rw [touched.parsers]; rfl,
    by rw [lines]; rfl, by rw [arbiter], rfl, iff_of_false ?_ run, s.started_notices r⟩
  rw [arbiter]
  cases (s.handed r).down <;> exact ArbState.noConfusion

theorem started_onAirChanged (s : State) (r : Rig) : Noted (s.started r) .onAirChanged :=
  ((noted_raiseAll _ _).kept (noticesKept_raiseIf _ _ _)).kept (.of_ports rfl)

theorem started_blindEntered (s : State) (h : (s.handed r).down = true) : Noted (s.started r) .blindEntered := by
  unfold State.started
  dsimp only
  rw [if_pos h]
  exact (noted_raiseAll _ _).kept (.of_ports rfl)

/-- R84: what a START that is taken leaves, where no late failover follows. -/
theorem startShow_leaves (s : State) (r : Rig) (quiet : (s.handed r).down = false ∨ s.arbiter.mode = .manual) :
    let t := s.startShow r
    Touches [.lines, .alignment, .arbiter, .mixer, .showClock, .tcOutput, .bank, .ports] s t ∧
      t.arbiter = { s.arbiter with
        state := if (s.handed r).down then .blind else .steady, onAir := some r, outgoing := none, song := s.songOn r
        eligible := t.eligibleNow } ∧
      t.bank = { s.bank with claim := none } ∧
      (t.alignment, t.lines) = s.alignment.settled s.atBase.lines r false ∧
      RigPutOnAir s.atBase t r ∧ ((s.handed r).down = true → Noted t .blindEntered) ∧ GroupsRetargeted s.bank.front t.arbiter s t := by
  intro t
  have ht : t = (s.started r).handOnAir.run := s.startShow_eq r
  clear_value t
  have arbiter := s.started_arbiter r
  have state : (s.started r).arbiter.state ≠ .changing ∧ (s.started r).arbiter.state ≠ .stopped := by
    rw [arbiter]
    cases (s.handed r).down <;> exact ⟨ArbState.noConfusion, ArbState.noConfusion⟩
  have still : (s.started r).arbiter.state ≠ .blind ∨ (s.started r).arbiter.mode = .manual := by
    rw [arbiter]
    exact quiet.imp (fun up => by rw [up]; exact ArbState.noConfusion) id
  have before := s.touches_started r
  have bank := s.started_bank r
  have lines := (s.started_lines r).trans (baseDelays_lines s)
  have agrees := fun st => clockAgrees_started s r (st := st)
  have noted := started_onAirChanged s r
  have blind := fun h => started_blindEntered s (r := r) h
  obtain ⟨touched, handed, settled, reaches, clock, groups⟩ := handOnAir_leaves (y := s.started r) (r := r) (by rw [arbiter]) still
  have kept : NoticesKept (s.started r) (s.started r).handOnAir := ((Moves.refl (writes := False) (s.started r)).handOnAir).noticesKept
  generalize s.started r = y at *
  have ended : y.handOnAir.run = y.handOnAir := by
    refine run_still (completionHolds_of_not_changing (by rw [handed]; exact state.1)) ?_
    rcases still with still | still
    · exact lateFailoverHolds_of_not_blind (by rw [handed]; exact still)
    · exact lateFailoverHolds_of_manual (by rw [handed]; exact still)
  rw [ended] at ht
  rw [← ht] at touched handed settled reaches clock groups kept
  rw [before.alignment, lines, decide_eq_false state.1] at settled
  rw [before.alignment, lines] at reaches
  have values : t.arbiter = { s.arbiter with
      state := if (s.handed r).down then .blind else .steady, onAir := some r, outgoing := none, song := s.songOn r
      eligible := t.eligibleNow } := by
    rw [handed, arbiter]
  have runs : t.arbiter.state ≠ .stopped := by rw [handed]; exact state.2
  refine ⟨(before.mono (by decide)).trans (touched.mono (by decide)), values, touched.bank.trans bank, settled,
    ⟨by rw [values], by rw [values]; rfl, by rw [values], standbySettled_of (settled.trans ?_) reaches, noted.kept kept, ?_⟩,
    fun down => (blind down).kept kept, groupsRetargeted_congr groups (by rw [bank]) (by rw [handed]) (by rw [handed]) before.mixer.symm rfl⟩
  · rw [decide_eq_false (show t.arbiter.state ≠ .changing by rw [handed]; exact state.1)]
    rfl
  · have first := (agrees t.arbiter.state runs).clockReevaluate
    exact ⟨clock.showClock.trans first.showClock, clock.tcOutput.trans first.tcOutput, first.notices.trans clock.notices⟩

/-- R63, R68: the delays a START leaves. -/
theorem delays_started (h : (t.alignment, t.lines) = s.alignment.settled s.atBase.lines r false) :
    (t.lines.get r).delay = s.bank.setup.baseDelay ∧
      (s.alignment.state = .none ∨ s.alignment.state = .confirming → (t.lines.get r.other).delay = s.bank.setup.baseDelay) := by
  have base (k : Rig) : (s.atBase.lines.get k).delay = s.bank.setup.baseDelay := by cases k <;> rfl
  have lines : t.lines = (s.alignment.settled s.atBase.lines r false).2 := congrArg Prod.snd h
  refine ⟨by rw [lines, Alignment.settled_line]; exact base r, fun unsettled => ?_⟩
  rw [lines, Alignment.settled_unsettled unsettled]
  exact base r.other

/-- R83, R93: where a FOLLOW group is to be with a rig on air that is down or not, the arbiter in BLIND or in STEADY. -/
theorem targetOf_follow {a : Arbiter} {down : Bool} {policy : BlindPolicy} (hs : a.state = if down then .blind else .steady)
    (ho : a.onAir = some r) : targetOf a policy .follow = if down ∧ policy = .fadeOut then .silent else Source.ofRig r := by
  unfold targetOf
  rw [hs, ho]
  cases down <;> cases policy <;> rfl

/-- Settles O15: the answer to START, and what handing the rig on air leaves (`startShow_leaves`). -/
theorem startPutsRigOnAir : Obligations.StartPutsRigOnAir := by
  intro s r p down stopped valid quiet
  have answer : p.answerStart (some r) = (p.startShow r, .done) := by
    simp only [State.answerStart, stopped, valid, ne_eq, not_true_eq_false, if_false, if_true]
  have taken := exec_start s (rigByte r)
  rw [rigOf_rigByte, answer, answered_done] at taken
  refine ⟨(p.startShow r).deselect .p .done, taken, ?_⟩
  clear taken
  clear_value p
  obtain ⟨touched, arbiter, bank, settled, onAir, blind, groups⟩ := startShow_leaves p r quiet
  have k := ported_deselect (p.startShow r) .p
  have done := (deselect_done (p.startShow r) .p).doneOn
  generalize (p.startShow r).deselect .p .done = t at k done
  have lines : (t.alignment, t.lines) = p.alignment.settled p.atBase.lines r false :=
    (Prod.ext k.touched.alignment k.touched.lines).trans settled
  obtain ⟨delay, otherDelay⟩ := delays_started lines
  have put := onAir.ported k
  have targets : GroupsRetargeted p.bank.front t.arbiter p t := groupsRetargeted_congr groups rfl (by rw [k.touched.arbiter])
    (by rw [k.touched.arbiter]) rfl k.touched.mixer
  have values := k.touched.arbiter.trans arbiter
  refine ⟨done, touched.andThen k.touched (by decide), by rw [values], by rw [values], by rw [values], by rw [values], by rw [values],
    by rw [values], by rw [values], by rw [values]; rfl, k.touched.bank.trans bank, delay, otherDelay, put.2.2.2.2.1,
    fun h => (blind h).kept k.notices, put, targets, fun i follow => ?_⟩
  obtain ⟨-, -, -, target, -⟩ := targets.2 i
  rw [target, follow]
  exact targetOf_follow (by rw [values]) (by rw [values])

end Sys2Proof.Machine

/-! PROOFS. The group commands: what a change of the groups leaves of the standing tests (R89, R94), SET_GROUP and the batched WRITE
to Group State (R117 to R122). -/

namespace Sys2Proof.Machine

open Sys2Proof

/- In order: bodies elaborated side by side while the kernel still checks the text above each hold a thread's stack. -/
set_option Elab.async false

variable {s t u v p : State} {r : Rig} {q : Port} {g : Group} {fade : Nat} {m : GroupMode} {one : Bool} {x : Source}

/-! ### The standing tests after a change of the groups -/

theorem lateFailoverHolds_of_groups (h : Touches [.mixer] p u) : u.lateFailoverHolds = p.lateFailoverHolds := by
  unfold State.lateFailoverHolds State.autoPermitted
  rw [h.arbiter, h.bank]

theorem run_atRest (h : Touches [.mixer] p u) (rest : ArbiterAtRest p) : u.run = u :=
  run_still (completionHolds_of_not_changing (by rw [h.arbiter]; exact rest.1)) (by rw [lateFailoverHolds_of_groups h]; exact rest.2)

/-- R89: a changeover completes into STEADY. -/
theorem run_completes (onAir : u.arbiter.onAir = some r) (hc : u.completionHolds = true) (none : u.bank.exchange = none)
    (up : (u.handed r).down = false) : u.run = u.completed ∧ u.completed.arbiter.state = .steady := by
  have steady : u.completed.arbiter.state = .steady := by rw [(completed_completed onAir).arbiter, up]; rfl
  refine ⟨(arbRun_completes onAir hc (noneDue_of_none none) (lateFailoverHolds_of_not_blind ?_)).trans (if_neg ?_), steady⟩ <;>
    rw [steady] <;> exact ArbState.noConfusion

/-- R89: after a change of the groups the running changeover has completed or runs on. -/
theorem changeoverTested_run (h : Touches [.mixer] p u) (runs : ChangeoverRuns p) :
    ChangeoverTested [.mixer] p u.run ∧ u.run.mixer = u.mixer := by
  obtain ⟨changing, present, up, none⟩ := runs
  obtain ⟨r, onAir⟩ := Option.ne_none_iff_exists'.mp present
  have standby : u.arbiter.onAir = some r := by rw [h.arbiter]; exact onAir
  cases hc : u.completionHolds with
  | false =>
    have quiet := lateFailoverHolds_of_not_blind (s := u) (by rw [h.arbiter, changing]; exact ArbState.noConfusion)
    rw [run_still hc quiet]
    refine ⟨⟨fun _ => h, fun rests => ?_⟩, rfl⟩
    rw [completionHolds_iff.mpr ⟨by rw [h.arbiter]; exact changing, by rw [h.arbiter]; exact rests⟩] at hc
    cases hc
  | true =>
    obtain ⟨touched, arbiter, -, -, done, -, -⟩ := completed_completed standby
    have down : (u.handed r).down = false := by
      rw [State.onAirDown, onAir] at up
      rw [show u.handed r = p.handed r by unfold State.handed; rw [h.instantHealth]]
      exact up
    obtain ⟨ran, steady⟩ := run_completes standby hc (by rw [h.bank]; exact none) down
    rw [ran]
    have mixer := touched.mixer
    refine ⟨⟨fun moving => absurd ?_ moving, fun _ => ⟨(h.mono (by decide)).andThen touched (by decide), steady, ?_, ?_, done, ?_⟩⟩, mixer⟩
    · rw [mixer, ← h.arbiter]
      exact (completionHolds_iff.mp hc).2
    all_goals rw [arbiter, h.arbiter]
    rfl

theorem ChangeoverTested.ported {bs : List Block} (h : ChangeoverTested [.mixer] p v) (k : Ported v t) (sub : [.mixer, .ports] ⊆ bs) :
    ChangeoverTested bs p t := by
  obtain ⟨runs, completes⟩ := h
  refine ⟨fun moving => ?_, fun rests => ?_⟩
  · rw [k.touched.mixer] at moving
    exact ((runs moving).mono (by decide)).andThen k.touched (by decide) |>.mono sub
  · rw [k.touched.mixer] at rests
    obtain ⟨touched, state, onAir, outgoing, done, history⟩ := completes rests
    rw [k.touched.arbiter]
    exact ⟨touched.andThen k.touched (by decide), state, onAir, outgoing, done.kept k.notices, history⟩

/-! ### One group takes a SET_GROUP (R118 to R120) -/

theorem forbids_iff (g : Group) (w : GroupWrite) : g.forbids w = true ↔ ForbiddenOf g w.mode w.oneSong := by
  simp only [Group.forbids, Bool.or_eq_true, Bool.and_eq_true, pinChange_iff, ForbiddenOf, or_assoc]

theorem touches_assignGroup (s : State) (i : Fin 8) (w : GroupWrite) : Touches [.mixer] s (s.assignGroup i w) :=
  Touches.refl.assignGroup (by decide)

/-- R119, R120: a group's record after a SET_GROUP that is taken, its target included. -/
def Group.assigned (b : Bank) (a : Arbiter) (i : Fin 8) (w : GroupWrite) (g : Group) : Group :=
  if w.mode = g.mode then g.assign w
  else (g.assign w).retarget (b.group.get i).fadeLength (targetOf a (b.group.get i).policy w.mode)

theorem Group.assign_eq (g : Group) (w : GroupWrite) :
    g.assign w = { g with mode := w.mode, base := if w.oneSong then g.base else w.mode, oneSong := w.oneSong } := by
  unfold Group.assign
  cases w.oneSong <;> rfl

theorem assignGroup_mixer (s : State) (i : Fin 8) (w : GroupWrite) : (s.assignGroup i w).mixer =
    { s.mixer with groups := s.mixer.groups.set i ((s.mixer.groups.get i).assigned s.bank.front s.arbiter i w) } := by
  have mode : ((s.mixer.groups.get i).assign w).mode = w.mode := by rw [Group.assign_eq]
  unfold State.assignGroup Group.assigned
  dsimp only
  split
  · rfl
  · simp only [State.retargetGroup, setMixer_mixer, Table.get_set_same, mode]
    refine congrArg (fun x => { s.mixer with groups := x }) (Table.ext_get fun j => ?_)
    by_cases h : i = j
    · subst h
      simp
    · simp [h]

theorem groupTaken_assigned (b : Bank) (a : Arbiter) (i : Fin 8) (w : GroupWrite) (g : Group) : GroupTaken (b.group.get i).fadeLength
    (targetOf a (b.group.get i).policy w.mode) w.mode w.oneSong g (g.assigned b a i w) := by
  unfold Group.assigned
  rw [Group.assign_eq]
  refine ⟨fun same => if_pos same, fun other => ?_⟩
  rw [if_neg other]
  exact targetTaken_retarget _ _ _

/-- R89: a transaction that has changed the groups as `u` shows them, and has ended with DONE. -/
theorem groups_answered (h : Touches [.mixer] p u) (q : Port) :
    let t := u.run.deselect q .done
    (ChangeoverRuns p → ChangeoverTested [.mixer, .ports] p t) ∧ (ArbiterAtRest p → Touches [.mixer, .ports] p t) ∧
      (ArbiterAtRest p ∨ ChangeoverRuns p → DoneOn t q ∧ t.mixer = u.mixer) := by
  have k := ported_deselect u.run q
  have done := (deselect_done u.run q).doneOn
  refine ⟨fun runs => (changeoverTested_run h runs).1.ported k (by decide), fun rest => ?_, fun either => ⟨done, ?_⟩⟩
  · rw [run_atRest h rest] at k ⊢
    exact (h.mono (by decide)).andThen k.touched (by decide)
  · rcases either with rest | runs
    · exact k.touched.mixer.trans (by rw [run_atRest h rest])
    · exact k.touched.mixer.trans (changeoverTested_run h runs).2

/-! ### SET_GROUP -/

@[simp] theorem groupModeOf_groupModeByte (m : GroupMode) : groupModeOf (groupModeByte m) = some m := by cases m <;> rfl

theorem groupModeOf_none {b : Byte} (h : 4 ≤ b.toNat) : groupModeOf b = none := by
  have ne (k : Byte) (hk : k.toNat ≤ 3) : b ≠ k := fun e => by subst e; omega
  rw [groupModeOf, if_neg (ne 0 (by decide)), if_neg (ne 1 (by decide)), if_neg (ne 2 (by decide)), if_neg (ne 3 (by decide))]

theorem boolOf_none {b : Byte} (h : 2 ≤ b.toNat) : boolOf b = none := by
  have ne (k : Byte) (hk : k.toNat ≤ 1) : b ≠ k := fun e => by subst e; omega
  rw [boolOf, if_neg (ne 0 (by decide)), if_neg (ne 1 (by decide))]

theorem exec_setGroup {x y z : Byte} (operates : (s.opened q 4).operates q = true) :
    exec (.setGroup q (withCheck 0x14 [x, y, z])) s = .next ((s.opened q 4).answered q
      ((s.opened q 4).answerGroup (finOf 8 x) (readGroupWrite [y, z]))) :=
  exec_command_answer (o := State.answerGroup (finOf 8 x) (readGroupWrite [y, z])) rfl rfl rfl operates

theorem answerGroup_forbidden {i : Fin 8} {w : GroupWrite} (h : ForbiddenOf (s.mixer.groups.get i) w.mode w.oneSong) :
    s.answerGroup (some i) (some w) = (s, .forbidden) := if_pos ((forbids_iff _ w).mpr h)

theorem answerGroup_allowed {i : Fin 8} {w : GroupWrite} (h : ¬ ForbiddenOf (s.mixer.groups.get i) w.mode w.oneSong) :
    s.answerGroup (some i) (some w) = ((s.assignGroup i w).run, .done) := if_neg (mt (forbids_iff _ w).mp h)

/-- Settles O21: SET_GROUP on one group (`assignGroup_mixer`), and the standing tests after it. -/
theorem setGroupChangesOneGroup : Obligations.SetGroupChangesOneGroup := by
  constructor
  · intro s q i m one p g e target operates
    have taken := exec_setGroup (x := byte i.val) (y := groupModeByte m) (z := bit one) operates
    have read : readGroupWrite [groupModeByte m, bit one] = some ⟨m, one⟩ := by simp [readGroupWrite]
    rw [finOf_byte i (by decide), read] at taken
    refine ⟨p.answered q (p.answerGroup (some i) (some ⟨m, one⟩)), taken, ?_⟩
    clear taken operates
    clear_value p
    obtain ⟨tested, rests, done⟩ := groups_answered (touches_assignGroup p i ⟨m, one⟩) q
    have mixer := assignGroup_mixer p i ⟨m, one⟩
    refine ⟨fun forbidden => refusedWith_answer (by decide) (by rw [answerGroup_forbidden (w := ⟨m, one⟩) forbidden]),
      fun allowed => ?_, fun allowed => ?_, fun allowed either => ?_⟩
    all_goals rw [answerGroup_allowed (w := ⟨m, one⟩) allowed, answered_done]
    · exact tested
    · exact rests
    · obtain ⟨done, same⟩ := done either
      rw [same, mixer]
      refine ⟨done, rfl, fun j hj => Table.get_set_ne _ _ _ _ hj.symm, ?_⟩
      rw [Table.get_set_same]
      exact groupTaken_assigned p.bank.front p.arbiter i ⟨m, one⟩ g
  · intro s q x y z bad operates
    refine ⟨_, exec_setGroup operates, refusedWith_answer (by decide) ?_⟩
    rcases bad with bad | bad | bad
    · rw [finOf_none bad]; rfl
    · have read : readGroupWrite [y, z] = none := by simp [readGroupWrite, groupModeOf_none bad]
      rw [read]
      cases finOf 8 x <;> rfl
    · have read : readGroupWrite [y, z] = none := by simp [readGroupWrite, boolOf_none bad]
      rw [read]
      cases finOf 8 x <;> rfl

/-! ### A WRITE to Group State (R122) -/

theorem mem_addressed {first : Nat} {ws : List GroupWrite} {i : Fin 8} {w : GroupWrite} :
    (i, w) ∈ addressed first ws ↔ ∃ k, ws[k]? = some w ∧ i.val = first + k := by
  simp only [addressed, List.mem_filterMap, Prod.exists, List.mem_zipIdx_iff_getElem?]
  constructor
  · rintro ⟨x, k, hx, found⟩
    split at found
    · obtain ⟨rfl, rfl⟩ := Prod.mk.inj (Option.some.inj found)
      exact ⟨k, hx, rfl⟩
    · cases found
  · rintro ⟨k, hk, hi⟩
    exact ⟨w, k, hk, by rw [dif_pos (by omega)]; exact congrArg some (Prod.ext (Fin.ext hi.symm) rfl)⟩

/-- R122: the groups a WRITE addresses take what it asks of them, and the others stand. -/
theorem assignAll_leaves : ∀ (l : List (Fin 8 × GroupWrite)) (v : State), (l.map Prod.fst).Nodup →
    let u := l.foldl (fun s p => s.assignGroup p.1 p.2) v
    Touches [.mixer] v u ∧ u.mixer = { v.mixer with groups := u.mixer.groups } ∧
      (∀ j, j ∉ l.map Prod.fst → u.mixer.groups.get j = v.mixer.groups.get j) ∧
      ∀ i w, (i, w) ∈ l → u.mixer.groups.get i = (v.mixer.groups.get i).assigned v.bank.front v.arbiter i w
  | [], v, _ => ⟨.refl, rfl, fun _ _ => rfl, fun _ _ h => by cases h⟩
  | (i, w) :: l, v, hn => by
    obtain ⟨fresh, nodup⟩ := List.nodup_cons.mp hn
    have first := touches_assignGroup v i w
    have mixer := assignGroup_mixer v i w
    obtain ⟨touched, kept, others, all⟩ := assignAll_leaves l (v.assignGroup i w) nodup
    refine ⟨first.trans touched, ?_, fun j hj => ?_, fun k x hk => ?_⟩
    · rw [List.foldl_cons, kept, mixer]
    · rw [List.foldl_cons, others j fun hl => hj (List.mem_cons_of_mem _ hl), mixer]
      exact Table.get_set_ne _ _ _ _ fun h => hj (by simp [h])
    · rw [List.foldl_cons]
      rcases List.mem_cons.mp hk with here | later
      · obtain ⟨rfl, rfl⟩ := Prod.mk.inj here
        rw [others k fresh, mixer]
        exact Table.get_set_same _ _ _
      · rw [all k x later, first.bank, first.arbiter, mixer]
        have ne : i ≠ k := by
          rintro rfl
          exact fresh (List.mem_map.mpr ⟨_, later, rfl⟩)
        exact congrArg (Group.assigned _ _ k x) (Table.get_set_ne _ _ _ _ ne)

theorem readGroupWrite_piece (data : List Byte) (j : Nat) : readGroupWrite (entryPiece data 16 j) =
    (groupModeOf (data.getD (16 * j) 0)).bind fun mode => (boolOf (data.getD (16 * j + 1) 0)).map fun oneSong => { mode, oneSong } := by
  show readGroupWrite (data.getD (16 * j + 0) 0 :: data.getD (16 * j + 1) 0 :: _) = _
  cases h : groupModeOf (data.getD (16 * j) 0) <;> cases h' : boolOf (data.getD (16 * j + 1) 0) <;> simp_all [readGroupWrite]

/-- The request of a WRITE to Group State. -/
abbrev groupRequest (first count : Nat) (data : List Byte) : WriteRequest := { id := 5, first, count, data }

theorem exec_writeGroupState {first count : Nat} {data : List Byte} (operates : (s.opened q (4 + data.length)).operates q = true)
    (hc : 1 ≤ count) (hn : first + count ≤ 8) (hd : data.length = 16 * count) :
    exec (.writeGroupState q (writeBody 5 first count data)) s = .next ((s.opened q (4 + data.length)).answered q
      ((s.opened q (4 + data.length)).answerGroups (groupRequest first count data))) :=
  exec_write_answer (n := 8) (len := 16) rfl rfl hc (by omega) hn (by omega) (Nat.add_comm _ _) operates

theorem answerGroups_some {w : WriteRequest} {ws : List GroupWrite} (h : w.entries 16 readGroupWrite = some ws) : s.answerGroups w =
    if (addressed w.first ws).any (fun p => (s.mixer.groups.get p.1).forbids p.2) then (s, .forbidden)
    else (((addressed w.first ws).foldl (fun s p => s.assignGroup p.1 p.2) s).run, .done) := by
  unfold State.answerGroups
  rw [h]

/-- Settles O23: the entries read or refused, the groups addressed (`mem_addressed`) and what they take (`assignAll_leaves`). -/
theorem writeGroupStateIsBatched : Obligations.WriteGroupStateIsBatched := by
  intro s q first data count p mode one legal someForbidden operates hc hn hd
  refine ⟨p.answered q (p.answerGroups (groupRequest first count data)), exec_writeGroupState operates hc hn hd, ?_⟩
  clear operates
  clear_value p
  have length : (groupRequest first count data).data.length = (groupRequest first count data).count * 16 := by
    change data.length = count * 16
    omega
  have piece : ∀ k, readGroupWrite (entryPiece data 16 k) = (mode k).bind fun m => (one k).map fun o => { mode := m, oneSong := o } :=
    readGroupWrite_piece data
  have refused : ∀ k, readGroupWrite (entryPiece data 16 k) = none ↔ ¬ (mode k ≠ none ∧ one k ≠ none) := by
    intro k
    rw [piece]
    cases mode k <;> cases one k <;> simp
  cases read : (groupRequest first count data).entries 16 readGroupWrite with
  | none =>
    have bad : ¬ legal := by
      obtain ⟨k, hk, bad⟩ := (entries_none length).mp read
      exact fun h => (refused k).mp bad (h k hk)
    refine ⟨fun _ => refusedWith_answer (by decide) ?_, fun h => absurd h bad, fun h => absurd h bad, fun h => absurd h bad,
      fun h => absurd h bad⟩
    unfold State.answerGroups
    rw [read]
  | some ws =>
    obtain ⟨size, found⟩ := entries_some length read
    have good : legal := by
      intro k hk
      by_contra bad
      rw [(entries_none length).mpr ⟨k, hk, (refused k).mpr bad⟩] at read
      cases read
    have entry : ∀ k (m : GroupMode) (o : Bool), k < count → mode k = some m → one k = some o → ws[k]? = some ⟨m, o⟩ := by
      intro k m o hk hm ho
      have got := found k hk (by rw [size]; exact hk)
      rw [piece, hm, ho] at got
      rw [List.getElem?_eq_getElem (by rw [size]; exact hk), ← got]
      rfl
    have back : ∀ k w, ws[k]? = some w → k < count ∧ mode k = some w.mode ∧ one k = some w.oneSong := by
      intro k w hw
      obtain ⟨hk, rfl⟩ := List.getElem?_eq_some_iff.mp hw
      have hk' : k < count := by rw [size] at hk; exact hk
      have got := found k hk' hk
      rw [piece] at got
      obtain ⟨m, hm, rest⟩ := Option.bind_eq_some_iff.mp got
      obtain ⟨o, ho, made⟩ := Option.map_eq_some_iff.mp rest
      rw [← made]
      exact ⟨hk', hm, ho⟩
    have forbidden : (addressed first ws).any (fun x => (p.mixer.groups.get x.1).forbids x.2) = true ↔ someForbidden := by
      rw [List.any_eq_true]
      constructor
      · rintro ⟨⟨i, w⟩, member, bad⟩
        obtain ⟨k, hw, hi⟩ := mem_addressed.mp member
        obtain ⟨hk, hm, ho⟩ := back k w hw
        exact ⟨k, i, w.mode, w.oneSong, hk, hi, hm, ho, (forbids_iff _ w).mp bad⟩
      · rintro ⟨k, i, m, o, hk, hi, hm, ho, bad⟩
        exact ⟨(i, ⟨m, o⟩), mem_addressed.mpr ⟨k, entry k m o hk hm ho, hi⟩, (forbids_iff _ ⟨m, o⟩).mpr bad⟩
    rw [answerGroups_some read]
    obtain ⟨touched, mixer, others, all⟩ := assignAll_leaves (addressed first ws) p (addressed_nodup _ _)
    obtain ⟨tested, rests, done⟩ := groups_answered touched q
    refine ⟨fun bad => absurd good bad, fun _ bad => refusedWith_answer (by decide) (by rw [if_pos (forbidden.mpr bad)]),
      fun _ allowed => ?_, fun _ allowed => ?_, fun _ allowed either => ?_⟩
    all_goals rw [if_neg (mt forbidden.mp allowed), answered_done]
    · exact tested
    · exact rests
    · obtain ⟨done, same⟩ := done either
      rw [same]
      refine ⟨done, mixer, fun j hj => others j fun member => ?_, fun k i m o hk hi hm ho => ?_⟩
      · obtain ⟨⟨i, w⟩, written, rfl⟩ := List.mem_map.mp member
        obtain ⟨k, hw, hi⟩ := mem_addressed.mp written
        have hk := (back k w hw).1
        dsimp only at hj
        omega
      · rw [all i ⟨m, o⟩ (mem_addressed.mpr ⟨k, entry k m o hk hm ho, hi⟩)]
        exact groupTaken_assigned p.bank.front p.arbiter i ⟨m, o⟩ _

end Sys2Proof.Machine

/-! PROOFS. The Alignment Monitor: acceptance of the candidate, the pairs of an accepted beacon, two pairless ticks and the hold limit
(chapter 4, R201). -/

namespace Sys2Proof.Machine

open Sys2Proof

/- In order: bodies elaborated side by side while the kernel still checks the text above each hold a thread's stack. -/
set_option Elab.async false

variable {s t u v p : State} {r : Rig} {x : Alignment} {c : Candidate}

/-! ### Eligibility read afresh, and the standing tests -/

/-- R76: after a change of the alignment, with the arbiter neither in BLIND nor at a completion, the arbiter reads eligibility afresh and
makes nothing of it. -/
theorem reEligible_run (h : v.arbiter.state ≠ .blind) (hc : v.completionHolds = false) : v.reEligible.run = v.reEligible :=
  run_still ((completionHolds_congr (s := v) (t := v.reEligible) rfl rfl rfl).trans hc) (lateFailoverHolds_of_not_blind h)

/-! ### Acceptance of the candidate (R67, R68, R70) -/

/-- R70: the candidate's offset accepted, before the delay is settled. -/
def State.offsetAccepted (s : State) (c : Candidate) : State :=
  (s.setAlignment { s.alignment with
    state := .accepted, accepted := some c.offset, candidate := none, pairless := 0, acceptDue := false }).raiseAll .alignmentChanged

theorem takeAcceptance_up (hs : s.alignment.state = .confirming) (hc : s.alignment.candidate = some c)
    (hd : s.alignment.acceptDue = true) (up : s.onAirDown = false) :
    s.takeAcceptance = (s.offsetAccepted c).settleDelay.reEligible.run := by
  simp [State.takeAcceptance, hs, hc, hd, up, State.offsetAccepted]

theorem takeAcceptance_down (hs : s.alignment.state = .confirming) (down : s.onAirDown = true) :
    Touches [.alignment] s s.takeAcceptance ∧
      s.takeAcceptance.alignment = { s.alignment with acceptDue := s.takeAcceptance.alignment.acceptDue } ∧
      (s.alignment.candidate.isSome = true → s.takeAcceptance.alignment.acceptDue = false) := by
  cases hc : s.alignment.candidate with
  | none =>
    have same : s.takeAcceptance = s := by simp [State.takeAcceptance, hc]
    rw [same]
    exact ⟨.refl, rfl, Bool.noConfusion⟩
  | some c =>
    by_cases hd : s.alignment.acceptDue = true
    · have lapsed : s.takeAcceptance = s.setAlignment { s.alignment with acceptDue := false } := by
        simp [State.takeAcceptance, hs, hc, hd, down]
      rw [lapsed]
      exact ⟨Touches.refl.setAlignment (by decide), rfl, fun _ => rfl⟩
    · have same : s.takeAcceptance = s := by simp [State.takeAcceptance, hc, hd]
      rw [same]
      exact ⟨.refl, rfl, fun _ => by simpa using hd⟩

/-- R67: the standby delay set to what the accepted offset requires. -/
theorem delays_of_required (lines : PerRig TrimLine) (r : Rig) (o : Int) (hd : 0 ≤ requiredFor lines r o) :
    let l := lines.set r.other { lines.get r.other with delay := (requiredFor lines r o).toNat }
    (l.a.delay : Int) - l.b.delay = o := by
  have exact : ((requiredFor lines r o).toNat : Int) = requiredFor lines r o := Int.toNat_of_nonneg hd
  cases r <;> simp only [Rig.other, PerRig.set, PerRig.get, requiredFor] at exact ⊢ <;> omega

/-- R67, R68, R70: what the accepted candidate leaves once the standby delay is settled. -/
theorem offsetAccepted_leaves (s : State) (c : Candidate) :
    let t := (s.offsetAccepted c).settleDelay.reEligible
    let d := s.requiredDelay c.offset
    let a := { s.alignment with accepted := some c.offset, candidate := none, pairless := 0, acceptDue := false, lastRequired := some d }
    Touches [.lines, .alignment, .arbiter, .ports] s t ∧ Noted t .alignmentChanged ∧ t.arbiter = { s.arbiter with eligible := t.eligibleNow } ∧
      (inReach d = true → s.arbiter.state ≠ .changing → t.alignment = { a with state := .accepted, deferred := none } ∧
        t.lines = s.lines.set s.arbiter.reference.other { s.lines.get s.arbiter.reference.other with delay := d.toNat }) ∧
      (inReach d = true → s.arbiter.state = .changing → t.lines = s.lines ∧
        t.alignment = { a with state := .accepted, deferred := some { link := s.arbiter.reference.other, delay := d.toNat } }) ∧
      (inReach d = false → t.lines = s.lines ∧ t.alignment = { a with state := .outOfReach, deferred := none }) := by
  intro t d a
  have first : Touches [.alignment, .ports] s (s.offsetAccepted c) := (Touches.refl.setAlignment (by decide)).raiseAll (by decide)
  have alignment : (s.offsetAccepted c).alignment = { s.alignment with
    state := .accepted, accepted := some c.offset, candidate := none, pairless := 0, acceptDue := false } := rfl
  have noted : Noted (s.offsetAccepted c) .alignmentChanged := noted_raiseAll _ _
  have ht : t = (s.offsetAccepted c).settleDelay.reEligible := rfl
  have hd : d = requiredFor s.lines s.arbiter.reference c.offset := requiredDelay_eq s c.offset
  clear_value t d
  generalize s.offsetAccepted c = y at *
  obtain ⟨settled, -⟩ := settleDelay_settled y
  have touched := y.touches_settleDelay
  have eligible := reEligible_arbiter y.settleDelay
  have both : (t.alignment, t.lines) = y.alignment.settled s.lines s.arbiter.reference (s.arbiter.state = .changing) := by
    rw [ht, ← first.lines, ← first.arbiter]
    exact settled
  have accepted : y.alignment.state = .accepted ∨ y.alignment.state = .held ∨ y.alignment.state = .outOfReach := .inl (by rw [alignment])
  have offset : requiredFor s.lines s.arbiter.reference (y.alignment.accepted.getD 0) = d := by rw [hd, alignment]; rfl
  refine ⟨?_, ?_, ?_, fun near still => ?_, fun near moving => ?_, fun far => ?_⟩
  · rw [ht]
    exact ((first.mono (by decide)).andThen touched (by decide)).reEligible (by decide)
  · rw [ht]
    exact (noted.kept (settleDelay_noticesKept y)).kept (.of_ports rfl)
  · rw [ht, eligible, touched.arbiter, first.arbiter]
  all_goals have parts := both
  · rw [Alignment.settled_inReach accepted (by rw [offset]; exact near), offset, decide_eq_false still, Alignment.placed,
      if_neg Bool.noConfusion, Prod.mk.injEq, alignment] at parts
    exact parts
  · rw [Alignment.settled_inReach accepted (by rw [offset]; exact near), offset, decide_eq_true moving, Alignment.placed, if_pos rfl,
      Prod.mk.injEq, alignment] at parts
    exact ⟨parts.2, parts.1⟩
  · rw [Alignment.settled_outOfReach accepted (by rw [offset, far]; exact Bool.noConfusion), offset, Prod.mk.injEq, alignment] at parts
    exact ⟨parts.2, parts.1⟩

/-! ### A pair (R64, R65, R69, R71) -/

/-- R65, R69, R71, R73: what the alignment state makes of a pair, before eligibility is read afresh. -/
def State.paired (s : State) (r : Rig) (m : Int) : State :=
  let p := s.bank.front.monitor
  let x := { s.alignment with lastMeasurement := some { offset := m, instant := s.clock.count, rig := r }, pairInTick := true }
  match x.state with
  | .none => s.setAlignment (x.withCandidate p.confirm { offset := m, count := 1 })
  | .confirming =>
    match x.candidate with
    | none => s.setAlignment (x.withCandidate p.confirm { offset := m, count := 1 })
    | some c =>
      if (m - c.offset).natAbs ≤ p.tolerance then
        s.setAlignment (x.withCandidate p.confirm { c with count := min 15 (c.count + 1) })
      else s.setAlignment (x.withCandidate p.confirm { offset := m, count := 1 })
  | .accepted =>
    if (m - x.accepted.getD 0).natAbs ≤ p.tolerance then s.setAlignment { x with pairless := 0 }
    else (s.setAlignment (x.disagree p.confirm m)).raiseAll .alignmentChanged
  | .outOfReach =>
    if (m - x.accepted.getD 0).natAbs ≤ p.tolerance then s.setAlignment { x with pairless := 0 }
    else (s.setAlignment (x.disagree p.confirm m)).raiseAll .alignmentChanged
  | .held =>
    if (m - x.accepted.getD 0).natAbs ≤ p.tolerance then
      s.setAlignment { x with state := .accepted, pairless := 0, holdAge := 0, limitDue := false }
    else (s.setAlignment (x.disagree p.confirm m)).raiseAll .alignmentChanged

theorem takePair_eq (s : State) (r : Rig) (m : Int) : s.takePair r m = (s.paired r m).reEligible.run := rfl

/-- The alignment with the measurement of a pair noted. -/
def State.measured (s : State) (r : Rig) (m : Int) : Alignment :=
  { s.alignment with lastMeasurement := some { offset := m, instant := s.clock.count, rig := r }, pairInTick := true }

/-- R69: a part whose candidate is `c`, with the test c ≥ K of the bank of `s`. -/
def Confirms (s v : State) (c : Candidate) : Prop :=
  v.alignment.state = .confirming ∧ v.alignment.candidate = some c ∧ v.alignment.pairless = 0 ∧
    (v.alignment.acceptDue = true ↔ s.bank.front.monitor.confirm ≤ c.count)

theorem confirms_withCandidate (s : State) (x : Alignment) (c : Candidate) :
    Confirms s (s.setAlignment (x.withCandidate s.bank.front.monitor.confirm c)) c := ⟨rfl, rfl, rfl, decide_eq_true_iff⟩

theorem paired_none {m : Int} (h : s.alignment.state = .none) :
    s.paired r m = s.setAlignment ((s.measured r m).withCandidate s.bank.front.monitor.confirm { offset := m, count := 1 }) := by
  simp [State.paired, State.measured, h]

theorem paired_near {m : Int} (h : s.alignment.state = .confirming) (hc : s.alignment.candidate = some c)
    (near : (m - c.offset).natAbs ≤ s.bank.front.monitor.tolerance) : s.paired r m =
      s.setAlignment ((s.measured r m).withCandidate s.bank.front.monitor.confirm { c with count := min 15 (c.count + 1) }) := by
  simp [State.paired, State.measured, h, hc, near]

theorem paired_far {m : Int} (h : s.alignment.state = .confirming) (hc : s.alignment.candidate = some c)
    (far : s.bank.front.monitor.tolerance < (m - c.offset).natAbs) : s.paired r m =
      s.setAlignment ((s.measured r m).withCandidate s.bank.front.monitor.confirm { offset := m, count := 1 }) := by
  simp [State.paired, State.measured, h, hc, Nat.not_le.mpr far]

/-- R71: a pair that agrees with the accepted offset. -/
theorem paired_agrees {m d : Int} (ha : s.alignment.accepted = some d)
    (h : s.alignment.state = .accepted ∨ s.alignment.state = .outOfReach ∨ s.alignment.state = .held)
    (near : (m - d).natAbs ≤ s.bank.front.monitor.tolerance) : ∃ holdAge limitDue, s.paired r m = s.setAlignment { s.measured r m with
      state := if s.alignment.state = .held then .accepted else s.alignment.state, pairless := 0, holdAge, limitDue } := by
  rcases h with h | h | h
  · exact ⟨s.alignment.holdAge, s.alignment.limitDue, by simp [State.paired, State.measured, h, ha, near]⟩
  · exact ⟨s.alignment.holdAge, s.alignment.limitDue, by simp [State.paired, State.measured, h, ha, near]⟩
  · exact ⟨0, false, by simp [State.paired, State.measured, h, ha, near]⟩

/-- R71, R73: a pair that disagrees with the accepted offset. -/
theorem paired_disagrees {m d : Int} (ha : s.alignment.accepted = some d)
    (h : s.alignment.state = .accepted ∨ s.alignment.state = .outOfReach ∨ s.alignment.state = .held)
    (far : s.bank.front.monitor.tolerance < (m - d).natAbs) : s.paired r m =
      (s.setAlignment ((s.measured r m).disagree s.bank.front.monitor.confirm m)).raiseAll .alignmentChanged := by
  rcases h with h | h | h <;> simp [State.paired, State.measured, h, ha, Nat.not_le.mpr far]

theorem touches_paired (s : State) (r : Rig) (m : Int) : Touches [.alignment, .ports] s (s.paired r m) := by
  have set : ∀ x, Touches [.alignment, .ports] s (s.setAlignment x) := fun x => Touches.refl.setAlignment (by decide)
  have raised : ∀ x, Touches [.alignment, .ports] s ((s.setAlignment x).raiseAll .alignmentChanged) := fun x =>
    (Touches.refl.setAlignment (by decide)).raiseAll (by decide)
  unfold State.paired
  dsimp only
  split
  · exact set _
  · split
    · exact set _
    · split <;> exact set _
  all_goals
    split
    · exact set _
    · exact raised _

/-- R65: the measurement of a pair. -/
theorem paired_measures (s : State) (r : Rig) (m : Int) : (s.paired r m).alignment.pairInTick = true ∧
    (s.paired r m).alignment.lastMeasurement = some { offset := m, instant := s.clock.count, rig := r } := by
  unfold State.paired
  dsimp only
  split
  · exact ⟨rfl, rfl⟩
  · split
    · exact ⟨rfl, rfl⟩
    · split <;> exact ⟨rfl, rfl⟩
  all_goals split <;> exact ⟨rfl, rfl⟩

/-- R64: whether an accepted beacon forms a pair. -/
theorem pairOf_iff {new : RigRecord} {m : Int} : s.pairOf r new = some m ↔ ∃ (o : RigRecord) (mine theirs : Stamp),
    (s.parsers.get r.other).record = some o ∧ new.anchor = some mine ∧ o.anchor = some theirs ∧ new.song = o.song ∧
    0 ≤ stampDiff new.stamp o.stamp ∧ stampDiff new.stamp o.stamp ≤ 2 * s.bank.setup.period.samples ∧
    (s.handed r).down = false ∧ (s.handed r.other).down = false ∧
    m = (match r with | .a => stampDiff theirs mine | .b => stampDiff mine theirs) := by
  unfold State.pairOf
  cases record : (s.parsers.get r.other).record with
  | none => exact ⟨fun found => (nomatch found), fun ⟨_, _, _, h, _⟩ => (nomatch h)⟩
  | some o =>
    dsimp only
    split
    · rename_i mine theirs hm ht
      split
      · rename_i h
        obtain ⟨song, low, high, up, upOther⟩ := h
        constructor
        · intro found
          exact ⟨o, mine, theirs, rfl, hm, ht, song, low, high, up, upOther, by cases r <;> exact (Option.some.inj found).symm⟩
        · rintro ⟨o', mine', theirs', ho, hm', ht', -, -, -, -, -, rfl⟩
          cases ho
          rw [hm] at hm'
          rw [ht] at ht'
          cases hm'
          cases ht'
          cases r <;> rfl
      · rename_i h
        refine ⟨(fun found => nomatch found), ?_⟩
        rintro ⟨o', mine', theirs', ho, hm', ht', song, low, high, up, upOther, -⟩
        cases ho
        exact absurd ⟨song, low, high, up, upOther⟩ h
    · rename_i h
      refine ⟨(fun found => nomatch found), ?_⟩
      rintro ⟨o', mine', theirs', ho, hm', ht', -⟩
      cases ho
      exact absurd ht' (h _ _ hm')

/-- R76: what a pair leaves, with the arbiter neither in BLIND nor at a completion. -/
theorem takePair_leaves {m : Int} (blind : s.arbiter.state ≠ .blind) (unfinished : s.completionHolds = false) :
    let t := s.takePair r m
    Touches [.alignment, .arbiter, .ports] s t ∧ t.alignment = (s.paired r m).alignment ∧ t.ports = (s.paired r m).ports ∧
      t.arbiter = { s.arbiter with eligible := t.eligibleNow } := by
  have first := touches_paired s r m
  have ran : s.takePair r m = (s.paired r m).reEligible := by
    rw [takePair_eq, reEligible_run (by rw [first.arbiter]; exact blind)
      ((completionHolds_congr (s := s) (by rw [first.arbiter]) (by rw [first.arbiter]) (by rw [first.mixer])).trans unfinished)]
  have eligible := reEligible_arbiter (s.paired r m)
  rw [← ran, first.arbiter] at eligible
  refine ⟨?_, by rw [ran]; rfl, by rw [ran]; rfl, eligible⟩
  rw [ran]
  exact (first.mono (by decide)).reEligible (by decide)

/-- Settles O49: the candidate accepted (`offsetAccepted_leaves`), its lapse, and each alignment state at a pair. -/
theorem offsetAcceptance : Obligations.OffsetAcceptance := by
  refine ⟨?_, fun s hs down => ⟨_, rfl, takeAcceptance_down hs down⟩, ?_⟩
  · intro s c d hs hc due up blind unfinished
    refine ⟨s.takeAcceptance, rfl, ?_⟩
    obtain ⟨touched, noted, arbiter, near, moving, far⟩ := offsetAccepted_leaves s c
    have ran : s.takeAcceptance = (s.offsetAccepted c).settleDelay.reEligible := by
      rw [takeAcceptance_up hs hc due up]
      refine run_still ((completionHolds_congr (s := s) ?_ ?_ (by rw [touched.mixer])).trans unfinished)
        (lateFailoverHolds_of_not_blind ?_) <;> rw [arbiter]
      exact blind
    rw [ran]
    generalize (s.offsetAccepted c).settleDelay.reEligible = t at *
    have reach : inReach d = true ∨ inReach d = false := by cases inReach d <;> simp
    have state : s.arbiter.state = .changing ∨ s.arbiter.state ≠ .changing := em _
    have fields : t.alignment.accepted = some c.offset ∧ t.alignment.candidate = none ∧ t.alignment.pairless = 0 ∧
        t.alignment.lastRequired = some d := by
      rcases reach with h | h
      · rcases state with hm | hm
        · rw [(moving h hm).2]
          exact ⟨rfl, rfl, rfl, rfl⟩
        · rw [(near h hm).1]
          exact ⟨rfl, rfl, rfl, rfl⟩
      · rw [(far h).2]
        exact ⟨rfl, rfl, rfl, rfl⟩
    obtain ⟨accepted, candidate, pairless, required⟩ := fields
    refine ⟨touched, accepted, candidate, pairless, required, noted, arbiter, fun h => ⟨?_, fun hm => ?_, fun hm => ?_⟩, fun h => ?_⟩
    · rcases state with hm | hm
      · rw [(moving h hm).2]
      · rw [(near h hm).1]
    · have hd : d = requiredFor s.lines s.arbiter.reference c.offset := requiredDelay_eq s c.offset
      rw [(near h hm).2]
      change (_ : Int) - _ = _ ∧ _
      rw [show s.requiredDelay c.offset = d from rfl, hd]
      refine ⟨delays_of_required _ _ _ ?_, ?_⟩
      · rw [← hd]
        exact ((inReach_iff d).mp h).1
      · cases s.arbiter.reference <;> rfl
    · obtain ⟨lines, alignment⟩ := moving h hm
      rw [alignment, standby_eq]
      exact ⟨lines, rfl⟩
    · obtain ⟨lines, alignment⟩ := far h
      rw [alignment]
      exact ⟨rfl, lines, rfl⟩
  · intro s x r t a p pair confirms
    refine ⟨fun unpaired => ?_, fun m paired blind unfinished => ?_⟩
    · have none : s.pairOf r x.new = none := by
        cases found : s.pairOf r x.new with
        | none => rfl
        | some m => exact absurd (pairOf_iff.mp found) (unpaired m)
      change State.alignmentReads s x = s
      unfold State.alignmentReads
      rw [none]
    · have read : t = s.takePair r m := by
        change State.alignmentReads s x = _
        unfold State.alignmentReads
        rw [pairOf_iff.mpr paired]
      obtain ⟨touched, alignment, ports, arbiter⟩ := takePair_leaves (r := r) (m := m) blind unfinished
      rw [← read] at touched alignment ports arbiter
      obtain ⟨inTick, measured⟩ := paired_measures s r m
      have raised : ∀ y, s.paired r m = s.setAlignment y → t.ports = s.ports := fun y h => by rw [ports, h]; rfl
      have confirming : ∀ (y : Alignment) c, s.paired r m = s.setAlignment (y.withCandidate p.confirm c) → confirms c := by
        intro y c h
        change Confirms s t c
        unfold Confirms
        rw [alignment, h]
        exact confirms_withCandidate s y c
      refine ⟨touched, by rw [alignment]; exact inTick, by rw [alignment]; exact measured, arbiter, fun h => ?_, fun c h hc => ?_,
        fun d ha h => ⟨fun near => ?_, fun far => ?_⟩⟩
      · exact ⟨confirming _ _ (paired_none h), raised _ (paired_none h)⟩
      · refine ⟨?_, fun near => confirming _ _ (paired_near h hc near), fun far => confirming _ _ (paired_far h hc far)⟩
        rcases Nat.lt_or_ge p.tolerance (m - c.offset).natAbs with far | near
        · exact raised _ (paired_far h hc far)
        · exact raised _ (paired_near h hc near)
      · obtain ⟨holdAge, limitDue, agrees⟩ := paired_agrees (r := r) ha h near
        refine ⟨raised _ agrees, ?_⟩
        rw [alignment, agrees]
        exact ⟨ha, rfl, rfl⟩
      · have disagrees := paired_disagrees (r := r) ha h far
        refine ⟨?_, ?_, ?_, ?_⟩
        · change Confirms s t _
          unfold Confirms
          rw [alignment, disagrees]
          exact confirms_withCandidate s _ _
        · rw [alignment, disagrees]
          rfl
        · rw [alignment, disagrees]
          rfl
        · refine Noted.kept (s := s.paired r m) ?_ (.of_ports ports)
          rw [disagrees]
          exact noted_raiseAll _ _

/-! ### Two pairless ticks, and the hold limit (R72, R73, R201) -/

/-- R73: the accepted offset discarded at the hold limit. -/
def State.holdEnded (s : State) : State :=
  (s.setAlignment { s.alignment with
    state := .none, accepted := none, deferred := none, lastRequired := none, holdAge := 0, limitDue := false }).raiseAll .alignmentChanged

theorem takeHoldLimit_due (h : s.alignment.state = .held) (hd : s.alignment.limitDue = true) :
    s.takeHoldLimit = s.holdEnded.reEligible.run := if_pos ⟨h, hd⟩

/-- R76: without an accepted offset no standby is eligible. -/
theorem eligibleNow_of_none (h : s.alignment.state = .none) : s.eligibleNow = false := by
  unfold State.eligibleNow
  rw [h]
  simp

theorem lateFailoverHolds_of_ineligible (h : s.arbiter.eligible = false) : s.lateFailoverHolds = false := by
  simp [State.lateFailoverHolds, h]

theorem takeAlignmentHeld_pairless (h : 2 ≤ s.alignment.pairless) : s.takeAlignmentHeld = (match s.alignment.state with
    | .none => s
    | .held => s
    | .accepted =>
      s.setAlignment { s.alignment with
        state := .held, holdAge := 0, pairless := 0, limitDue := decide (s.bank.front.monitor.holdLimit = 0) }
    | .confirming => s.setAlignment { s.alignment with state := .none, candidate := none, pairless := 0, acceptDue := false }
    | .outOfReach => (s.setAlignment { s.alignment with
        state := .none, accepted := none, lastRequired := none, pairless := 0 }).raiseAll .alignmentChanged) := if_pos h

/-- Settles O50: each alignment state after two pairless ticks, and HELD at its limit. -/
theorem alignmentHeldAndHoldLimit : Obligations.AlignmentHeldAndHoldLimit := by
  refine ⟨fun s pairless some held => ⟨_, rfl, ?_⟩, fun s held due unfinished => ⟨_, rfl, ?_⟩⟩
  · rw [takeAlignmentHeld_pairless pairless]
    cases h : s.alignment.state with
    | none => exact absurd h some
    | held => exact absurd h held
    | accepted => exact ⟨Touches.refl.setAlignment (by decide), rfl, fun _ => ⟨rfl, rfl, rfl, rfl, decide_eq_true_iff⟩, nofun, nofun⟩
    | confirming => exact ⟨Touches.refl.setAlignment (by decide), rfl, nofun, fun _ => ⟨rfl, rfl, rfl⟩, nofun⟩
    | outOfReach => exact ⟨(Touches.refl.setAlignment (by decide)).raiseAll (by decide), rfl, nofun, nofun, fun _ =>
        ⟨rfl, rfl, noted_raiseAll _ _⟩⟩
  · have ineligible : s.holdEnded.reEligible.arbiter = { s.arbiter with eligible := false } := by
      rw [reEligible_arbiter, eligibleNow_of_none rfl]
      rfl
    have ran : s.takeHoldLimit = s.holdEnded.reEligible := by
      rw [takeHoldLimit_due held due]
      exact run_still ((completionHolds_congr (s := s) rfl rfl rfl).trans unfinished)
        (lateFailoverHolds_of_ineligible (by rw [ineligible]))
    rw [ran]
    exact ⟨((Touches.refl.setAlignment (by decide)).raiseAll (by decide)).reEligible (by decide), rfl, rfl, rfl, rfl, ineligible,
      (noted_raiseAll _ _).kept (.of_ports rfl)⟩

end Sys2Proof.Machine

/-! PROOFS. The handing on of health states (R55): what one handing leaves, and what a whole round leaves in STEADY, where auto is not
permitted, and of a rig that is down. -/

namespace Sys2Proof.Machine

open Sys2Proof

/- In order: bodies elaborated side by side while the kernel still checks the text above each hold a thread's stack. -/
set_option Elab.async false

variable {s t u v w x p : State} {r k : Rig} {h : Health} {f g : Table 11 FaultEntry} {kinds : KindSet} {time : Nat}
  {run : State → State}

/-! ### A rig that is down stays down (R49, R52) -/

theorem down_iff {a : HealthState} : a.down = true ↔ a = .failed ∨ a = .offline := by cases a <;> decide

theorem Health.evidence_down (hd : h.state.down = true) : (h.evidence f time kinds).state = h.state := by
  rcases down_iff.mp hd with hs | hs
  · rw [(Health.evidence_stays_failed hs).1, hs]
  · rw [Health.evidence_offline hs]

theorem Health.qualify_down (hd : h.state.down = true) : (h.qualify f kinds).state = h.state := by
  unfold Health.qualify
  rcases down_iff.mp hd with hs | hs
  · rw [hs]
  · rw [hs]
    exact hs

theorem Health.restored_of_down (hd : h.state.down = true) : h.restored time = h := by
  refine if_neg fun due => ?_
  rcases down_iff.mp hd with hs | hs <;> simp [Health.restoreDue, hs] at due

theorem Health.settleDue_down (hd : h.state.down = true) : (h.settleDue f time).state = h.state := by
  have qualified : (h.settleQualifying f).state = h.state := by
    unfold Health.settleQualifying
    split
    · exact Health.qualify_down (h := { h with qualifying := noKinds }) hd
    · rfl
  unfold Health.settleDue
  rw [Health.restored_of_down (by rw [qualified]; exact hd), qualified]

theorem Health.restoreChange_down (hd : h.state.down = true) : (h.restoreChange time).state = h.state := by
  have idle : h.restoreDue time = false := by
    rcases down_iff.mp hd with hs | hs <;> simp [Health.restoreDue, hs]
  unfold Health.restoreChange
  rw [idle]
  rfl

theorem Health.policyChange_down (hd : h.state.down = true) : (h.policyChange f g).state = h.state := by
  have trimmed : ∀ (c : Table 11 Nat) kinds, ((({ h with counters := c } : Health).qualify g kinds)).state = h.state := fun c kinds =>
    Health.qualify_down (h := { h with counters := c }) hd
  unfold Health.policyChange
  dsimp only
  split
  · rename_i hs
    rw [hs] at hd
    cases hd
  · rename_i hs
    rw [hs] at hd
    cases hd
  · rename_i hs
    rw [hs] at hd
    cases hd
  · split
    · rfl
    · exact trimmed _ _
  · rfl

theorem noteEvidence_down (hd : (s.health.get k).state.down = true) :
    ((s.noteEvidence r kinds).health.get k).state = (s.health.get k).state := by
  rw [State.noteEvidence, State.moveHealth_health, PerRig.get_set]
  split
  · rename_i same
    rw [same] at hd ⊢
    exact Health.evidence_down (h := { s.health.get r with events := _ }) hd
  · rfl

/-! ### DIVERGED re-examined (R36) -/

theorem reDivergedBy_other (s : State) (a : HealthState) (ne : k ≠ r) : (s.reDivergedBy r a).health.get k = s.health.get k := by
  unfold State.reDivergedBy
  dsimp only
  split
  · rfl
  · split
    · rw [State.noteEvidence, State.moveHealth_health, PerRig.get_set, if_neg ne]
      rfl
    · rfl

theorem reDivergedBy_down (s : State) (a : HealthState) (hd : (s.health.get k).state.down = true) :
    ((s.reDivergedBy r a).health.get k).state = (s.health.get k).state := by
  unfold State.reDivergedBy
  dsimp only
  split
  · rfl
  · split
    · exact noteEvidence_down (s := s.setParser r _) hd
    · rfl

theorem noteEvidence_handed (s : State) (r k : Rig) (kinds : KindSet) : (s.noteEvidence r kinds).handed k = s.handed k :=
  State.moveHealthBy_handed ..

theorem reDivergedBy_handed (s : State) (a : HealthState) : (s.reDivergedBy r a).handed k = s.handed k := by
  unfold State.reDivergedBy
  dsimp only
  split
  · rfl
  · split
    · exact noteEvidence_handed _ _ _ _
    · rfl

/-- R36: where the rig's record is not PLAYING and the other's is, DIVERGED of the rig is present. -/
def State.divergedMarked (s : State) (r : Rig) : Prop :=
  (s.parsers.get r).notPlaying = true → (s.parsers.get r.other).playing = true → (s.parsers.get r).diverged = true

/-- R36: a re-examination moves of the parsers DIVERGED of its rig alone. -/
theorem reDivergedBy_parsers (s : State) (r k : Rig) (a : HealthState) :
    (s.reDivergedBy r a).parsers.get k = { s.parsers.get k with diverged := ((s.reDivergedBy r a).parsers.get k).diverged } ∧
      (k ≠ r → (s.reDivergedBy r a).parsers.get k = s.parsers.get k) := by
  have set : ∀ b, ((s.setParser r { s.parsers.get r with diverged := b }).parsers.get k) =
      { s.parsers.get k with diverged := ((s.setParser r { s.parsers.get r with diverged := b }).parsers.get k).diverged } ∧
      (k ≠ r → (s.setParser r { s.parsers.get r with diverged := b }).parsers.get k = s.parsers.get k) := by
    intro b
    rw [State.setParser, setParsers_parsers, PerRig.get_set]
    split
    · rename_i same
      subst same
      exact ⟨rfl, fun h => absurd rfl h⟩
    · exact ⟨rfl, fun _ => rfl⟩
  unfold State.reDivergedBy
  dsimp only
  split
  · exact ⟨rfl, fun _ => rfl⟩
  · split
    · rw [(Touches.refl.noteEvidence (by decide) : Touches [.health] (s.setParser r _) _).parsers]
      exact set _
    · exact set _

/-- R36: a DIVERGED that is marked already is no new evidence. -/
theorem reDivergedBy_marked (a : HealthState) (h : s.divergedMarked r) : (s.reDivergedBy r a).health = s.health := by
  unfold State.reDivergedBy
  dsimp only
  split
  · rfl
  · rename_i moved
    split
    · rename_i now
      refine absurd (now.trans (h ?_ ?_).symm) moved
      all_goals
        simp only [State.divergedBy, Bool.and_eq_true] at now
        simp only [now]
    · rfl

/-! ### One health state handed on (R55) -/

/-- R55, R76: a rig's new health state is handed on, before the arbiter takes it. -/
def State.handedOn (s : State) (r : Rig) : State :=
  (((s.setHanding r { s.instantHealth.handing.get r with handed := (s.health.get r).state }).raiseAll .healthChanged).reDiverged
    r.other).reEligible

/-- R55: what the handing on of a rig's state leaves before the arbiter takes it. -/
structure HandedOn (v w : State) (r : Rig) : Prop where
  touched : Touches [.parsers, .health, .arbiter, .ports] v w
  arbiter : w.arbiter = { v.arbiter with eligible := w.eligibleNow }
  own : w.health.get r = v.health.get r
  down : ∀ k, (v.health.get k).state.down = true → (w.health.get k).state = (v.health.get k).state
  handed : w.handed r = (v.health.get r).state
  other : w.handed r.other = v.handed r.other
  parsers : ∀ j, w.parsers.get j = { v.parsers.get j with diverged := (w.parsers.get j).diverged }
  ownParser : w.parsers.get r = v.parsers.get r
  marked : v.divergedMarked r.other → w.health = v.health
  noted : Noted w .healthChanged
  notices : NoticesKept v w

theorem handedOn_handedOn (v : State) (r : Rig) : HandedOn v (v.handedOn r) r := by
  generalize hy : (v.setHanding r { v.instantHealth.handing.get r with handed := (v.health.get r).state }).raiseAll .healthChanged = y
  have before : Touches [.health, .ports] v y := by
    rw [← hy]
    exact (Touches.refl.setHanding (by decide)).raiseAll (by decide)
  have health : y.health = v.health := by rw [← hy]; rfl
  have handed : y.handed r = (v.health.get r).state := by
    rw [← hy]
    cases r <;> rfl
  have other : y.handed r.other = v.handed r.other := by
    rw [← hy]
    cases r <;> rfl
  have noted : Noted y .healthChanged := by rw [← hy]; exact noted_raiseAll _ _
  have notices : NoticesKept v y := by rw [← hy]; exact noticesKept_raiseAll_of rfl
  have parsers := before.parsers
  have ne : r ≠ r.other := by cases r <;> decide
  have touched : Touches [.parsers, .health] y (y.reDiverged r.other) := Touches.refl.reDiverged (by decide)
  have result : v.handedOn r = (y.reDiverged r.other).reEligible := by rw [← hy]; rfl
  have eligible := reEligible_arbiter (y.reDiverged r.other)
  rw [result]
  refine ⟨((before.mono (by decide)).andThen touched (by decide)).reEligible (by decide), ?_, ?_, fun k hd => ?_, ?_, ?_, fun j => ?_, ?_, ?_, ?_, ?_⟩
  · rw [eligible, touched.arbiter, before.arbiter]
  · rw [show (y.reDiverged r.other).reEligible.health = (y.reDiverged r.other).health from rfl, State.reDiverged,
      reDivergedBy_other _ _ ne, health]
  · rw [← health] at hd ⊢
    exact reDivergedBy_down y _ hd
  · exact (reDivergedBy_handed y _).trans handed
  · exact (reDivergedBy_handed y _).trans other
  · rw [← parsers]
    exact (reDivergedBy_parsers y _ j _).1
  · rw [← parsers]
    exact (reDivergedBy_parsers y _ r _).2 ne
  · unfold State.divergedMarked
    rw [← parsers, ← health]
    exact reDivergedBy_marked _
  · exact noted.kept (.of_ports touched.ports)
  · exact notices.trans (.of_ports touched.ports)

/-- R55, R76, R81: a health state that is not handed on yet is handed on, and the arbiter takes a going down, a coming up or nothing
of it. -/
theorem handOneWith_cases (run : State → State) (v : State) (r : Rig) : v.handOneWith run r = v ∨
    (v.handed r ≠ (v.health.get r).state ∧ ∃ w, HandedOn v w r ∧ (v.handOneWith run r = run w ∨
      ((v.health.get r).state.down = true ∧ v.handOneWith run r = run (w.goesDown r)) ∨
      ((v.health.get r).state = .healthy ∧ v.handOneWith run r = run (w.comesUp r)))) := by
  by_cases same : (v.health.get r).state = (v.instantHealth.handing.get r).handed
  · exact .inl (if_pos same)
  · have on := handedOn_handedOn v r
    refine .inr ⟨Ne.symm same, v.handedOn r, on, ?_⟩
    generalize hz : ((v.setHanding r { v.instantHealth.handing.get r with handed := (v.health.get r).state }).raiseAll
      .healthChanged).reDiverged r.other = z
    have result : v.handedOn r = z.reEligible := by rw [← hz]; rfl
    have handed : z.handed r = (v.health.get r).state := by rw [result] at on; exact on.handed
    have one : v.handOneWith run r = z.takeHealthWith run r (v.instantHealth.handing.get r) := by
      rw [← hz]
      exact if_neg same
    rw [one, result, State.takeHealthWith, handed]
    by_cases falls : (v.instantHealth.handing.get r).falls (v.health.get r).state = true
    · refine .inr (.inl ⟨?_, by rw [if_pos falls]⟩)
      simp only [Handing.falls, Bool.and_eq_true] at falls
      exact falls.1.1
    · by_cases healthy : (v.health.get r).state = .healthy
      · exact .inr (.inr ⟨healthy, by rw [if_neg falls, if_pos healthy]⟩)
      · exact .inl (by rw [if_neg falls, if_neg healthy])

/-! ### The standing tests in a round of handings -/

/-- What the standing tests do where no exchange can be due: nothing where none of them holds. -/
structure Standing (run : State → State) : Prop where
  still : ∀ v : State, v.completionHolds = false → v.lateFailoverHolds = false → run v = v
  touched : ∀ v : State, v.bank.exchange = none → Touches changeBlocks v (run v)
  notices : ∀ v : State, NoticesKept v (run v)

theorem standing_run : Standing State.run :=
  ⟨fun _ => run_still, fun _ => touches_run_of_no_exchange, fun v => ((Moves.refl (writes := False) v).run).noticesKept⟩

theorem standing_settleArbiter : Standing State.settleArbiter :=
  ⟨fun _ => arbRunWith_still, fun _ _ => Touches.refl.settleArbiter (by decide),
    fun v => ((Moves.refl (writes := False) v).settleArbiter).noticesKept⟩

/-- A property that each handing and the standing tests keep is kept by the handing of both rigs. -/
theorem handBothWith_keeps {I : State → Prop} (hand : ∀ v r, I v → I (v.handOneWith run r)) (tests : ∀ v, I v → I (run v)) (h : I s) :
    I (s.handBothWith run) := by
  have settled : ∀ v r, I v → I (v.handSettledWith run r) := by
    intro v r h
    unfold State.handSettledWith State.handHealthWith
    dsimp only
    split
    · exact h
    · split
      · exact h
      · split
        · exact hand v r h
        · exact hand _ _ (hand v r h)
  exact tests _ (settled _ _ (settled _ _ h))

/-- The blocks that the handing on of health states can touch, with what the arbiter makes of it. -/
abbrev handBlocks : List Block := [.parsers, .health, .lines, .alignment, .arbiter, .mixer, .showClock, .tcOutput, .ports]

/-- What every round of handings leaves: blocks, notices, and the rigs that are down. -/
structure Handed (x v : State) : Prop where
  touched : Touches handBlocks x v
  notices : NoticesKept x v
  down : ∀ k, (x.health.get k).state.down = true → (v.health.get k).state = (x.health.get k).state

theorem Handed.refl (x : State) : Handed x x := ⟨.refl, .refl x, fun _ _ => rfl⟩

theorem Handed.trans (a : Handed x v) (b : Handed v w) : Handed x w :=
  ⟨a.touched.trans b.touched, a.notices.trans b.notices, fun k hd =>
    (b.down k (by rw [a.down k hd]; exact hd)).trans (a.down k hd)⟩

theorem HandedOn.toHanded (on : HandedOn v w r) : Handed v w := ⟨on.touched.mono (by decide), on.notices, on.down⟩

theorem handed_changes (h : Touches changeBlocks v w) (n : NoticesKept v w) : Handed v w :=
  ⟨h.mono (by decide), n, fun k _ => by rw [h.health]⟩

theorem handed_goesDown (v : State) (r : Rig) : Handed v (v.goesDown r) :=
  handed_changes (Touches.refl.goesDown (by decide)) ((Moves.refl (writes := False) v).goesDown r).noticesKept

theorem handed_comesUp (v : State) (r : Rig) : Handed v (v.comesUp r) :=
  handed_changes (Touches.refl.comesUp (by decide)) ((Moves.refl (writes := False) v).comesUp r).noticesKept

theorem Handed.tests (hr : Standing run) (none : x.bank.exchange = none) (a : Handed x v) : Handed x (run v) :=
  a.trans (handed_changes (hr.touched v (by rw [a.touched.bank]; exact none)) (hr.notices v))

theorem Handed.handOne (hr : Standing run) (none : x.bank.exchange = none) (a : Handed x v) (r : Rig) : Handed x (v.handOneWith run r) := by
  rcases handOneWith_cases run v r with same | ⟨-, w, on, result | ⟨-, result⟩ | ⟨-, result⟩⟩
  · rw [same]
    exact a
  · rw [result]
    exact (a.trans on.toHanded).tests hr none
  · rw [result]
    exact ((a.trans on.toHanded).trans (handed_goesDown w r)).tests hr none
  · rw [result]
    exact ((a.trans on.toHanded).trans (handed_comesUp w r)).tests hr none

theorem handed_handBoth (hr : Standing run) (none : s.bank.exchange = none) : Handed s (s.handBothWith run) :=
  handBothWith_keeps (I := Handed s) (fun _ r a => a.handOne hr none r) (fun _ a => a.tests hr none) (.refl s)

/-! ### A round of handings in STEADY -/

/-- R86: in STEADY a round of handings changes no group and of the arbiter eligibility alone, unless the on-air rig has gone down. -/
structure Steadied (x v : State) (r : Rig) : Prop where
  handed : Handed x v
  steady : (v.health.get r).state.down = false →
    v.arbiter = { x.arbiter with eligible := v.arbiter.eligible } ∧ v.mixer = x.mixer

theorem Steadied.tests (hr : Standing run) (none : x.bank.exchange = none) (steady : x.arbiter.state = .steady) (a : Steadied x v r) :
    Steadied x (run v) r := by
  refine ⟨a.handed.tests hr none, fun up => ?_⟩
  have health : (run v).health = v.health := (hr.touched v (by rw [a.handed.touched.bank]; exact none)).health
  obtain ⟨arbiter, mixer⟩ := a.steady (by rw [← health]; exact up)
  have state : v.arbiter.state = .steady := by rw [arbiter]; exact steady
  rw [hr.still v (completionHolds_of_not_changing (by rw [state]; exact ArbState.noConfusion))
    (lateFailoverHolds_of_not_blind (by rw [state]; exact ArbState.noConfusion))]
  exact ⟨arbiter, mixer⟩

theorem goesDown_of_other (h : s.arbiter.onAir ≠ some r) : s.goesDown r = s := if_neg h

theorem comesUp_of_not_blind (h : s.arbiter.state ≠ .blind) : s.comesUp r = s := if_neg fun both => h both.1

theorem Steadied.handOne (hr : Standing run) (none : x.bank.exchange = none) (steady : x.arbiter.state = .steady)
    (onAir : x.arbiter.onAir = some r) (a : Steadied x v r) (k : Rig) : Steadied x (v.handOneWith run k) r := by
  rcases handOneWith_cases run v k with same | ⟨-, w, on, cases⟩
  · rw [same]
    exact a
  · have first : Steadied x w r := by
      refine ⟨a.handed.trans on.toHanded, fun up => ?_⟩
      have before : (v.health.get r).state.down = false := by
        rw [Bool.eq_false_iff] at up ⊢
        exact fun down => up (by rw [on.down r down]; exact down)
      obtain ⟨arbiter, mixer⟩ := a.steady before
      refine ⟨by rw [on.arbiter, arbiter], on.touched.mixer.trans mixer⟩
    rcases cases with result | ⟨down, result⟩ | ⟨healthy, result⟩
    · rw [result]
      exact first.tests hr none steady
    · rw [result]
      refine Steadied.tests hr none steady ⟨first.handed.trans (handed_goesDown w k), fun up => ?_⟩
      have health : (w.goesDown k).health = w.health := (Touches.refl.goesDown (by decide) : Touches changeBlocks w _).health
      obtain ⟨arbiter, mixer⟩ := first.steady (by rw [← health]; exact up)
      have ne : k ≠ r := by
        rintro rfl
        rw [health, on.own, down] at up
        cases up
      rw [goesDown_of_other (by rw [arbiter, onAir]; exact fun h => ne (Option.some.inj h).symm)]
      exact ⟨arbiter, mixer⟩
    · rw [result]
      refine Steadied.tests hr none steady ⟨first.handed.trans (handed_comesUp w k), fun up => ?_⟩
      have health : (w.comesUp k).health = w.health := (Touches.refl.comesUp (by decide) : Touches changeBlocks w _).health
      obtain ⟨arbiter, mixer⟩ := first.steady (by rw [← health]; exact up)
      rw [comesUp_of_not_blind (by rw [arbiter]; change x.arbiter.state ≠ _; rw [steady]; exact ArbState.noConfusion)]
      exact ⟨arbiter, mixer⟩

theorem steadied_handBoth (hr : Standing run) (none : s.bank.exchange = none) (steady : s.arbiter.state = .steady)
    (onAir : s.arbiter.onAir = some r) : Steadied s (s.handBothWith run) r :=
  handBothWith_keeps (I := fun v => Steadied s v r) (fun _ k a => a.handOne hr none steady onAir k) (fun _ a => a.tests hr none steady)
    ⟨.refl s, fun _ => ⟨rfl, rfl⟩⟩

/-! ### A round of handings where auto is not permitted -/

/-- The blocks that the handing on of health states touches where it brings no changeover. -/
abbrev quietHandBlocks : List Block := [.parsers, .health, .arbiter, .mixer, .ports]

/-- R86, R93, R95: where auto is not permitted a round of handings leads from STEADY to BLIND or back, and outside BLIND every group
that had its target has it; an on-air rig that is down keeps the arbiter in BLIND. -/
structure Unaided (x v : State) : Prop where
  touched : Touches quietHandBlocks x v
  notices : NoticesKept x v
  down : ∀ k, (x.health.get k).state.down = true → (v.health.get k).state = (x.health.get k).state
  arbiter : v.arbiter = { x.arbiter with state := v.arbiter.state, eligible := v.arbiter.eligible }
  state : v.arbiter.state = x.arbiter.state ∨
    ((x.arbiter.state = .steady ∨ x.arbiter.state = .blind) ∧ (v.arbiter.state = .steady ∨ v.arbiter.state = .blind))
  mixer : v.mixer = { x.mixer with groups := v.mixer.groups }
  modes : ∀ i, let g := x.mixer.groups.get i
    let h := v.mixer.groups.get i
    h.mode = g.mode ∧ h.base = g.base ∧ h.oneSong = g.oneSong
  targets : v.arbiter.state ≠ .blind → v.mixer = x.mixer ∧ v.arbiter.state = x.arbiter.state ∨
    ∀ i, (v.mixer.groups.get i).target = targetOf v.arbiter (x.bank.front.group.get i).policy (x.mixer.groups.get i).mode
  blind : ∀ r, x.arbiter.state = .blind → x.arbiter.onAir = some r → (x.health.get r).state.down = true →
    v.arbiter.state = .blind ∧ v.mixer = x.mixer

theorem Unaided.refl (x : State) : Unaided x x :=
  ⟨.refl, .refl x, fun _ _ => rfl, rfl, .inl rfl, rfl, fun _ => ⟨rfl, rfl, rfl⟩, fun _ => .inl ⟨rfl, rfl⟩, fun _ h _ _ => ⟨h, rfl⟩⟩

theorem Unaided.autoPermitted (a : Unaided x v) : v.autoPermitted = x.autoPermitted := by
  unfold State.autoPermitted
  rw [a.arbiter, a.touched.bank]

theorem Unaided.not_changing (a : Unaided x v) (h : x.arbiter.state ≠ .changing) : v.arbiter.state ≠ .changing := by
  rcases a.state with same | ⟨-, either⟩
  · rw [same]
    exact h
  · rcases either with now | now <;> rw [now] <;> exact ArbState.noConfusion

/-- The part but for parsers, health, eligibility and ports. -/
theorem Unaided.keep (a : Unaided x v) (touched : Touches [.parsers, .health, .arbiter, .ports] v w)
    (arbiter : w.arbiter = { v.arbiter with eligible := w.arbiter.eligible })
    (down : ∀ k, (v.health.get k).state.down = true → (w.health.get k).state = (v.health.get k).state) (notices : NoticesKept v w) :
    Unaided x w := by
  have state : w.arbiter.state = v.arbiter.state := by rw [arbiter]
  have onAir : w.arbiter.onAir = v.arbiter.onAir := by rw [arbiter]
  refine ⟨a.touched.trans (touched.mono (by decide)), a.notices.trans notices,
    fun k hd => (down k (by rw [a.down k hd]; exact hd)).trans (a.down k hd), by rw [arbiter, a.arbiter], by rw [state]; exact a.state,
    by rw [touched.mixer]; exact a.mixer, by rw [touched.mixer]; exact a.modes, ?_, by rw [state, touched.mixer]; exact a.blind⟩
  rw [state, touched.mixer, targetOf_congr state onAir]
  exact a.targets

/-- R106: every group has taken its target afresh, the arbiter's state being set. -/
theorem Unaided.regroup (a : Unaided x v) {st : ArbState} (hx : x.arbiter.state = .steady ∨ x.arbiter.state = .blind)
    (hst : st = .steady ∨ st = .blind) (none : ∀ r, x.arbiter.state = .blind → x.arbiter.onAir = some r →
      (x.health.get r).state.down = false) (touched : Touches [.arbiter, .ports] v w)
    (arbiter : w.arbiter = { v.arbiter with state := st }) (notices : NoticesKept v w) : Unaided x w.retargetAll := by
  have regrouped : Touches [.mixer] w w.retargetAll := Touches.refl.retargetAll (by decide)
  obtain ⟨mixer, groups⟩ := groupsRetargeted_retargetAll w
  have before : w.mixer = v.mixer := touched.mixer
  have state : w.arbiter.state = st := by rw [arbiter]
  refine ⟨(a.touched.trans (touched.mono (by decide))).andThen regrouped (by decide), (a.notices.trans notices).trans (.of_ports rfl),
    fun k hd => ?_, ?_, .inr ⟨hx, by rw [regrouped.arbiter, state]; exact hst⟩, ?_, fun i => ?_, fun _ => .inr fun i => ?_,
    fun r hb ho hd => ?_⟩
  · rw [regrouped.health, touched.health]
    exact a.down k hd
  · rw [regrouped.arbiter, arbiter, a.arbiter]
  · rw [mixer, before, a.mixer]
  · obtain ⟨mode, base, oneSong, -⟩ := groups i
    rw [before] at mode base oneSong
    obtain ⟨mode', base', oneSong'⟩ := a.modes i
    exact ⟨mode.trans mode', base.trans base', oneSong.trans oneSong'⟩
  · obtain ⟨-, -, -, target, -⟩ := groups i
    rw [target, regrouped.arbiter, touched.bank, a.touched.bank, before, (a.modes i).1]
  · rw [none r hb ho] at hd
    cases hd

theorem Unaided.tests (hr : Standing run) (still : x.arbiter.state ≠ .changing) (noAuto : x.autoPermitted = false) (a : Unaided x v) :
    Unaided x (run v) := by
  rw [hr.still v (completionHolds_of_not_changing (a.not_changing still))]
  · exact a
  · simp [State.lateFailoverHolds, a.autoPermitted, noAuto]

/-- R93: entry to BLIND where auto is not permitted hands the groups their targets at once. -/
theorem enterBlind_of_noAuto (h : s.autoPermitted = false) :
    s.enterBlind = ((s.setArbiter { s.arbiter with state := .blind }).raiseAll .blindEntered).retargetAll := by
  have quiet : ((s.setArbiter { s.arbiter with state := .blind }).raiseAll .blindEntered).lateFailoverHolds = false := by
    have same : ((s.setArbiter { s.arbiter with state := .blind }).raiseAll .blindEntered).autoPermitted = s.autoPermitted := rfl
    simp [State.lateFailoverHolds, same, h]
  rw [State.enterBlind, State.handTargets, quiet]
  rfl

theorem goesDown_of_noAuto (still : s.arbiter.state ≠ .changing) (h : s.autoPermitted = false) : s.goesDown r = s ∨
    (s.arbiter.state = .steady ∧ s.arbiter.onAir = some r ∧ s.goesDown r = s.enterBlind) := by
  unfold State.goesDown
  by_cases onAir : s.arbiter.onAir = some r
  · rw [if_pos onAir]
    cases state : s.arbiter.state with
    | stopped | blind => exact .inl rfl
    | changing => exact absurd state still
    | steady => exact .inr ⟨rfl, onAir, by simp [h]⟩
  · exact .inl (if_neg onAir)

theorem Unaided.handOne (hr : Standing run) (still : x.arbiter.state ≠ .changing) (noAuto : x.autoPermitted = false) (a : Unaided x v)
    (k : Rig) : Unaided x (v.handOneWith run k) := by
  rcases handOneWith_cases run v k with same | ⟨-, w, on, cases⟩
  · rw [same]
    exact a
  · have first : Unaided x w := a.keep on.touched (by rw [on.arbiter]) on.down on.notices
    have off := first.autoPermitted.trans noAuto
    have either : w.arbiter.state = .steady ∨ w.arbiter.state = .blind → x.arbiter.state = .steady ∨ x.arbiter.state = .blind := by
      rcases first.state with same | ⟨hx, -⟩
      · rw [same]
        exact id
      · exact fun _ => hx
    rcases cases with result | ⟨down, result⟩ | ⟨healthy, result⟩
    · rw [result]
      exact first.tests hr still noAuto
    · rw [result]
      refine Unaided.tests hr still noAuto ?_
      rcases goesDown_of_noAuto (r := k) (first.not_changing still) off with same | ⟨steady, onAir, falls⟩
      · rw [same]
        exact first
      · rw [falls, enterBlind_of_noAuto off]
        refine first.regroup (either (.inl steady)) (.inr rfl) (fun r hb ho => ?_)
          ((Touches.refl.setArbiter (by decide)).raiseAll (by decide)) rfl (noticesKept_raiseAll_of rfl)
        rw [Bool.eq_false_iff]
        intro hd
        rw [(first.blind r hb ho hd).1] at steady
        cases steady
    · rw [result]
      refine Unaided.tests hr still noAuto ?_
      unfold State.comesUp
      split
      · rename_i both
        refine first.regroup (either (.inr both.1)) (.inl rfl) (fun r hb ho => ?_) (Touches.refl.setArbiter (by decide)) rfl
          (.of_ports rfl)
        rw [Bool.eq_false_iff]
        intro hd
        have same : r = k := Option.some.inj (ho.symm.trans (by rw [← both.2, first.arbiter]))
        subst same
        have stays := a.down r hd
        rw [healthy] at stays
        rw [← stays] at hd
        cases hd
      · exact first

theorem unaided_handBoth (hr : Standing run) (still : s.arbiter.state ≠ .changing) (noAuto : s.autoPermitted = false) :
    Unaided s (s.handBothWith run) :=
  handBothWith_keeps (I := Unaided s) (fun _ k a => a.handOne hr still noAuto k) (fun _ a => a.tests hr still noAuto) (.refl s)

/-! ### A round of handings that moves no health -/

/-- No health has moved, and each rig's state is handed on or its handing on finds DIVERGED of the other marked. -/
structure HealthStill (x v : State) : Prop where
  touched : Touches handBlocks x v
  health : v.health = x.health
  marked : ∀ k, v.handed k = (v.health.get k).state ∨ v.divergedMarked k.other

theorem HealthStill.changes (a : HealthStill x v) (h : Touches changeBlocks v w) : HealthStill x w := by
  refine ⟨a.touched.trans (h.mono (by decide)), h.health.trans a.health, fun k => ?_⟩
  unfold State.divergedMarked State.handed
  rw [h.instantHealth, h.health, h.parsers]
  exact a.marked k

theorem HealthStill.tests (hr : Standing run) (none : x.bank.exchange = none) (a : HealthStill x v) : HealthStill x (run v) :=
  a.changes (hr.touched v (by rw [a.touched.bank]; exact none))

theorem HealthStill.handOne (hr : Standing run) (none : x.bank.exchange = none) (a : HealthStill x v) (k : Rig) :
    HealthStill x (v.handOneWith run k) := by
  rcases handOneWith_cases run v k with same | ⟨fresh, w, on, cases⟩
  · rw [same]
    exact a
  · have health := on.marked ((a.marked k).resolve_left fresh)
    have first : HealthStill x w := by
      refine ⟨a.touched.trans (on.touched.mono (by decide)), health.trans a.health, fun j => ?_⟩
      by_cases same : j = k
      · subst same
        exact .inl (by rw [on.handed, health])
      · have other : j = k.other := by cases j <;> cases k <;> simp_all [Rig.other]
        subst other
        refine (a.marked k.other).imp (fun h => by rw [on.other, h, health]) fun h => ?_
        rw [Rig.other_other] at h ⊢
        intro mine theirs
        rw [on.ownParser] at mine ⊢
        rw [on.parsers] at theirs
        exact h mine theirs
    rcases cases with result | ⟨-, result⟩ | ⟨-, result⟩
    · rw [result]
      exact first.tests hr none
    · rw [result]
      exact (first.changes (Touches.refl.goesDown (by decide))).tests hr none
    · rw [result]
      exact (first.changes (Touches.refl.comesUp (by decide))).tests hr none

/-- R36: where DIVERGED is marked wherever it could be called for, a round of handings moves no health. -/
theorem health_handBoth (hr : Standing run) (none : s.bank.exchange = none) (marked : ∀ r, s.divergedMarked r) :
    (s.handBothWith run).health = s.health :=
  (handBothWith_keeps (I := HealthStill s) (fun _ k a => a.handOne hr none k) (fun _ a => a.tests hr none)
    ⟨.refl, rfl, fun k => .inr (marked k.other)⟩).health

end Sys2Proof.Machine

/-! PROOFS. The taking of an exchange (R170, R172): the banks, the monitors and the rigs' health before the health states are handed
on, and what the whole leaves of the groups and the arbiter. -/

namespace Sys2Proof.Machine

open Sys2Proof

/- In order: bodies elaborated side by side while the kernel still checks the text above each hold a thread's stack. -/
set_option Elab.async false

variable {s t u v w x p : State} {r k : Rig} {run : State → State}

/-! ### The banks exchanged, the monitors restarted and the rigs' health judged afresh -/

/-- R172: an exchange up to the groups. -/
def State.banksExchanged (s : State) : State :=
  let old := s.bank.front
  let s := s.guardRestartBoth
  let s := s.setBank { s.bank with front := s.bank.back, back := old, claim := none, exchange := none }
  let s := s.raiseAll .bankExchanged
  let s := (s.restoreChange .a).restoreChange .b
  (s.policyChange .a old.fault).policyChange .b old.fault

/-- R172: an exchange up to the handing on of the health states. -/
def State.exchanged (s : State) : State :=
  let x := s.banksExchanged
  ((if x.arbiter.state = .blind then x else x.retargetAll).rebase s.bank.front.song).clearMemories

theorem exchangeTakenWith_eq (run : State → State) (s : State) : s.exchangeTakenWith run =
    if (s.exchanged.handBothWith run).arbiter.state = .blind then (s.exchanged.handBothWith run).retargetAll
    else s.exchanged.handBothWith run := rfl

/-- R169: the bank store once an exchange is taken. -/
def BankStore.exchanged (b : BankStore) : BankStore := { b with front := b.back, back := b.front, claim := none, exchange := none }

theorem guardRestartBoth_of_unguarded (h : s.instantHealth.unguarded = none) :
    s.guardRestartBoth = s.setGuards (s.guards.map fun g => g.restart s.tickDue) := by
  unfold State.guardRestartBoth State.undoGuards
  rw [show (s.setGuards (s.guards.map fun g => g.restart s.tickDue)).instantHealth.unguarded = none from h]

/-- R41, R58: the rigs' health under a changed restore time and Fault Policy, the restore time first. -/
def State.rejudged (s : State) (old : Table 11 FaultEntry) : State :=
  ((s.restoreChange .a).restoreChange .b |>.policyChange .a old).policyChange .b old

theorem touches_rejudged (s : State) (old : Table 11 FaultEntry) : Touches [.health] s (s.rejudged old) :=
  (((Touches.refl.restoreChange (by decide)).restoreChange (by decide)).policyChange (by decide)).policyChange (by decide)

theorem rejudged_health (s : State) (old : Table 11 FaultEntry) (r : Rig) : (s.rejudged old).health.get r =
    ((s.health.get r).restoreChange s.restoreTime).policyChange old s.bank.front.fault := by
  have restored : ∀ (v : State) k, (v.restoreChange k).health = v.health.set k ((v.health.get k).restoreChange v.restoreTime) ∧
      Touches [.health] v (v.restoreChange k) := fun v k => ⟨State.moveHealth_health .., Touches.refl.restoreChange (by decide)⟩
  have judged : ∀ (v : State) k, (v.policyChange k old).health = v.health.set k ((v.health.get k).policyChange old v.bank.front.fault) ∧
      Touches [.health] v (v.policyChange k old) := fun v k => ⟨State.moveHealth_health .., Touches.refl.policyChange (by decide)⟩
  obtain ⟨ha, ta⟩ := restored s .a
  obtain ⟨hb, tb⟩ := restored (s.restoreChange .a) .b
  obtain ⟨hc, tc⟩ := judged ((s.restoreChange .a).restoreChange .b) .a
  obtain ⟨hd, -⟩ := judged (((s.restoreChange .a).restoreChange .b).policyChange .a old) .b
  have time : (s.restoreChange .a).restoreTime = s.restoreTime := by unfold State.restoreTime; rw [ta.bank]
  unfold State.rejudged
  rw [hd, hc, hb, ha, tc.bank, tb.bank, ta.bank, time]
  cases r <;> rfl

/-- R172: what an exchange has done of the banks, the monitors and the ports before the groups. -/
structure BanksExchanged (s x : State) : Prop where
  touched : Touches [.parsers, .guards, .health, .bank, .ports] s x
  bank : x.bank = s.bank.exchanged
  noted : Noted x .bankExchanged
  notices : NoticesKept s x
  guards : ∀ r, (x.guards.get r).void = true ∧ (x.guards.get r).silent = false ∧ (x.guards.get r).frozen = false
  health : s.instantHealth.unguarded = none → ∀ r, x.health.get r =
    ((s.health.get r).restoreChange s.bank.back.monitor.restoreTime).policyChange s.bank.front.fault s.bank.back.fault
  parsers : s.instantHealth.unguarded = none → x.parsers = s.parsers

theorem banksExchanged_banksExchanged (s : State) : BanksExchanged s s.banksExchanged := by
  generalize hy : (s.guardRestartBoth.setBank { s.guardRestartBoth.bank with
    front := s.guardRestartBoth.bank.back, back := s.bank.front, claim := none, exchange := none }).raiseAll .bankExchanged = y
  have restarted : Touches [.parsers, .guards, .health] s s.guardRestartBoth := Touches.refl.guardRestartBoth (by decide)
  have bank : y.bank = s.bank.exchanged := by
    rw [← hy]
    change { s.guardRestartBoth.bank with front := s.guardRestartBoth.bank.back, back := s.bank.front, claim := none, exchange := none } = _
    rw [restarted.bank]
    rfl
  have before : Touches [.parsers, .guards, .health, .bank, .ports] s y := by
    rw [← hy]
    exact ((restarted.mono (by decide)).setBank (by decide)).raiseAll (by decide)
  have noted : Noted y .bankExchanged := by rw [← hy]; exact noted_raiseAll _ _
  have notices : NoticesKept s y := by rw [← hy]; exact noticesKept_raiseAll_of restarted.ports
  have guards : y.guards = s.guardRestartBoth.guards := by rw [← hy]; rfl
  have same : s.instantHealth.unguarded = none → y.health = s.health ∧ y.parsers = s.parsers := by
    intro none
    rw [← hy, guardRestartBoth_of_unguarded none]
    exact ⟨rfl, rfl⟩
  have result : s.banksExchanged = y.rejudged s.bank.front.fault := by rw [← hy]; rfl
  have touched := touches_rejudged y s.bank.front.fault
  rw [result]
  refine ⟨before.andThen touched (by decide), touched.bank.trans bank, noted.kept (.of_ports touched.ports),
    notices.trans (.of_ports touched.ports), fun r => ?_, fun none r => ?_, fun none => touched.parsers.trans (same none).2⟩
  · rw [touched.guards, guards]
    exact guardRestartBoth_guard s r
  · rw [rejudged_health, State.restoreTime, bank, (same none).1]
    rfl

/-- R172: an exchange up to the handing on of the health states. -/
structure Exchanged (s x : State) : Prop where
  touched : Touches [.parsers, .guards, .health, .mixer, .showClock, .matchers, .bank, .ports] s x
  bank : x.bank = s.bank.exchanged
  noted : Noted x .bankExchanged
  notices : NoticesKept s x
  guards : ∀ r, (x.guards.get r).void = true ∧ (x.guards.get r).silent = false ∧ (x.guards.get r).frozen = false
  matchers : ∀ k, x.matchers.get k = { s.matchers.get k with matched := false }
  health : s.instantHealth.unguarded = none → ∀ r, x.health.get r =
    ((s.health.get r).restoreChange s.bank.back.monitor.restoreTime).policyChange s.bank.front.fault s.bank.back.fault
  parsers : s.instantHealth.unguarded = none → x.parsers = s.parsers
  blind : s.arbiter.state = .blind → x.mixer = s.mixer
  groups : s.arbiter.state ≠ .blind → GroupsRetargeted s.bank.back s.arbiter s x
  clock : ∀ song, s.showClock.song = some song →
    x.showClock = if (s.showClock.state = .running ∨ s.showClock.state = .slewing ∨ s.showClock.state = .freewheel) ∧
        (s.bank.front.song.get (songIndex song)).start ≠ (s.bank.back.song.get (songIndex song)).start
      then { s.showClock with jumped := true, lastFrame := .absent } else s.showClock

theorem exchanged_exchanged (s : State) : Exchanged s s.exchanged := by
  obtain ⟨touched, bank, noted, notices, guards, health, parsers⟩ := banksExchanged_banksExchanged s
  have result : s.exchanged = ((if s.banksExchanged.arbiter.state = .blind then s.banksExchanged else s.banksExchanged.retargetAll).rebase
    s.bank.front.song).clearMemories := rfl
  generalize s.banksExchanged = y at *
  generalize hz : (if y.arbiter.state = .blind then y else y.retargetAll) = z at result
  have grouped : Touches [.mixer] y z := by
    rw [← hz]
    split
    · exact .refl
    · exact Touches.refl.retargetAll (by decide)
  have rebased : Touches [.showClock] z (z.rebase s.bank.front.song) := Touches.refl.rebase (by decide)
  have cleared : Touches [.matchers] (z.rebase s.bank.front.song) s.exchanged := by
    rw [result]
    exact Touches.refl.clearMemories (by decide)
  have after : Touches [.mixer, .showClock, .matchers] y s.exchanged :=
    ((grouped.mono (by decide)).andThen rebased (by decide)).andThen cleared (by decide)
  have mixer : s.exchanged.mixer = z.mixer := cleared.mixer.trans rebased.mixer
  refine ⟨(touched.mono (by decide)).andThen after (by decide), after.bank.trans bank, noted.kept (.of_ports after.ports),
    notices.trans (.of_ports after.ports), fun r => by rw [after.guards]; exact guards r, fun k => ?_,
    fun none r => by rw [after.health]; exact health none r, fun none => after.parsers.trans (parsers none), fun blind => ?_,
    fun blind => ?_, fun song hs => ?_⟩
  · rw [result]
    change ((z.rebase s.bank.front.song).matchers.map _).get k = _
    rw [Table.get_map, rebased.matchers, grouped.matchers, touched.matchers]
  · rw [mixer, ← hz, if_pos (by rw [touched.arbiter]; exact blind)]
    exact touched.mixer
  · refine groupsRetargeted_congr (groupsRetargeted_retargetAll y) (by rw [bank]; rfl) (by rw [touched.arbiter]) (by rw [touched.arbiter])
      touched.mixer.symm ?_
    rw [mixer, ← hz, if_neg (by rw [touched.arbiter]; exact blind)]
  · have clock : z.showClock = s.showClock := grouped.showClock.trans touched.showClock
    have song' : z.clockSong = song := by unfold State.clockSong; rw [clock, hs]; rfl
    have start : z.startOf song = (s.bank.back.song.get (songIndex song)).start := by
      unfold State.startOf
      rw [grouped.bank, bank]
      rfl
    rw [cleared.showClock, State.rebase, song', start, clock]
    dsimp only
    split <;> simp [clock]

/-! ### What the taking of an exchange leaves -/

/-- R170, R172: what the taking of an exchange outside CHANGING leaves, `s` being the part before it. -/
structure ExchangeTaken (s t : State) : Prop where
  touched : Touches [.parsers, .guards, .health, .lines, .alignment, .arbiter, .mixer, .showClock, .tcOutput, .matchers, .bank, .ports] s t
  bank : t.bank = s.bank.exchanged
  noted : Noted t .bankExchanged
  notices : NoticesKept s t
  guards : ∀ r, (t.guards.get r).void = true ∧ (t.guards.get r).silent = false ∧ (t.guards.get r).frozen = false
  matchers : ∀ k, t.matchers.get k = { s.matchers.get k with matched := false }

theorem touches_retargetIfBlind (v : State) : Touches [.mixer] v (if v.arbiter.state = .blind then v.retargetAll else v) := by
  split
  · exact Touches.refl.retargetAll (by decide)
  · exact .refl

theorem exchangeTaken_exchangeTakenWith (hr : Standing run) (s : State) : ExchangeTaken s (s.exchangeTakenWith run) := by
  obtain ⟨touched, bank, noted, notices, guards, matchers, -⟩ := exchanged_exchanged s
  have none : s.exchanged.bank.exchange = none := by rw [bank]; rfl
  obtain ⟨handed, kept, -⟩ := handed_handBoth (run := run) hr none
  have last := touches_retargetIfBlind (s.exchanged.handBothWith run)
  rw [exchangeTakenWith_eq]
  refine ⟨((touched.mono (by decide)).andThen handed (by decide)).andThen last (by decide), ?_, ?_, ?_, fun r => ?_, fun k => ?_⟩
  · rw [last.bank, handed.bank, bank]
  · exact (noted.kept kept).kept (.of_ports last.ports)
  · exact (notices.trans kept).trans (.of_ports last.ports)
  · rw [last.guards, handed.guards]
    exact guards r
  · rw [last.matchers, handed.matchers]
    exact matchers k

/-- R86: an exchange taken in STEADY by which the on-air rig does not go down. -/
theorem exchangeTaken_steady (hr : Standing run) (steady : s.arbiter.state = .steady) (onAir : s.arbiter.onAir = some r)
    (up : ((s.exchangeTakenWith run).health.get r).state.down = false) : GroupsRetargeted s.bank.back s.arbiter s (s.exchangeTakenWith run) ∧
      (s.exchangeTakenWith run).arbiter = { s.arbiter with eligible := (s.exchangeTakenWith run).arbiter.eligible } := by
  obtain ⟨touched, bank, -, -, -, -, -, -, -, groups, -⟩ := exchanged_exchanged s
  have last := touches_retargetIfBlind (s.exchanged.handBothWith run)
  rw [exchangeTakenWith_eq] at up ⊢
  rw [last.health] at up
  obtain ⟨arbiter, mixer⟩ := (steadied_handBoth (s := s.exchanged) (run := run) hr (by rw [bank]; rfl) (by rw [touched.arbiter]; exact steady)
    (by rw [touched.arbiter]; exact onAir)).steady up
  rw [touched.arbiter] at arbiter
  rw [if_neg (by rw [arbiter]; change s.arbiter.state ≠ _; rw [steady]; exact ArbState.noConfusion)]
  exact ⟨groupsRetargeted_congr (groups (by rw [steady]; exact ArbState.noConfusion)) rfl rfl rfl rfl mixer, arbiter⟩

/-- R172: auto is not permitted once the banks are exchanged. -/
def State.noAutoAfter (s : State) : Prop :=
  s.arbiter.mode = .manual ∨ s.arbiter.inhibit = true ∨ (s.bank.back.song.get (songIndex s.arbiter.song)).auto = false

theorem autoPermitted_exchanged (h : s.noAutoAfter) : s.exchanged.autoPermitted = false := by
  obtain ⟨touched, bank, -⟩ := exchanged_exchanged s
  unfold State.autoPermitted
  rw [touched.arbiter, bank]
  rcases h with h | h | h
  · simp [h]
  · simp [h]
  · rw [show s.bank.exchanged.front = s.bank.back from rfl, h]
    simp

/-- R93, R95: an exchange after which auto is not permitted. -/
structure TakenUnaided (s t : State) : Prop where
  touched : Touches [.parsers, .guards, .health, .arbiter, .mixer, .showClock, .matchers, .bank, .ports] s t
  arbiter : t.arbiter = { s.arbiter with state := t.arbiter.state, eligible := t.arbiter.eligible }
  state : t.arbiter.state = s.arbiter.state ∨
    ((s.arbiter.state = .steady ∨ s.arbiter.state = .blind) ∧ (t.arbiter.state = .steady ∨ t.arbiter.state = .blind))
  clock : t.showClock = s.exchanged.showClock
  mixer : t.mixer = { s.mixer with groups := t.mixer.groups }
  groups : ∀ i, let g := s.mixer.groups.get i
    let h := t.mixer.groups.get i
    h.mode = g.mode ∧ h.base = g.base ∧ h.oneSong = g.oneSong ∧
      h.target = targetOf t.arbiter (s.bank.back.group.get i).policy g.mode
  blind : ∀ r, s.arbiter.state = .blind → s.arbiter.onAir = some r → s.instantHealth.unguarded = none →
    (s.health.get r).state.down = true → t.arbiter.state = .blind ∧ GroupsRetargeted s.bank.back s.arbiter s t

theorem takenUnaided_exchangeTakenWith (hr : Standing run) (still : s.arbiter.state ≠ .changing) (noAuto : s.noAutoAfter) :
    TakenUnaided s (s.exchangeTakenWith run) := by
  obtain ⟨touched, bank, -, -, -, -, health, -, unmoved, groups, -⟩ := exchanged_exchanged s
  obtain ⟨handed, -, -, arbiter, state, mixer, modes, targets, blind⟩ := unaided_handBoth (s := s.exchanged) (run := run) hr
    (by rw [touched.arbiter]; exact still) (autoPermitted_exchanged noAuto)
  have last := touches_retargetIfBlind (s.exchanged.handBothWith run)
  rw [touched.arbiter] at arbiter state targets
  rw [exchangeTakenWith_eq]
  generalize hv : s.exchanged.handBothWith run = v at *
  have front : v.bank.front = s.bank.back := by rw [handed.bank, bank]; rfl
  have modes' : ∀ i, (v.mixer.groups.get i).mode = (s.mixer.groups.get i).mode ∧ (v.mixer.groups.get i).base = (s.mixer.groups.get i).base ∧
      (v.mixer.groups.get i).oneSong = (s.mixer.groups.get i).oneSong := by
    intro i
    by_cases b : s.arbiter.state = .blind
    · rw [← unmoved b]
      exact modes i
    · obtain ⟨mode, base, oneSong, -⟩ := (groups b).2 i
      obtain ⟨mode', base', oneSong'⟩ := modes i
      exact ⟨mode'.trans mode, base'.trans base, oneSong'.trans oneSong⟩
  have whole : v.mixer = { s.mixer with groups := v.mixer.groups } := by
    by_cases b : s.arbiter.state = .blind
    · rw [← unmoved b]
      exact mixer
    · rw [mixer, (groups b).1]
  refine ⟨((touched.mono (by decide)).andThen handed (by decide)).andThen last (by decide), by rw [last.arbiter]; exact arbiter,
    by rw [last.arbiter]; exact state, last.showClock.trans handed.showClock, ?_, fun i => ?_, fun r b onAir none down => ?_⟩
  · split
    · obtain ⟨mixer', -⟩ := groupsRetargeted_retargetAll v
      rw [mixer', whole]
    · exact whole
  · obtain ⟨mode, base, oneSong⟩ := modes' i
    rw [last.arbiter]
    split
    · obtain ⟨mode', base', oneSong', target, -⟩ := (groupsRetargeted_retargetAll v).2 i
      exact ⟨mode'.trans mode, base'.trans base, oneSong'.trans oneSong, by rw [target, front, mode]⟩
    · rename_i running
      refine ⟨mode, base, oneSong, ?_⟩
      rcases targets running with ⟨same, sameState⟩ | all
      · have b : s.arbiter.state ≠ .blind := by rw [← sameState]; exact running
        obtain ⟨-, -, -, target, -⟩ := (groups b).2 i
        rw [same, target, targetOf_congr sameState (by rw [arbiter])]
      · obtain ⟨mode', -⟩ := modes i
        rw [all i, bank, ← mode', mode]
        rfl
  · have stays : (s.exchanged.health.get r).state.down = true := by
      rw [health none r, Health.policyChange_down (by rw [Health.restoreChange_down down]; exact down), Health.restoreChange_down down]
      exact down
    obtain ⟨now, same⟩ := blind r (by rw [touched.arbiter]; exact b) (by rw [touched.arbiter]; exact onAir) stays
    rw [if_pos now]
    refine ⟨now, groupsRetargeted_congr (groupsRetargeted_retargetAll v) (by rw [front]) (by rw [now, b]) (by rw [arbiter])
      ((unmoved b).symm.trans same.symm) rfl⟩

theorem exchangeRegroups_exchangeTakenWith (hr : Standing run) (still : s.arbiter.state ≠ .changing) :
    ExchangeRegroups s (s.exchangeTakenWith run) := by
  refine ⟨fun steady r onAir up => (exchangeTaken_steady hr steady onAir up).1, fun noAuto blind none r onAir down => ?_, fun noAuto => ?_⟩
  · exact ((takenUnaided_exchangeTakenWith hr still noAuto).blind r blind onAir none down).2
  · obtain ⟨-, -, -, -, mixer, groups, -⟩ := takenUnaided_exchangeTakenWith hr still noAuto
    exact ⟨mixer, groups⟩

theorem ExchangeRegroups.ported (h : ExchangeRegroups p v) (k : Ported v t) : ExchangeRegroups p t := by
  obtain ⟨steady, blind, noAuto⟩ := h
  refine ⟨fun hs r onAir up => ?_, fun hn hb none r onAir down => ?_, fun hn => ?_⟩
  · rw [k.touched.health] at up
    exact groupsRetargeted_congr (steady hs r onAir up) rfl rfl rfl rfl k.touched.mixer
  · exact groupsRetargeted_congr (blind hn hb none r onAir down) rfl rfl rfl rfl k.touched.mixer
  · rw [k.touched.mixer, k.touched.arbiter]
    exact noAuto hn

end Sys2Proof.Machine

/-! PROOFS. The completion of a changeover with all that follows it at the instant (R89, R93, R94, R170), and a transition that
completes (R111). -/

namespace Sys2Proof.Machine

open Sys2Proof

/- In order: bodies elaborated side by side while the kernel still checks the text above each hold a thread's stack. -/
set_option Elab.async false

variable {s t u v w x p : State} {r k : Rig} {f : Transition} {g : Group}

/-! ### What stands due of the rigs' health, taken at a completion (R46, R54) -/

theorem moveHealth_unguarded (h : s.instantHealth.unguarded = none) (r : Rig) (m : Health → Health) :
    (s.moveHealth r m).instantHealth.unguarded = none := by
  rw [State.moveHealth_of_none _ h]
  exact h

theorem settleDues_health (s : State) (r : Rig) :
    s.settleDues.health.get r = (s.health.get r).settleDue s.bank.front.fault s.restoreTime := by
  unfold State.settleDues
  dsimp only
  rw [State.moveHealth_health, State.moveHealth_health]
  cases r <;> rfl

theorem settleDues_unguarded (h : s.instantHealth.unguarded = none) : s.settleDues.instantHealth.unguarded = none :=
  moveHealth_unguarded (moveHealth_unguarded h _ _) _ _

theorem touches_settleDues (s : State) : Touches [.health] s s.settleDues := Touches.refl.settleDues (by decide)

/-! ### The completion of a changeover, whatever follows -/

/-- R170: what the Bank Store does at a completion, in the standing tests. -/
abbrev dueExchange : State → State := State.dueExchangeWith State.settleArbiter

theorem noticesKept_arbRun (n : Nat) (v : State) : NoticesKept v (arbRunWith dueExchange n v) :=
  ((Moves.refl (writes := False) v).arbRunWith (fun u => (Moves.refl u).dueExchangeWith fun v => (Moves.refl v).settleArbiter) n).noticesKept

/-- R170: an exchange that fell due is carried out at the completion that leaves `w`, the groups' targets of BLIND following. -/
theorem dueExchangeTaken_of_taken (hw : w.arbiter.state = .steady ∨ w.arbiter.state = .blind) (onAir : w.arbiter.onAir = some r)
    (outgoing : w.arbiter.outgoing = none) {e y t : State} (he : e = w.settleDues.exchangeTakenWith State.settleArbiter)
    (hy : y = if e.arbiter.state = .blind then e.handTargets else e) (ht : t = arbRunWith dueExchange 3 y) :
    DueExchangeTaken w t r ∧ NoticesKept w t := by
  have settled := touches_settleDues w
  have still : w.settleDues.arbiter.state ≠ .changing := by
    rw [settled.arbiter]
    rcases hw with h | h <;> rw [h] <;> exact ArbState.noConfusion
  obtain ⟨taken, bank, exchanged, notices, -, matchers⟩ := exchangeTaken_exchangeTakenWith standing_settleArbiter w.settleDues
  have steady := fun h => exchangeTaken_steady (s := w.settleDues) (r := r) standing_settleArbiter h
    (by rw [settled.arbiter]; exact onAir)
  have unaided := takenUnaided_exchangeTakenWith standing_settleArbiter still
  rw [← he] at taken bank exchanged notices matchers steady unaided
  have first : Touches [.mixer] e y := by
    rw [hy]
    split
    · exact Touches.refl.handTargets (by decide)
    · exact .refl
  have none : y.bank.exchange = none := by rw [first.bank, bank]; rfl
  have ran : Touches changeBlocks y t := by
    rw [ht, arbRunWith_of_none (fun _ => dueExchangeWith_of_none) 3 none]
    exact Touches.refl.arbRunWith (fun _ => .refl) (by decide)
  have kept : NoticesKept y t := by rw [ht]; exact noticesKept_arbRun 3 y
  have settledBank : w.settleDues.bank = w.bank := settled.bank
  refine ⟨⟨?_, ?_, fun k => ?_, fun hs up => ?_, fun noAuto => ?_⟩, ?_⟩
  · rw [ran.bank, first.bank, bank, settledBank]
    rfl
  · exact (exchanged.kept (.of_ports first.ports)).kept kept
  · rw [ran.matchers, first.matchers, matchers k]
  · rw [ran.health, first.health] at up
    obtain ⟨groups, arbiter⟩ := steady (by rw [settled.arbiter]; exact hs) up
    have now : e.arbiter.state = .steady := by rw [arbiter, settled.arbiter]; exact hs
    rw [if_neg (by rw [now]; exact ArbState.noConfusion)] at hy
    have same : t = e := by
      rw [ht, hy]
      exact arbRunWith_still (completionHolds_of_not_changing (by rw [now]; exact ArbState.noConfusion))
        (lateFailoverHolds_of_not_blind (by rw [now]; exact ArbState.noConfusion))
    rw [same]
    exact groupsRetargeted_congr groups (by rw [settledBank]) (by rw [settled.arbiter]) (by rw [settled.arbiter]) settled.mixer.symm rfl
  · have noAuto' : w.settleDues.noAutoAfter := by
      unfold State.noAutoAfter
      rw [settled.arbiter, settledBank]
      exact noAuto
    obtain ⟨touched, arbiter, state, -, -, -, blind⟩ := unaided noAuto'
    rw [settled.arbiter] at arbiter state
    have off : e.lateFailoverHolds = false := by
      have permitted : e.autoPermitted = false := by
        unfold State.autoPermitted
        rw [arbiter, bank, settledBank]
        rcases noAuto with h | h | h
        · simp [h]
        · simp [h]
        · rw [show w.bank.exchanged.front = w.bank.back from rfl, h]
          simp
      simp [State.lateFailoverHolds, permitted]
    have either : e.arbiter.state = .steady ∨ e.arbiter.state = .blind := by
      rcases state with same | ⟨-, now⟩
      · rw [same]
        exact hw
      · exact now
    have targets : y = if e.arbiter.state = .blind then e.retargetAll else e := by
      rw [hy, State.handTargets, off]
      rfl
    have same : t = y := by
      rw [ht]
      refine arbRunWith_still (completionHolds_of_not_changing ?_) ?_
      · rw [first.arbiter]
        rcases either with h | h <;> rw [h] <;> exact ArbState.noConfusion
      · rw [lateFailoverHolds_of_groups first]
        exact off
    have values : t.arbiter = { w.arbiter with state := e.arbiter.state, eligible := e.arbiter.eligible } := by
      rw [same, first.arbiter]
      exact arbiter
    rw [values]
    refine ⟨onAir, outgoing, rfl, either, fun hb unguarded down => ?_⟩
    obtain ⟨now, groups⟩ := blind r (by rw [settled.arbiter]; exact hb) (by rw [settled.arbiter]; exact onAir) (settleDues_unguarded unguarded)
      (by rw [settleDues_health, Health.settleDue_down down]; exact down)
    rw [if_pos now] at targets
    refine ⟨now, e, groupsRetargeted_congr groups (by rw [settledBank]) (by rw [settled.arbiter]) (by rw [settled.arbiter]) settled.mixer.symm
      rfl, ?_⟩
    rw [same, targets]
    refine groupsRetargeted_congr (groupsRetargeted_retargetAll e) (by rw [bank, settledBank]; rfl) (by rw [now, hb]) (by rw [arbiter]) rfl
      rfl
  · exact ((NoticesKept.of_ports settled.ports).trans notices).trans ((NoticesKept.of_ports first.ports).trans kept)

/-- R94: the standby of an eligible changeover is not down. -/
theorem standby_up (holds : w.lateFailoverHolds = true) (hw : w.arbiter.eligible = w.eligibleNow) (onAir : w.arbiter.onAir = some r) :
    (w.handed r.other).down = false := by
  obtain ⟨-, -, -, -, eligible⟩ := lateFailoverHolds_iff.mp holds
  rw [hw] at eligible
  simp only [State.eligibleNow, Arbiter.standby, onAir, Bool.and_eq_true, beq_iff_eq] at eligible
  rw [eligible.1.1]
  rfl

/-- R89, R93, R94, R170: a completion with everything that follows it at the instant. -/
theorem changeoverCompleted_run (onAir : u.arbiter.onAir = some r) (hc : u.completionHolds = true) : ChangeoverCompleted u u.run r := by
  have c := completed_completed onAir
  generalize hw : u.completed = w at c
  have ran : u.run = arbRunWith dueExchange 3 (if (dueExchange w).arbiter.state = .blind then (dueExchange w).handTargets else dueExchange w) := by
    rw [← hw, ← State.completeWith_eq]
    exact arbRunWith_completes hc
  have either : w.arbiter.state = .steady ∨ w.arbiter.state = .blind := by
    rw [c.arbiter]
    dsimp only
    split
    · exact .inr rfl
    · exact .inl rfl
  have standby : w.arbiter.onAir = some r := by rw [c.arbiter]; exact onAir
  have settled : StandbySettled u w r := by
    refine standbySettled_of (c.settled.trans ?_) c.reaches
    rw [decide_eq_false]
    rcases either with h | h <;> rw [h] <;> exact ArbState.noConfusion
  have sameBank : w.bank = u.bank := c.touched.bank
  have later : NoticesKept w u.run ∧ ((∃ e, u.bank.exchange = some e ∧ e.due = true) → DueExchangeTaken w u.run r) := by
    by_cases due : ∃ e, u.bank.exchange = some e ∧ e.due = true
    · obtain ⟨e, he, hd⟩ := due
      have taken : dueExchange w = w.settleDues.exchangeTakenWith State.settleArbiter := by
        simp only [dueExchange, State.dueExchangeWith, sameBank, he, hd, if_true]
      obtain ⟨all, kept⟩ := dueExchangeTaken_of_taken either standby (by rw [c.arbiter]) taken rfl ran
      exact ⟨kept, fun _ => all⟩
    · refine ⟨?_, fun h => absurd h due⟩
      rw [ran]
      refine NoticesKept.trans ?_ (noticesKept_arbRun 3 _)
      have nothing : dueExchange w = w := dueExchangeWith_of_noneDue fun e he => by
        by_contra h
        exact due ⟨e, by rw [← sameBank]; exact he, by simpa using h⟩
      rw [nothing]
      split
      · exact .of_ports (Touches.refl.handTargets (by decide) : Touches [.mixer] w _).ports
      · exact .refl w
  refine ⟨w, c.touched, settled, c.arbiter, later.1, c.noted, c.blind, later.2, fun none holds => ?_, fun none quiet => ?_⟩
  all_goals
    have noneDue : w.noneDue := fun e he => by
      by_contra h
      exact none ⟨e, by rw [← sameBank]; exact he, by simpa using h⟩
    have nothing : dueExchange w = w := dueExchangeWith_of_noneDue noneDue
    rw [nothing] at ran
  · have up := standby_up holds (by rw [c.arbiter]) standby
    have begun := begun_changeBegun w r.other .lateFailover
    have fails : u.run = arbRunWith dueExchange 2 (w.changeBegun r.other .lateFailover).takeOver := by
      have kept : (if w.arbiter.state = .blind then w.handTargets else w) = w := by
        rw [State.handTargets, holds]
        split <;> rfl
      rw [ran, kept, ← enterChanging_eq (by rw [Rig.other_other]; exact standby)]
      refine arbRunWith_fails (completionHolds_of_not_changing ?_) holds
      rcases either with h | h <;> rw [h] <;> exact ArbState.noConfusion
    rw [fails]
    exact (begun.ran noneDue (.inl up)).lateFailover up
  · have still := arbRun_completes (n := 3) (run := State.settleArbiter) onAir hc (fun e he => noneDue e (by rw [sameBank]; exact he))
      (by rw [hw]; exact quiet)
    rw [hw] at still
    have still : u.run = if w.arbiter.state = .blind then w.retargetAll else w := still
    rw [still]
    refine ⟨?_, ?_, fun up => ?_, fun down => ?_⟩
    · split <;> rfl
    · split
      · exact Touches.refl.retargetAll (by decide)
      · exact .refl
    · rw [if_neg]
      rw [c.arbiter, up]
      exact ArbState.noConfusion
    · rw [if_pos]
      · exact groupsRetargeted_retargetAll w
      · rw [c.arbiter, down]
        rfl

/-! ### A transition completes (R111) -/

theorem exec_transitionComplete (s : State) (i : Fin 8) : exec (.transitionComplete i) s = .next (s.prepare.takeTransitionComplete i) := rfl

theorem takeTransitionComplete_end {i : Fin 8} (h : (s.mixer.groups.get i).transition = some f) (hk : f.k = f.n) :
    s.takeTransitionComplete i = (s.retargetGroup i).run := by
  simp [State.takeTransitionComplete, h, hk]

theorem takeTransitionComplete_short {i : Fin 8} (h : ∀ f, (s.mixer.groups.get i).transition = some f → f.k ≠ f.n) :
    s.takeTransitionComplete i = s := by
  unfold State.takeTransitionComplete
  split
  · rfl
  · rename_i f hf
    exact if_neg (h f hf)

theorem touches_retargetGroup (s : State) (i : Fin 8) : Touches [.mixer] s (s.retargetGroup i) := Touches.refl.retargetGroup (by decide)

theorem retargetGroup_mixer (s : State) (i : Fin 8) : (s.retargetGroup i).mixer = { s.mixer with
    groups := s.mixer.groups.set i ((s.mixer.groups.get i).retarget (s.bank.front.group.get i).fadeLength
      (targetOf s.arbiter (s.bank.front.group.get i).policy (s.mixer.groups.get i).mode)) } := rfl

/-- R111: a group whose transition has reached N takes a target. -/
theorem Group.retarget_landed (h : g.transition = some f) (hk : f.k = f.n) (fade : Nat) (x : Source) : g.retarget fade x =
    if x = f.dst then { g with target := x, current := f.dst, transition := none }
    else if fade = 0 then { g with target := x, current := x, transition := none }
    else { g with target := x, current := f.dst, transition := some { src := f.dst, dst := x, k := 0, n := fade } } := by
  rw [Group.retarget_of_end h hk, Group.retarget_of_none rfl]

/-- Settles O24: the group lands (`Group.retarget_landed`), and the standing tests follow. -/
theorem transitionCompletes : Obligations.TransitionCompletes := by
  intro s i p g e target landed
  refine ⟨p.takeTransitionComplete i, exec_transitionComplete s i, ?_⟩
  clear_value p
  refine ⟨takeTransitionComplete_short, fun f hf hk => ?_⟩
  rw [takeTransitionComplete_end hf hk]
  have touched := touches_retargetGroup p i
  have mixer := retargetGroup_mixer p i
  have record := Group.retarget_landed hf hk e.fadeLength target
  have here : landed f (p.retargetGroup i) := by
    refine ⟨by rw [mixer], fun j hj => ?_, fun same => ?_, fun moves fade => ?_, fun moves cut => ?_⟩
    · rw [mixer]
      exact Table.get_set_ne _ _ _ _ hj.symm
    all_goals
      rw [mixer, Table.get_set_same]
      refine record.trans ?_
    · rw [if_pos same]
    · rw [if_neg moves, if_neg fade]
    · rw [if_neg moves, if_pos cut]
  have same : ∀ v : State, v.mixer = (p.retargetGroup i).mixer → landed f v := by
    intro v hv
    change v.mixer = _ ∧ _
    rw [hv]
    exact here
  refine ⟨fun runs => (changeoverTested_run touched runs).1, fun rest => ?_, fun either => ?_, fun r changing onAir => ?_⟩
  · rw [run_atRest touched rest]
    exact touched
  · rcases either with rest | runs
    · rw [run_atRest touched rest]
      exact here
    · exact same _ (changeoverTested_run touched runs).2
  · refine ⟨p.retargetGroup i, touched, here, fun runs => ?_, fun done => ?_⟩
    · exact run_still runs (lateFailoverHolds_of_not_blind (by rw [touched.arbiter, changing]; exact ArbState.noConfusion))
    · exact changeoverCompleted_run (by rw [touched.arbiter]; exact onAir) done

/-- Settles O20: with the last FOLLOW group landed the completion test holds (`changeoverCompleted_run`). -/
theorem lastGroupCompletesChangeover : Obligations.LastGroupCompletesChangeover := by
  intro s i r f p g arrived changing onAir follow hf hk dst others
  refine ⟨p.takeTransitionComplete i, exec_transitionComplete s i, ?_⟩
  clear_value p
  rw [takeTransitionComplete_end hf hk]
  have touched := touches_retargetGroup p i
  have target : targetOf p.arbiter (p.bank.front.group.get i).policy g.mode = Source.ofRig r := by
    unfold targetOf
    rw [follow, changing, onAir]
    rfl
  have mixer : (p.retargetGroup i).mixer = { p.mixer with groups := p.mixer.groups.set i arrived } := by
    rw [retargetGroup_mixer, target, Group.retarget_landed hf hk, if_pos dst.symm, dst]
  have landed : p.retargetGroup i = p.setMixer { p.mixer with groups := p.mixer.groups.set i arrived } := by
    rw [← mixer]
    rfl
  have done : (p.retargetGroup i).completionHolds = true := by
    refine completionHolds_iff.mpr ⟨by rw [touched.arbiter]; exact changing, fun j hj => ?_⟩
    rw [touched.arbiter, onAir]
    rw [mixer] at hj ⊢
    by_cases same : i = j
    · subst same
      rw [Table.get_set_same]
      exact ⟨rfl, rfl⟩
    · rw [Table.get_set_ne _ _ _ _ same] at hj ⊢
      exact others j (Ne.symm same) hj
  have standby : (p.retargetGroup i).arbiter.onAir = some r := by rw [touched.arbiter]; exact onAir
  refine ⟨by rw [← landed]; exact changeoverCompleted_run standby done, fun up none => ?_⟩
  obtain ⟨ran, steady⟩ := run_completes standby done (by rw [touched.bank]; exact none)
    (by rw [show (p.retargetGroup i).handed r = p.handed r by unfold State.handed; rw [touched.instantHealth]]; exact up)
  obtain ⟨completed, arbiter, settled, -, noted, -, -⟩ := completed_completed standby
  rw [ran]
  have groups : ((p.retargetGroup i).completed.mixer.groups.get i) = arrived := by
    rw [completed.mixer, mixer]
    exact Table.get_set_same _ _ _
  rw [touched.arbiter] at arbiter
  refine ⟨(touched.mono (by decide)).andThen completed (by decide), by rw [groups], by rw [groups], steady, by rw [arbiter]; exact onAir,
    by rw [arbiter], noted, by rw [arbiter]; rfl, fun d state accepted reach => ?_⟩
  have required : requiredFor p.lines r d = p.requiredDelay d := by rw [requiredDelay_eq, reference_of_onAir onAir]
  have offset : p.alignment.accepted.getD 0 = d := by rw [accepted]; rfl
  rw [touched.alignment, touched.lines, Alignment.settled_inReach (state.imp_right .inl) (by rw [offset, required]; exact reach), offset,
    Alignment.placed, if_neg Bool.noConfusion, Prod.mk.injEq] at settled
  rw [settled.2]
  exact delays_of_required p.lines r d (by rw [required]; exact ((inReach_iff _).mp reach).1)

end Sys2Proof.Machine

/-! PROOFS. A changed FRONT bank at a rig's health (R41, R58), the commands EXCHANGE and CANCEL_EXCHANGE, and the on-air rig's song
boundary (R121, R142, R169 to R172). -/

namespace Sys2Proof.Machine

open Sys2Proof

/- In order: bodies elaborated side by side while the kernel still checks the text above each hold a thread's stack. -/
set_option Elab.async false

variable {s t u v w p : State} {r k : Rig} {q : Port} {h : Health} {old f : Table 11 FaultEntry} {i : Fin 11} {time : Nat}

/-! ### A changed restore time and Fault Policy at a rig's health (R41, R54, R58) -/

theorem restoreTaken_restoreChange (time : Nat) (h : Health) : RestoreTaken time h (h.restoreChange time) := by
  unfold Health.restoreChange
  refine ⟨fun state reached => ?_, fun short => ?_⟩
  · have due : h.restoreDue time = true := by simp [Health.restoreDue, state, reached]
    rw [if_pos due, Nat.min_eq_right reached]
  · have idle : ¬ h.restoreDue time = true := by
      simp only [Health.restoreDue, Bool.and_eq_true, beq_iff_eq, decide_eq_true_eq]
      rintro ⟨state, reached⟩
      rcases short with other | before
      · exact other state
      · omega
    rw [if_neg idle]

/-- R41: the counters trimmed to the delays of a new policy. -/
def Health.trimmed (h : Health) (f : Table 11 FaultEntry) : Health :=
  { h with counters := h.counters.update fun i c => min c (f.get i).delay }

/-- R41: the kinds that a new policy makes evidence. -/
def Health.appeared (h : Health) (old f : Table 11 FaultEntry) : KindSet :=
  Table.tab fun i => !(old.get i).enabled && (f.get i).enabled && h.flags.get i

/-- R41: the kinds that qualify under a new policy and did not before. -/
def Health.newlyQualified (h : Health) (old f : Table 11 FaultEntry) : KindSet :=
  ((h.trimmed f).qualifiedUnder f).minus (h.qualifiedUnder old)

theorem appeared_iff : (h.appeared old f).get i = true ↔
    (old.get i).enabled = false ∧ (f.get i).enabled = true ∧ h.flags.get i = true := by
  simp [Health.appeared, and_assoc]

theorem newlyQualified_iff (on : h.state ≠ .offline) : (h.newlyQualified old f).get i = true ↔
    (h.qualifiedUnder old).get i = false ∧ (f.get i).enabled = true ∧
      (if (f.get i).delay = 0 then h.flags.get i = true else (f.get i).delay ≤ h.counters.get i) := by
  have test : ((h.trimmed f).qualifiedUnder f).get i = true ↔ (f.get i).enabled = true ∧
      (if (f.get i).delay = 0 then h.flags.get i = true else (f.get i).delay ≤ h.counters.get i) := by
    simp only [Health.qualifiedUnder, Health.trimmed, Table.get_tab, Bool.and_eq_true, bne_iff_ne, ne_eq, on, not_false_eq_true, true_and]
    refine and_congr_right fun _ => ?_
    split
    · exact Iff.rfl
    · rw [beq_iff_eq, Table.get_update]
      exact min_eq_right_iff
  rw [Health.newlyQualified, KindSet.get_minus, Bool.and_eq_true, test, Bool.not_eq_true', and_comm]

theorem policyChange_eq (h : Health) (old f : Table 11 FaultEntry) : h.policyChange old f = (match h.state with
    | .recovering =>
      if ((h.appeared old f).union (h.newlyQualified old f)).nonempty then
        (h.trimmed f).relapse f ((h.appeared old f).union (h.newlyQualified old f)) else h.trimmed f
    | .healthy =>
      if (h.newlyQualified old f).nonempty then (h.trimmed f).qualify f (h.newlyQualified old f)
      else if (h.appeared old f).nonempty then { h.trimmed f with state := .suspect } else h.trimmed f
    | .suspect => if (h.newlyQualified old f).nonempty then (h.trimmed f).qualify f (h.newlyQualified old f) else h.trimmed f
    | .failed =>
      if h.relapsed then (h.trimmed f).relapseWith f ((h.appeared old f).union (h.newlyQualified old f))
      else (h.trimmed f).qualify f (h.newlyQualified old f)
    | .offline => h) := by
  unfold Health.policyChange
  rfl

/-- R54: a relapse under kinds that are evidence. -/
theorem relapse_leaves (h : Health) (f : Table 11 FaultEntry) (kinds : KindSet) : (h.relapse f kinds).flags = h.flags ∧
    (h.relapse f kinds).state = .failed ∧ (h.relapse f kinds).restore = 0 ∧ (h.relapse f kinds).failures = min 255 (h.failures + 1) ∧
    ∀ i, kinds.get i = true → (h.relapse f kinds).counters.get i = (f.get i).delay ∧ (h.relapse f kinds).history.get i = true := by
  refine ⟨rfl, rfl, rfl, rfl, fun i hi => ⟨?_, ?_⟩⟩
  · change Table.get (Table.update _ _) i = _
    rw [Table.get_update, if_pos hi]
  · change (KindSet.union (KindSet.union h.history kinds) kinds).get i = true
    simp [hi]

theorem trimmed_counters (h : Health) (f : Table 11 FaultEntry) (i : Fin 11) :
    (h.trimmed f).counters.get i = min (h.counters.get i) (f.get i).delay := Table.get_update ..

/-- R41, R50, R52 to R54: each health state under a new Fault Policy. -/
theorem policyTaken_policyChange (old f : Table 11 FaultEntry) (h : Health) : PolicyTaken old f h (h.policyChange old f) := by
  refine ⟨fun off => by rw [policyChange_eq, off], fun on => ?_⟩
  have appears : ∀ i, (h.appeared old f).get i = true ↔ _ := fun i => appeared_iff
  have qualifies : ∀ i, (h.newlyQualified old f).get i = true ↔ _ := fun i => newlyQualified_iff on
  have some_iff : ∀ kinds : KindSet, kinds.nonempty = true ↔ ∃ i, kinds.get i = true := fun _ => KindSet.nonempty_iff
  simp only [← appears, ← qualifies]
  refine ⟨Health.policyChange_flags, ?_⟩
  rw [policyChange_eq]
  generalize h.appeared old f = a at *
  generalize h.newlyQualified old f = c at *
  have either : (a.union c).nonempty = true ↔ ∃ i, a.get i = true ∨ c.get i = true := by simp [some_iff]
  have counters := trimmed_counters h f
  cases state : h.state with
  | offline => exact absurd state on
  | recovering =>
    dsimp only
    by_cases some : (a.union c).nonempty = true
    · obtain ⟨-, failed, restore, failures, kinds⟩ := relapse_leaves (h.trimmed f) f (a.union c)
      rw [if_pos some]
      refine ⟨fun _ => ⟨failed, restore, failures, fun i hi => kinds i (by simpa using hi)⟩, fun not => ?_, nofun, fun not => ?_⟩ <;>
        exact absurd ⟨rfl, either.mp some⟩ not
    · rw [if_neg some]
      have none : ¬ ∃ i, a.get i = true ∨ c.get i = true := mt either.mpr some
      exact ⟨fun relapses => absurd relapses.2 none, fun _ => ⟨rfl, fun _ => counters⟩, nofun, fun _ _ => ⟨rfl, fun _ => rfl, nofun,
        fun _ => state, nofun⟩⟩
  | healthy =>
    dsimp only
    by_cases some : c.nonempty = true
    · rw [if_pos some]
      have fails : (h.trimmed f).qualify f c = (h.trimmed f).fail c := by
        unfold Health.qualify
        rw [show (h.trimmed f).state = .healthy from state]
      rw [fails]
      exact ⟨nofun, fun _ => ⟨rfl, fun _ => counters⟩, fun _ => ⟨rfl, rfl, fun i => by simp [Health.fail, Health.trimmed]⟩,
        fun _ not => absurd ⟨.inl rfl, (some_iff c).mp some⟩ not⟩
    · rw [if_neg some]
      have none : ¬ ∃ i, c.get i = true := mt (some_iff c).mpr some
      by_cases evidence : a.nonempty = true
      · rw [if_pos evidence]
        exact ⟨nofun, fun _ => ⟨rfl, fun _ => counters⟩, fun fails => absurd fails.2 none, fun _ _ => ⟨rfl, fun _ => rfl, fun _ _ => rfl,
          fun still => still.elim (absurd rfl) fun empty => absurd ((some_iff a).mp evidence) (not_exists.mpr empty), nofun⟩⟩
      · rw [if_neg evidence]
        exact ⟨nofun, fun _ => ⟨rfl, fun _ => counters⟩, fun fails => absurd fails.2 none, fun _ _ => ⟨rfl, fun _ => rfl,
          fun _ some => absurd ((some_iff a).mpr some) evidence, fun _ => state, nofun⟩⟩
  | suspect =>
    dsimp only
    by_cases some : c.nonempty = true
    · rw [if_pos some]
      have fails : (h.trimmed f).qualify f c = (h.trimmed f).fail c := by
        unfold Health.qualify
        rw [show (h.trimmed f).state = .suspect from state]
      rw [fails]
      exact ⟨nofun, fun _ => ⟨rfl, fun _ => counters⟩, fun _ => ⟨rfl, rfl, fun i => by simp [Health.fail, Health.trimmed]⟩,
        fun _ not => absurd ⟨.inr rfl, (some_iff c).mp some⟩ not⟩
    · rw [if_neg some]
      have none : ¬ ∃ i, c.get i = true := mt (some_iff c).mpr some
      exact ⟨nofun, fun _ => ⟨rfl, fun _ => counters⟩, fun fails => absurd fails.2 none, fun _ _ => ⟨rfl, fun _ => rfl, nofun,
        fun _ => state, nofun⟩⟩
  | failed =>
    dsimp only
    by_cases again : h.relapsed = true
    · rw [if_pos again]
      exact ⟨nofun, fun _ => ⟨rfl, fun fresh => absurd again (by simp [fresh])⟩, nofun, fun _ _ => ⟨rfl, nofun, nofun, fun _ => state,
        fun _ fresh => absurd again (by simp [fresh])⟩⟩
    · rw [if_neg again]
      have joins : (h.trimmed f).qualify f c = { h.trimmed f with history := h.history.union c } := by
        unfold Health.qualify
        rw [show (h.trimmed f).state = .failed from state]
        simp [Health.trimmed, state]
      rw [joins]
      exact ⟨nofun, fun _ => ⟨rfl, fun _ => counters⟩, nofun, fun _ _ => ⟨rfl, nofun, nofun, fun _ => state, fun _ _ i => by simp⟩⟩

/-! ### An exchange taken, as the statements see it -/

theorem divergedMarked_of (h : ∀ mine theirs, (s.parsers.get r).record = some mine → mine.transport ≠ .playing →
    (s.parsers.get r.other).record = some theirs → theirs.transport = .playing → (s.parsers.get r).diverged = true) :
    s.divergedMarked r := by
  intro mine theirs
  unfold Parser.notPlaying at mine
  unfold Parser.playing at theirs
  split at mine
  · cases mine
  · rename_i own hown
    split at theirs
    · cases theirs
    · rename_i other hother
      exact h own other hown (by simpa using mine) hother (by simpa using theirs)

/-- R41, R58: an exchange at the rigs' health, where DIVERGED is marked wherever the new health states could call for it. -/
theorem exchangeTaken_health {run : State → State} (hr : Standing run) (none : s.instantHealth.unguarded = none)
    (marked : ∀ r, s.divergedMarked r) (r : Rig) : (s.exchangeTakenWith run).health.get r =
      ((s.health.get r).restoreChange s.bank.back.monitor.restoreTime).policyChange s.bank.front.fault s.bank.back.fault := by
  have x := exchanged_exchanged s
  have still : (s.exchanged.handBothWith run).health = s.exchanged.health := by
    refine health_handBoth hr (by rw [x.bank]; rfl) fun k => ?_
    unfold State.divergedMarked
    rw [x.parsers none]
    exact marked k
  rw [exchangeTakenWith_eq, (touches_retargetIfBlind _).health, still]
  exact x.health none r

/-- R141: an exchange in MANUAL at the Show Clock. -/
theorem exchangeTaken_clock {run : State → State} (hr : Standing run) (still : s.arbiter.state ≠ .changing) (manual : s.arbiter.mode = .manual)
    {song : Byte} (hs : s.showClock.song = some song) : (s.exchangeTakenWith run).tcOutput = s.tcOutput ∧
    (s.exchangeTakenWith run).showClock =
      if (s.showClock.state = .running ∨ s.showClock.state = .slewing ∨ s.showClock.state = .freewheel) ∧
        (s.bank.front.song.get (songIndex song)).start ≠ (s.bank.back.song.get (songIndex song)).start
      then { s.showClock with jumped := true, lastFrame := .absent } else s.showClock := by
  have unaided := takenUnaided_exchangeTakenWith hr still (.inl manual)
  exact ⟨unaided.touched.tcOutput, unaided.clock.trans ((exchanged_exchanged s).clock song hs)⟩

/-- R170: what stands due of the rigs' health, taken before, leaves the rest of an exchange as it is. -/
theorem exchangeRegroups_settled (still : s.arbiter.state ≠ .changing) : ExchangeRegroups s s.settleDues.exchangeTaken := by
  have settled := touches_settleDues s
  obtain ⟨steady, blind, noAuto⟩ := exchangeRegroups_exchangeTakenWith (s := s.settleDues) standing_run (by rw [settled.arbiter]; exact still)
  rw [settled.arbiter, settled.bank] at steady blind noAuto
  rw [settled.mixer] at noAuto
  refine ⟨fun hs r onAir up => ?_, fun hn hb none r onAir down => ?_, noAuto⟩
  · exact groupsRetargeted_congr (steady hs r onAir up) rfl rfl rfl settled.mixer.symm rfl
  · exact groupsRetargeted_congr (blind hn hb (settleDues_unguarded none) r onAir
      (by rw [settleDues_health, Health.settleDue_down down]; exact down)) rfl rfl rfl settled.mixer.symm rfl

/-! ### The commands EXCHANGE and CANCEL_EXCHANGE (R169 to R171) -/

/-- R169: the part with an exchange pending, or none. -/
def State.withExchange (s : State) (e : Option PendingExchange) : State := s.setBank { s.bank with exchange := e }

theorem exchangeFallsDueWith_changing {take : State → State} {e : PendingExchange} (he : s.bank.exchange = some e)
    (changing : s.arbiter.state = .changing) : s.exchangeFallsDueWith take = s.withExchange (some { e with due := true }) := by
  unfold State.exchangeFallsDueWith
  rw [he]
  exact if_pos changing

theorem exchangeFallsDueWith_taken {take : State → State} {e : PendingExchange} (he : s.bank.exchange = some e)
    (still : s.arbiter.state ≠ .changing) : s.exchangeFallsDueWith take = take s := by
  unfold State.exchangeFallsDueWith
  rw [he]
  exact if_neg still

/-- R170: an exchange requested NOW. -/
theorem pendExchange_now (s : State) (due : Bool) : s.pendExchange .now due =
    if s.arbiter.state = .changing then s.withExchange (some { timing := .now, due := true })
    else (s.withExchange (some { timing := .now, due })).exchangeTaken := by
  split
  · rename_i changing
    exact exchangeFallsDueWith_changing (s := s.withExchange (some { timing := .now, due })) rfl changing
  · rename_i still
    exact exchangeFallsDueWith_taken (s := s.withExchange (some { timing := .now, due })) rfl still

theorem exec_exchange {b : Byte} (allowed : (s.opened q 2).operates q = true ∨ (s.opened q 2).bank.claim = some q) :
    exec (.exchange q (withCheck 0x20 [b])) s =
      .next ((s.opened q 2).answered q ((s.opened q 2).answerExchange q (timingOf b))) := by
  refine exec_command_answer (o := State.answerExchange q (timingOf b)) rfl rfl rfl ?_
  change (_ || _) = true
  rw [Bool.or_eq_true, beq_iff_eq]
  exact allowed

theorem exec_cancelExchange (allowed : (s.opened q 1).operates q = true ∨ (s.opened q 1).bank.claim = some q) :
    exec (.cancelExchange q (withCheck 0x21 [])) s = .next ((s.opened q 1).answered q ((s.opened q 1).answerCancel q)) := by
  refine exec_command_answer (o := State.answerCancel q) rfl rfl rfl ?_
  change (_ || _) = true
  rw [Bool.or_eq_true, beq_iff_eq]
  exact allowed

theorem not_claimedFrom_iff : s.claimedFrom q = false ↔ s.bank.claim = none ∨ s.bank.claim = some q := by
  rw [Bool.eq_false_iff, ne_eq, claimedFrom_iff]
  cases s.bank.claim with
  | none => simp
  | some c => simp

theorem timingOf_none {b : Byte} (h : 2 ≤ b.toNat) : timingOf b = none := by
  have ne (k : Byte) (hk : k.toNat ≤ 1) : b ≠ k := fun e => by subst e; omega
  rw [timingOf, if_neg (ne 0 (by decide)), if_neg (ne 1 (by decide))]

theorem timingOf_some {b : Byte} (h : b.toNat < 2) : ∃ t, timingOf b = some t ∧ (b = 0 ↔ t = .now) ∧ (b = 1 ↔ t = .atSong) := by
  rcases (by omega : b.toNat = 0 ∨ b.toNat = 1) with h | h
  · obtain rfl : b = 0 := BitVec.eq_of_toNat_eq h
    exact ⟨.now, rfl, by decide, by decide⟩
  · obtain rfl : b = 1 := BitVec.eq_of_toNat_eq h
    exact ⟨.atSong, rfl, by decide, by decide⟩

/-- R169: the answer to EXCHANGE with a timing that is named, the show running and no other port holding the claim. -/
theorem answerExchange_free (t : Timing) (runs : s.arbiter.state ≠ .stopped) (free : s.claimedFrom q = false) :
    s.answerExchange q (some t) = (match s.bank.exchange with
      | some e =>
        match e.timing, t with
        | .atSong, .now => (s.pendExchange .now e.due, .done)
        | .atSong, .atSong => (s, .done)
        | .now, _ => (s, .done)
      | none => if s.bank.back.valid s.bank.setup then (s.pendExchange t false, .done) else (s, .invalid)) := by
  exact (if_neg runs).trans (if_neg (by rw [free]; exact Bool.noConfusion))

/-- R169 to R172: what an exchange that a command of port `q` brings leaves once the command has ended. -/
def ExchangeAnswered (p t : State) : Prop :=
  t.bank = p.bank.exchanged ∧ Noted t .bankExchanged ∧ (∀ k, (t.matchers.get k).matched = false) ∧
    (∀ r, (t.guards.get r).void = true ∧ (t.guards.get r).silent = false ∧ (t.guards.get r).frozen = false) ∧
    ExchangeRegroups p t ∧
    (p.arbiter.mode = .manual →
      (p.instantHealth.unguarded = none → (∀ r, p.divergedMarked r) → ∀ r,
        ∃ h, RestoreTaken p.bank.back.monitor.restoreTime (p.health.get r) h ∧
          PolicyTaken p.bank.front.fault p.bank.back.fault h (t.health.get r)) ∧
      ∀ song, p.showClock.song = some song → t.tcOutput = p.tcOutput ∧ t.showClock =
        if (p.showClock.state = .running ∨ p.showClock.state = .slewing ∨ p.showClock.state = .freewheel) ∧
          (p.bank.front.song.get (songIndex song)).start ≠ (p.bank.back.song.get (songIndex song)).start
        then { p.showClock with jumped := true, lastFrame := .absent } else p.showClock)

theorem exchangeAnswered (still : p.arbiter.state ≠ .changing) (e : Option PendingExchange) (k : Ported (p.withExchange e).exchangeTaken t) :
    ExchangeAnswered p t := by
  obtain ⟨-, bank, noted, -, guards, matchers⟩ := exchangeTaken_exchangeTakenWith standing_run (p.withExchange e)
  have groups : ExchangeRegroups p (p.withExchange e).exchangeTaken := exchangeRegroups_exchangeTakenWith (s := p.withExchange e) standing_run still
  have health := fun none marked => exchangeTaken_health (s := p.withExchange e) standing_run none marked
  have clock := fun manual song hs => exchangeTaken_clock (s := p.withExchange e) standing_run still manual (song := song) hs
  refine ⟨k.touched.bank.trans bank, noted.kept k.notices, fun j => by rw [k.touched.matchers]; exact congrArg MatcherState.matched (matchers j),
    by rw [k.touched.guards]; exact guards, groups.ported k, fun manual => ⟨fun none marked r => ?_, fun song hs => ?_⟩⟩
  · rw [k.touched.health]
    refine ⟨_, restoreTaken_restoreChange _ _, ?_⟩
    rw [show (p.withExchange e).exchangeTaken.health.get r = _ from health none marked r]
    exact policyTaken_policyChange _ _ _
  · obtain ⟨tcOutput, showClock⟩ := clock manual song hs
    exact ⟨k.touched.tcOutput.trans tcOutput, k.touched.showClock.trans showClock⟩

/-- R169: EXCHANGE by its operand, the arbiter's state, the claim and the exchange that pends. -/
theorem exchange_answers (p : State) (q : Port) (b : Byte) :
    let t := p.answered q (p.answerExchange q (timingOf b))
    (2 ≤ b.toNat → RefusedWith p t q .invalid) ∧
    (b.toNat < 2 → p.arbiter.state = .stopped → RefusedWith p t q .wrongState) ∧
    (b.toNat < 2 → p.arbiter.state ≠ .stopped →
      (p.claimedFrom q = true → RefusedWith p t q .claimed) ∧
      (p.claimedFrom q = false → p.bank.exchange = none → p.bank.back.valid p.bank.setup = false → RefusedWith p t q .invalid) ∧
      (p.claimedFrom q = false → p.bank.exchange = none → p.bank.back.valid p.bank.setup = true → DoneOn t q ∧
        (b = 1 → OnlyPort q (p.withExchange (some { timing := .atSong, due := false })) t) ∧
        (b = 0 → p.arbiter.state = .changing → OnlyPort q (p.withExchange (some { timing := .now, due := true })) t) ∧
        (b = 0 → p.arbiter.state ≠ .changing → ExchangeAnswered p t)) ∧
      (p.claimedFrom q = false → ∀ e, p.bank.exchange = some e → e.timing = .now ∨ b = 1 → DoneOnly p t q) ∧
      (p.claimedFrom q = false → ∀ e, p.bank.exchange = some e → e.timing = .atSong → b = 0 → DoneOn t q ∧
        (p.arbiter.state = .changing → OnlyPort q (p.withExchange (some { timing := .now, due := true })) t) ∧
        (p.arbiter.state ≠ .changing → ExchangeAnswered p t))) := by
  intro t
  have ends : ∀ v : State, p.answerExchange q (timingOf b) = (v, .done) → t = v.deselect q .done := by
    intro v hv
    change p.answered q _ = _
    rw [hv]
    exact answered_done p v q
  have refuses : ∀ v r, r ≠ .done → p.answerExchange q (timingOf b) = (v, r) → RefusedWith p t q r := fun v r hr hv =>
    refusedWith_answer hr (by rw [hv])
  have now : ∀ due, p.answerExchange q (timingOf b) = (p.pendExchange .now due, .done) → DoneOn t q ∧
      (p.arbiter.state = .changing → OnlyPort q (p.withExchange (some { timing := .now, due := true })) t) ∧
      (p.arbiter.state ≠ .changing → ExchangeAnswered p t) := by
    intro due hv
    rw [ends _ hv, pendExchange_now]
    refine ⟨(deselect_done _ q).doneOn, fun changing => ?_, fun still => ?_⟩
    · rw [if_pos changing]
      exact (deselect_done _ q).1
    · rw [if_neg still]
      exact exchangeAnswered still _ (ported_deselect _ q)
  clear_value t
  refine ⟨fun large => refuses p _ (by decide) (by rw [timingOf_none large]; rfl), fun small stopped => ?_, fun small runs => ?_⟩
  all_goals obtain ⟨timing, named, isNow, isSong⟩ := timingOf_some small
  · refine refuses p _ (by decide) ?_
    simp only [named, State.answerExchange, stopped, if_true]
  · refine ⟨fun taken => refuses p _ (by decide) ?_, fun free none bad => refuses p _ (by decide) ?_, fun free none good => ?_,
      fun free e he stays => ?_, fun free e he atSong zero => ?_⟩
    · simp only [named, State.answerExchange, runs, taken, if_true, if_false]
    all_goals have answer := answerExchange_free (q := q) timing runs free
    · rw [named, answer, none, bad]
      rfl
    · rw [none, good, if_pos rfl] at answer
      cases timing with
      | now =>
        obtain ⟨done, changing, still⟩ := now false (by rw [named]; exact answer)
        exact ⟨done, fun one => absurd (isSong.mp one) (by decide), fun _ => changing, fun _ => still⟩
      | atSong =>
        have pends : t = (p.withExchange (some { timing := .atSong, due := false })).deselect q .done :=
          ends _ (by rw [named]; exact answer)
        rw [pends]
        exact ⟨(deselect_done _ q).doneOn, fun _ => (deselect_done _ q).1, fun zero => absurd (isNow.mp zero) (by decide),
          fun zero => absurd (isNow.mp zero) (by decide)⟩
    · have same : t = p.deselect q .done := by
        refine ends p ?_
        rw [named, answer, he]
        rcases stays with hn | one
        · simp only [hn]
        · rw [isSong.mp one]
          cases ht : e.timing <;> simp only [ht]
      rw [same]
      exact deselect_done p q
    · refine now e.due ?_
      rw [named, answer, he, isNow.mp zero]
      simp only [atSong]

theorem cancel_answers (p : State) (q : Port) : let t := p.answered q (p.answerCancel q)
    (p.claimedFrom q = true → RefusedWith p t q .claimed) ∧
      (p.claimedFrom q = false → DoneOn t q ∧ OnlyPort q (p.withExchange none) t) := by
  refine ⟨fun taken => refusedWith_answer (by decide) (by rw [State.answerCancel, if_pos taken]), fun free => ?_⟩
  have answer : p.answerCancel q = (p.withExchange none, .done) := if_neg (by rw [free]; exact Bool.noConfusion)
  rw [answer, answered_done]
  exact ⟨(deselect_done _ q).doneOn, (deselect_done _ q).1⟩

/-! ### The on-air rig's song boundary (R121, R142, R170) -/

theorem bankReads_boundary {x : Acceptance} {due : Bool} (boundary : x.boundary = true) (onAir : s.arbiter.onAir = some x.rig)
    (he : s.bank.exchange = some { timing := .atSong, due }) : s.bankReads x =
      if s.arbiter.state = .changing then s.withExchange (some { timing := .atSong, due := true }) else s.settleDues.exchangeTaken := by
  have read : s.bankReads x = s.exchangeFallsDueInside := by
    unfold State.bankReads
    simp [boundary, onAir, he]
  rw [read]
  split
  · rename_i changing
    exact exchangeFallsDueWith_changing he changing
  · rename_i still
    exact exchangeFallsDueWith_taken he still

/-- R170, R172: an exchange taken at a song boundary. -/
theorem exchangeTaken_settled (still : s.arbiter.state ≠ .changing) : s.settleDues.exchangeTaken.bank = s.bank.exchanged ∧
    Noted s.settleDues.exchangeTaken .bankExchanged ∧ ExchangeRegroups s s.settleDues.exchangeTaken ∧
    NoticesKept s s.settleDues.exchangeTaken ∧
    ∀ k, s.settleDues.exchangeTaken.matchers.get k = { s.matchers.get k with matched := false } := by
  have settled := touches_settleDues s
  obtain ⟨-, bank, noted, notices, -, matchers⟩ := exchangeTaken_exchangeTakenWith standing_run s.settleDues
  rw [settled.matchers] at matchers
  exact ⟨bank.trans (congrArg BankStore.exchanged settled.bank), noted, exchangeRegroups_settled still,
    (NoticesKept.of_ports settled.ports).trans notices, matchers⟩

theorem clockReads_onAir {x : Acceptance} (onAir : s.arbiter.onAir = some x.rig) :
    s.clockReads x = (s.dropRebase x).clockFollow x.rig x.new := if_pos onAir

theorem clockFollow_songChange {rec : RigRecord} (playing : rec.transport = .playing)
    (run : s.showClock.state = .running ∨ s.showClock.state = .slewing ∨ s.showClock.state = .freewheel) (song : rec.song ≠ s.clockSong) :
    s.clockFollow r rec = s.clockSongChange (s.targetFrom r (rec.anchor.getD 0)) rec.song := by
  unfold State.clockFollow
  rw [playing]
  rcases run with run | run | run <;> rw [run] <;> exact if_neg song

/-- R142: at a song change of a running clock the mark of an exchange of the same boundary drops JUMPED, and else JUMPED stands. -/
theorem clockReads_songChange {x : Acceptance} {song : Byte} (onAir : s.arbiter.onAir = some x.rig)
    (run : s.showClock.state = .running ∨ s.showClock.state = .slewing ∨ s.showClock.state = .freewheel)
    (hs : s.showClock.song = some song) (playing : x.new.transport = .playing) (other : x.new.song ≠ song) :
    let t := s.clockReads x
    Touches [.showClock] s t ∧ t.showClock.song = some x.new.song ∧ t.showClock.songChanged = true ∧ t.showClock.state = .running ∧
      t.showClock.jumped = (if x.rebases then false else s.showClock.jumped) := by
  intro t
  have clockSong : s.clockSong = song := by unfold State.clockSong; rw [hs]; rfl
  have idle : s.showClock.state ≠ .idle := by rcases run with h | h | h <;> rw [h] <;> decide
  have dropped : s.dropRebase x = s.setShowClock { s.showClock with jumped := if x.rebases then false else s.showClock.jumped } := by
    unfold State.dropRebase
    cases marks : x.rebases with
    | true =>
      rw [if_pos ⟨rfl, idle, playing, by rw [clockSong]; exact other⟩]
      rfl
    | false =>
      rw [if_neg fun h => Bool.noConfusion h.1]
      rfl
  have read : t = (s.dropRebase x).clockSongChange ((s.dropRebase x).targetFrom x.rig (x.new.anchor.getD 0)) x.new.song := by
    refine (clockReads_onAir onAir).trans (clockFollow_songChange playing ?_ ?_)
    · rw [dropped]
      exact run
    · rw [dropped]
      exact fun h => other (h.trans clockSong)
  rw [read, dropped]
  exact ⟨(Touches.refl.setShowClock (by decide)).setShowClock (by decide), rfl, rfl, rfl, rfl⟩

/-- R121: a group's record after a one-song override reverts, its target included. -/
def Group.reverted (b : Bank) (a : Arbiter) (i : Fin 8) (g : Group) : Group :=
  if g.oneSong then
    if g.mode = g.base then { g with mode := g.base, oneSong := false }
    else ({ g with mode := g.base, oneSong := false } : Group).retarget (b.group.get i).fadeLength (targetOf a (b.group.get i).policy g.base)
  else g

theorem revertGroup_mixer (s : State) (i : Fin 8) : (s.revertGroup i).mixer =
    { s.mixer with groups := s.mixer.groups.set i ((s.mixer.groups.get i).reverted s.bank.front s.arbiter i) } := by
  have unset : s.mixer.groups.set i (s.mixer.groups.get i) = s.mixer.groups := by
    refine Table.ext_get fun j => ?_
    by_cases h : i = j
    · subst h
      simp
    · simp [h]
  unfold State.revertGroup Group.reverted
  dsimp only
  split
  · split
    · rfl
    · rw [retargetGroup_mixer]
      simp only [setMixer_mixer, Table.get_set_same]
      refine congrArg (fun x => { s.mixer with groups := x }) (Table.ext_get fun j => ?_)
      by_cases h : i = j
      · subst h
        simp
      · simp [h]
  · rw [unset]

theorem touches_revertGroup (s : State) (i : Fin 8) : Touches [.mixer] s (s.revertGroup i) := Touches.refl.revertGroup (by decide)

/-- R121: the groups revert each on its own. -/
theorem revertAll_leaves : ∀ (l : List (Fin 8)) (v : State), l.Nodup → let u := l.foldl State.revertGroup v
    Touches [.mixer] v u ∧ u.mixer = { v.mixer with groups := u.mixer.groups } ∧
      (∀ j, j ∉ l → u.mixer.groups.get j = v.mixer.groups.get j) ∧
      ∀ i ∈ l, u.mixer.groups.get i = (v.mixer.groups.get i).reverted v.bank.front v.arbiter i
  | [], v, _ => ⟨.refl, rfl, fun _ _ => rfl, fun _ h => by cases h⟩
  | i :: l, v, hn => by
    obtain ⟨fresh, nodup⟩ := List.nodup_cons.mp hn
    have first := touches_revertGroup v i
    have mixer := revertGroup_mixer v i
    obtain ⟨touched, kept, others, all⟩ := revertAll_leaves l (v.revertGroup i) nodup
    refine ⟨first.trans touched, ?_, fun j hj => ?_, fun k hk => ?_⟩
    · rw [List.foldl_cons, kept, mixer]
    · rw [List.foldl_cons, others j fun hl => hj (List.mem_cons_of_mem _ hl), mixer]
      exact Table.get_set_ne _ _ _ _ fun h => hj (by simp [h])
    · rw [List.foldl_cons]
      rcases List.mem_cons.mp hk with rfl | later
      · rw [others k fresh, mixer]
        exact Table.get_set_same _ _ _
      · rw [all k later, first.bank, first.arbiter, mixer]
        have ne : i ≠ k := by
          rintro rfl
          exact fresh later
        exact congrArg (Group.reverted _ _ k) (Table.get_set_ne _ _ _ _ ne)

/-- R121: at a song boundary of the on-air rig in STEADY. -/
theorem groupsRead_steady {x : Acceptance} (boundary : x.boundary = true) (onAir : s.arbiter.onAir = some x.rig)
    (steady : s.arbiter.state = .steady) : Touches [.mixer] s (s.groupsRead x) ∧
      (s.groupsRead x).mixer = { s.mixer with groups := (s.groupsRead x).mixer.groups } ∧
      ∀ i, (s.groupsRead x).mixer.groups.get i = (s.mixer.groups.get i).reverted s.bank.front s.arbiter i := by
  obtain ⟨touched, mixer, -, all⟩ := revertAll_leaves (List.finRange 8) s (List.nodup_finRange 8)
  have read : s.groupsRead x = (List.finRange 8).foldl State.revertGroup s := by
    unfold State.groupsRead
    rw [if_pos (by simp [boundary, onAir])]
    refine run_atRest touched ⟨by rw [steady]; exact ArbState.noConfusion, lateFailoverHolds_of_not_blind ?_⟩
    rw [steady]
    exact ArbState.noConfusion
  rw [read]
  exact ⟨touched, mixer, fun i => all i (List.mem_finRange i)⟩

/-- R142: the Show Clock and the Bank Store at one song boundary, in MANUAL, in either order. -/
theorem clock_at_boundary {x : Acceptance} {song : Byte} {due : Bool} (boundary : x.boundary = true) (onAir : s.arbiter.onAir = some x.rig)
    (he : s.bank.exchange = some { timing := .atSong, due }) (still : s.arbiter.state ≠ .changing) (manual : s.arbiter.mode = .manual)
    (mark : x.rebases = !s.showClock.jumped)
    (run : s.showClock.state = .running ∨ s.showClock.state = .slewing ∨ s.showClock.state = .freewheel)
    (hs : s.showClock.song = some song) (playing : x.new.transport = .playing) (other : x.new.song ≠ song) :
    let t := (s.bankReads x).clockReads x
    let v := (s.clockReads x).bankReads x
    let start := fun b : Bank => (b.song.get (songIndex x.new.song)).start
    (t.showClock.song = some x.new.song ∧ t.showClock.songChanged = true ∧ t.showClock.jumped = s.showClock.jumped ∧
      t.startOf x.new.song = start s.bank.back) ∧
    v.showClock.song = some x.new.song ∧ v.showClock.songChanged = true ∧
      (v.showClock.jumped = true ↔ s.showClock.jumped = true ∨ start s.bank.front ≠ start s.bank.back) ∧
      v.startOf x.new.song = start s.bank.back := by
  intro t v start
  constructor
  · have settled := touches_settleDues s
    have still' : s.settleDues.arbiter.state ≠ .changing := by rw [settled.arbiter]; exact still
    have unaided := takenUnaided_exchangeTakenWith standing_run still' (.inl (by rw [settled.arbiter]; exact manual))
    obtain ⟨-, clock⟩ := exchangeTaken_clock standing_run still' (by rw [settled.arbiter]; exact manual) (song := song)
      (by rw [settled.showClock]; exact hs)
    obtain ⟨bank, -⟩ := exchangeTaken_settled still
    rw [settled.showClock] at clock
    have taken : s.bankReads x = s.settleDues.exchangeTaken := (bankReads_boundary boundary onAir he).trans (if_neg still)
    have state : s.settleDues.exchangeTaken.showClock.state = s.showClock.state ∧
        s.settleDues.exchangeTaken.showClock.song = s.showClock.song ∧
        (s.showClock.jumped = true → s.settleDues.exchangeTaken.showClock.jumped = true) := by
      rw [show s.settleDues.exchangeTaken.showClock = _ from clock]
      split
      · exact ⟨rfl, rfl, fun _ => rfl⟩
      · exact ⟨rfl, rfl, id⟩
    have air : s.settleDues.exchangeTaken.arbiter.onAir = some x.rig := by
      rw [show s.settleDues.exchangeTaken.arbiter = _ from unaided.arbiter, settled.arbiter]
      exact onAir
    obtain ⟨same, stays, jumps⟩ := state
    obtain ⟨touched, newSong, changed, -, jumped⟩ := clockReads_songChange (s := s.settleDues.exchangeTaken) (x := x) (song := song) air
      (by rw [same]; exact run) (by rw [stays]; exact hs) playing other
    have ht : t = s.settleDues.exchangeTaken.clockReads x := congrArg (fun u => State.clockReads u x) taken
    rw [ht]
    refine ⟨newSong, changed, jumped.trans ?_, ?_⟩
    · rw [mark]
      cases hj : s.showClock.jumped with
      | false => rfl
      | true => exact jumps hj
    · unfold State.startOf
      rw [touched.bank, bank]
      rfl
  · obtain ⟨touched, newSong, changed, state, jumped⟩ := clockReads_songChange onAir run hs playing other
    generalize hu : s.clockReads x = u at *
    have settled := touches_settleDues u
    have hv : v = u.settleDues.exchangeTaken := by
      change State.bankReads (s.clockReads x) x = _
      rw [hu]
      exact (bankReads_boundary boundary (by rw [touched.arbiter]; exact onAir) (by rw [touched.bank]; exact he)).trans
        (if_neg (by rw [touched.arbiter]; exact still))
    have still' : u.settleDues.arbiter.state ≠ .changing := by rw [settled.arbiter, touched.arbiter]; exact still
    obtain ⟨-, clock⟩ := exchangeTaken_clock standing_run still' (by rw [settled.arbiter, touched.arbiter]; exact manual)
      (song := x.new.song) (by rw [settled.showClock]; exact newSong)
    obtain ⟨bank, -⟩ := exchangeTaken_settled (s := u) (by rw [touched.arbiter]; exact still)
    rw [settled.showClock, settled.bank, touched.bank] at clock
    rw [touched.bank] at bank
    have before : u.showClock.jumped = s.showClock.jumped := by
      rw [jumped, mark]
      cases s.showClock.jumped <;> rfl
    rw [hv]
    rw [show u.settleDues.exchangeTaken.showClock = _ from clock]
    refine ⟨?_, ?_, ?_, ?_⟩
    · split <;> exact newSong
    · split <;> exact changed
    · by_cases differ : start s.bank.front ≠ start s.bank.back
      · rw [if_pos ⟨.inl state, differ⟩]
        exact iff_of_true rfl (.inr differ)
      · rw [if_neg fun h => differ h.2, before]
        exact (or_iff_left differ).symm
    · unfold State.startOf
      rw [bank]
      rfl

/-- Settles O55: EXCHANGE and CANCEL_EXCHANGE by their checks, and each reader of the on-air rig's song boundary. -/
theorem exchangeAndCancel : Obligations.ExchangeAndCancel := by
  refine ⟨?_, ?_, fun s x quiet => ?_, ?_, ?_, ?_⟩
  · intro s q b p free taken allowed
    refine ⟨p.answered q (p.answerExchange q (timingOf b)), exec_exchange allowed, ?_⟩
    clear allowed
    clear_value p
    obtain ⟨large, stopped, running⟩ := exchange_answers p q b
    have isFree : free ↔ p.claimedFrom q = false := not_claimedFrom_iff.symm
    have answers : ∀ t, ExchangeAnswered p t → taken t := by
      rintro t ⟨bank, noted, matchers, guards, groups, manual⟩
      refine ⟨bank, noted, matchers, guards, groups, fun hm => ⟨fun none marked => (manual hm).1 none fun r => divergedMarked_of (marked r),
        fun song hs => ?_⟩⟩
      obtain ⟨tcOutput, showClock⟩ := (manual hm).2 song hs
      exact ⟨tcOutput, fun h => showClock.trans (if_pos h), fun h => showClock.trans (if_neg h)⟩
    refine ⟨large, stopped, fun small runs => ?_⟩
    obtain ⟨claimed, invalid, fresh, stays, again⟩ := running small runs
    refine ⟨fun h => claimed (by simpa using mt isFree.mpr h), fun h => invalid (isFree.mp h), fun h none valid => ?_,
      fun h => stays (isFree.mp h), fun h e he atSong zero => ?_⟩
    · obtain ⟨done, song, changing, still⟩ := fresh (isFree.mp h) none valid
      exact ⟨done, song, changing, fun zero hs => answers _ (still zero hs)⟩
    · obtain ⟨done, changing, still⟩ := again (isFree.mp h) e he atSong zero
      exact ⟨done, changing, fun hs => answers _ (still hs)⟩
  · intro s q p allowed
    refine ⟨p.answered q (p.answerCancel q), exec_cancelExchange allowed, ?_⟩
    clear allowed
    clear_value p
    obtain ⟨claimed, free⟩ := cancel_answers p q
    exact ⟨fun h => claimed (claimedFrom_iff.mpr h), fun h => free (not_claimedFrom_iff.mpr h)⟩
  · have test : ¬ (x.boundary && s.arbiter.onAir == some x.rig) = true := by
      rw [Bool.and_eq_true, beq_iff_eq]
      rintro ⟨boundary, onAir⟩
      rcases quiet with none | other
      · rw [none] at boundary
        cases boundary
      · exact other onAir
    exact ⟨if_neg test, if_neg test⟩
  · intro s x due t boundary onAir he
    have read : t = _ := bankReads_boundary boundary onAir he
    refine ⟨fun changing => read.trans (if_pos changing), fun still => ?_⟩
    rw [read, if_neg still]
    obtain ⟨bank, noted, groups, -⟩ := exchangeTaken_settled still
    exact ⟨bank, noted, groups⟩
  · intro s x song due c t v start boundary onAir he still manual mark run hs playing other
    obtain ⟨⟨a, b, c, d⟩, rest⟩ := clock_at_boundary boundary onAir he still manual mark run hs playing other
    exact ⟨a, b, c, d, rest⟩
  · intro s x i t g h e target boundary onAir steady
    obtain ⟨touched, mixer, all⟩ := groupsRead_steady boundary onAir steady
    have record : h = g.reverted s.bank.front s.arbiter i := all i
    refine ⟨touched, mixer, fun none => ?_, fun one => ?_⟩
    · rw [record, Group.reverted, none]
      rfl
    · rw [record, Group.reverted, if_pos one]
      by_cases same : g.mode = g.base
      · rw [if_pos same]
        refine ⟨rfl, rfl, rfl, fun _ => ?_, fun other => absurd same other⟩
        rw [← same]
      · rw [if_neg same]
        obtain ⟨mode, base, oneSong, hitTarget⟩ := ({ g with mode := g.base, oneSong := false } : Group).retarget_modes e.fadeLength target
        refine ⟨mode, base, oneSong, fun h => absurd h same, fun _ => ⟨hitTarget, fun rests moves fades => ?_⟩⟩
        have taken := targetTaken_retarget ({ g with mode := g.base, oneSong := false } : Group) e.fadeLength target
        obtain ⟨-, -, -, -, atRest, -⟩ := taken
        exact ((atRest rests).2.2 moves fades).2

end Sys2Proof.Machine

/-! PROOFS. The Event Matchers (chapter 8): the EXCHANGE action's answers (R152), one firing (R151, R153), and the matchers of a beacon
together (R147 to R150). -/

namespace Sys2Proof.Machine

open Sys2Proof

/- In order: bodies elaborated side by side while the kernel still checks the text above each hold a thread's stack. -/
set_option Elab.async false

variable {s t u v w p : State} {r : Rig} {k : Fin 8} {e : MatcherEntry} {stamp : Stamp} {table : Table 8 MatcherEntry} {later : Bool}

/-! ### The EXCHANGE action (R152) -/

/-- R152: the answer to the EXCHANGE action, in the order of its checks. -/
theorem matcherExchange_result (s : State) : s.matcherExchange.2 = (if s.arbiter.state = .stopped then .wrongState
    else if s.bank.claim.isSome then .claimed
    else if s.bank.exchange.isNone && !s.bank.back.valid s.bank.setup then .invalid
    else .done) := by
  unfold State.matcherExchange
  split
  · rfl
  · split
    · rfl
    · cases he : s.bank.exchange with
      | none => cases s.bank.back.valid s.bank.setup <;> rfl
      | some x => cases ht : x.timing <;> simp only [ht] <;> rfl

theorem matcherExchange_refused (h : s.matcherExchange.2 ≠ .done) : s.matcherExchange.1 = s := by
  unfold State.matcherExchange at h ⊢
  split
  · rfl
  · rename_i runs
    rw [if_neg runs] at h
    split
    · rfl
    · rename_i free
      rw [if_neg free] at h
      cases he : s.bank.exchange with
      | none =>
        rw [he] at h
        cases hv : s.bank.back.valid s.bank.setup with
        | false => simp
        | true => simp [hv] at h
      | some x =>
        rw [he] at h
        cases ht : x.timing <;> simp [ht] at h

theorem matcherExchange_now {due : Bool} (h : s.bank.exchange = some { timing := .now, due }) : s.matcherExchange.1 = s := by
  unfold State.matcherExchange
  split
  · rfl
  · split
    · rfl
    · rw [h]

/-- R152: an EXCHANGE action that is taken, no exchange of timing NOW pending. -/
theorem matcherExchange_taken (done : s.matcherExchange.2 = .done) (pending : ∀ e, s.bank.exchange = some e → e.timing = .atSong) :
    s.arbiter.state ≠ .stopped ∧ ∃ due, s.matcherExchange.1 = (s.withExchange (some { timing := .now, due })).exchangeFallsDueInside := by
  unfold State.matcherExchange at done ⊢
  split at done
  · cases done
  · rename_i runs
    refine ⟨runs, ?_⟩
    rw [if_neg runs]
    split at done
    · cases done
    · rename_i free
      rw [if_neg free]
      cases he : s.bank.exchange with
      | none =>
        rw [he] at done
        cases hv : s.bank.back.valid s.bank.setup with
        | false => simp [hv] at done
        | true => exact ⟨false, rfl⟩
      | some x =>
        refine ⟨x.due, ?_⟩
        dsimp only
        rw [pending x he]
        rfl

/-- R152, R170, R172: what an EXCHANGE action that is taken leaves. -/
theorem matcherExchange_leaves (done : s.matcherExchange.2 = .done) (pending : ∀ e, s.bank.exchange = some e → e.timing = .atSong) :
    (s.arbiter.state = .changing → s.matcherExchange.1 = s.withExchange (some { timing := .now, due := true })) ∧
    (s.arbiter.state ≠ .changing → Noted s.matcherExchange.1 .bankExchanged ∧ ExchangeRegroups s s.matcherExchange.1 ∧
      (∀ k, s.matcherExchange.1.matchers.get k = { s.matchers.get k with matched := false }) ∧
      s.matcherExchange.1.bank = s.bank.exchanged ∧ NoticesKept s s.matcherExchange.1) := by
  obtain ⟨-, due, result⟩ := matcherExchange_taken done pending
  rw [result]
  refine ⟨fun changing => exchangeFallsDueWith_changing (s := s.withExchange (some { timing := .now, due })) rfl changing, fun still => ?_⟩
  rw [show (s.withExchange (some { timing := .now, due })).exchangeFallsDueInside =
    (s.withExchange (some { timing := .now, due })).settleDues.exchangeTaken from
      exchangeFallsDueWith_taken (s := s.withExchange (some { timing := .now, due })) rfl still]
  obtain ⟨bank, noted, groups, notices, matchers⟩ := exchangeTaken_settled (s := s.withExchange (some { timing := .now, due })) still
  exact ⟨noted, groups, matchers, bank, notices⟩

/-- R152: the cases of an EXCHANGE action: refused or already pending, due while CHANGING, or taken. -/
theorem matcherExchange_cases (s : State) : s.matcherExchange.1 = s ∨
    s.matcherExchange.1 = s.withExchange (some { timing := .now, due := true }) ∨
    (s.matcherExchange.1.bank = s.bank.exchanged ∧ NoticesKept s s.matcherExchange.1 ∧
      ∀ k, s.matcherExchange.1.matchers.get k = { s.matchers.get k with matched := false }) := by
  by_cases done : s.matcherExchange.2 = .done
  · by_cases pending : ∀ e, s.bank.exchange = some e → e.timing = .atSong
    · obtain ⟨changing, still⟩ := matcherExchange_leaves done pending
      by_cases h : s.arbiter.state = .changing
      · exact .inr (.inl (changing h))
      · obtain ⟨-, -, matchers, bank, notices⟩ := still h
        exact .inr (.inr ⟨bank, notices, matchers⟩)
    · simp only [not_forall] at pending
      obtain ⟨x, he, timing⟩ := pending
      refine .inl (matcherExchange_now (due := x.due) (he.trans (congrArg some ?_)))
      obtain ⟨t, due⟩ := x
      cases t with
      | now => rfl
      | atSong => exact absurd rfl timing
  · exact .inl (matcherExchange_refused done)

/-- R152: the EXCHANGE action's answer and what it makes of the banks rest on the arbiter's state and the bank store alone. -/
theorem matcherExchange_congr (hs : t.arbiter.state = s.arbiter.state) (hb : t.bank = s.bank) :
    t.matcherExchange.2 = s.matcherExchange.2 ∧ t.matcherExchange.1.bank = s.matcherExchange.1.bank := by
  have answer : t.matcherExchange.2 = s.matcherExchange.2 := by rw [matcherExchange_result, matcherExchange_result, hs, hb]
  refine ⟨answer, ?_⟩
  by_cases done : s.matcherExchange.2 = .done
  · by_cases pending : ∀ e, s.bank.exchange = some e → e.timing = .atSong
    · obtain ⟨changing, still⟩ := matcherExchange_leaves done pending
      obtain ⟨changing', still'⟩ := matcherExchange_leaves (s := t) (answer.trans done) (by rw [hb]; exact pending)
      by_cases h : s.arbiter.state = .changing
      · rw [changing h, changing' (hs.trans h)]
        exact congrArg (fun b : BankStore => { b with exchange := some { timing := .now, due := true } }) hb
      · rw [(still h).2.2.2.1, (still' (by rw [hs]; exact h)).2.2.2.1, hb]
    · simp only [not_forall] at pending
      obtain ⟨x, he, timing⟩ := pending
      have now : s.bank.exchange = some { timing := .now, due := x.due } := by
        rw [he]
        obtain ⟨t, due⟩ := x
        cases t with
        | now => rfl
        | atSong => exact absurd rfl timing
      rw [matcherExchange_now now, matcherExchange_now (s := t) (due := x.due) (by rw [hb]; exact now), hb]
  · rw [matcherExchange_refused done, matcherExchange_refused (s := t) (by rw [answer]; exact done), hb]

/-! ### The inhibit flag under the standing tests (R99) -/

theorem completed_modes (s : State) : s.completed.arbiter.mode = s.arbiter.mode ∧ s.completed.arbiter.inhibit = s.arbiter.inhibit := by
  unfold State.completed
  dsimp only
  rw [reEligible_arbiter, (State.touches_settleDelay _).arbiter]
  split <;> exact ⟨rfl, rfl⟩

theorem enterChanging_modes (s : State) (c : Cause) : (s.enterChanging c).arbiter.mode = s.arbiter.mode ∧
    (s.enterChanging c).arbiter.inhibit = s.arbiter.inhibit := by
  cases onAir : s.arbiter.onAir with
  | none =>
    have same : s.enterChanging c = s := by simp only [State.enterChanging, onAir]
    rw [same]
    exact ⟨rfl, rfl⟩
  | some r =>
    have begun := begun_changeBegun s r.other c
    rw [enterChanging_eq (r := r.other) (by rw [Rig.other_other]; exact onAir), begun.takenOver.arbiter]
    exact ⟨begun.mode, begun.inhibit⟩

/-- R98, R99: the standing tests leave the mode and the inhibit flag. -/
theorem arbRunWith_modes (n : Nat) (s : State) : (arbRunWith (fun v => v) n s).arbiter.mode = s.arbiter.mode ∧
    (arbRunWith (fun v => v) n s).arbiter.inhibit = s.arbiter.inhibit := by
  induction n generalizing s with
  | zero => exact ⟨rfl, rfl⟩
  | succ n ih =>
    have completes : (s.completeWith fun v => v).arbiter.mode = s.arbiter.mode ∧
        (s.completeWith fun v => v).arbiter.inhibit = s.arbiter.inhibit := by
      rw [State.completeWith_eq]
      split
      · rw [(Touches.refl.handTargets (by decide) : Touches [.mixer] s.completed _).arbiter]
        exact completed_modes s
      · exact completed_modes s
    have enters := enterChanging_modes s .lateFailover
    unfold arbRunWith
    split
    · exact ⟨(ih _).1.trans completes.1, (ih _).2.trans completes.2⟩
    · split
      · exact ⟨(ih _).1.trans enters.1, (ih _).2.trans enters.2⟩
      · exact ⟨rfl, rfl⟩

/-! ### One firing (R151, R153) -/

/-- R151: a firing's count and stamp, and its notice, before its action. -/
def State.firing (s : State) (stamp : Stamp) (k : Fin 8) : State :=
  (s.setMatchers (s.matchers.set k { s.matchers.get k with fires := stop255 (s.matchers.get k).fires, lastStamp := some stamp })).raiseAll
    .matcherFired

theorem fire_eq (s : State) (stamp : Stamp) (k : Fin 8) (e : MatcherEntry) : s.fire stamp k e =
    ((s.firing stamp k).perform e).1.setMatchers (((s.firing stamp k).perform e).1.matchers.set k
      { ((s.firing stamp k).perform e).1.matchers.get k with lastResult := some ((s.firing stamp k).perform e).2 }) := rfl

theorem touches_firing (s : State) (stamp : Stamp) (k : Fin 8) : Touches [.matchers, .ports] s (s.firing stamp k) :=
  (Touches.refl.setMatchers (by decide)).raiseAll (by decide)

/-- R151, R153: matcher `k` has fired with the result `c`; the other matchers stand but for their memories. -/
structure FiredBy (s t : State) (stamp : Stamp) (k : Fin 8) (c : ResultCode) : Prop where
  fires : (t.matchers.get k).fires = stop255 (s.matchers.get k).fires
  stamped : (t.matchers.get k).lastStamp = some stamp
  result : (t.matchers.get k).lastResult = some c
  others : ∀ j, j ≠ k → t.matchers.get j = { s.matchers.get j with matched := (t.matchers.get j).matched }
  noted : Noted t .matcherFired
  notices : NoticesKept s t

/-- An action that leaves every matcher but for its memory. -/
theorem firedBy_fire {v : State} {c : ResultCode} (h : (s.firing stamp k).perform e = (v, c)) (notices : NoticesKept (s.firing stamp k) v)
    (matchers : ∀ j, v.matchers.get j = { (s.firing stamp k).matchers.get j with matched := (v.matchers.get j).matched }) :
    FiredBy s (s.fire stamp k e) stamp k c ∧ ∀ j, ((s.fire stamp k e).matchers.get j).matched = (v.matchers.get j).matched := by
  have fired : s.fire stamp k e = v.setMatchers (v.matchers.set k { v.matchers.get k with lastResult := some c }) := by rw [fire_eq, h]
  have own : (s.firing stamp k).matchers.get k =
      { s.matchers.get k with fires := stop255 (s.matchers.get k).fires, lastStamp := some stamp } := Table.get_set_same _ _ _
  have other : ∀ j, j ≠ k → (s.firing stamp k).matchers.get j = s.matchers.get j := fun j hj => Table.get_set_ne _ _ _ _ hj.symm
  have noted : Noted (s.firing stamp k) .matcherFired := noted_raiseAll _ _
  have kept : NoticesKept s (s.firing stamp k) := noticesKept_raiseAll_of rfl
  rw [fired]
  refine ⟨⟨?_, ?_, ?_, fun j hj => ?_, (noted.kept notices).kept (.of_ports rfl), (kept.trans notices).trans (.of_ports rfl)⟩, fun j => ?_⟩
  · rw [setMatchers_matchers, Table.get_set_same]
    change (v.matchers.get k).fires = _
    rw [matchers k, own]
  · rw [setMatchers_matchers, Table.get_set_same]
    change (v.matchers.get k).lastStamp = _
    rw [matchers k, own]
  · rw [setMatchers_matchers, Table.get_set_same]
  · rw [setMatchers_matchers, Table.get_set_ne _ _ _ _ hj.symm, matchers j, other j hj]
  · rw [setMatchers_matchers]
    by_cases hj : k = j
    · subst hj
      rw [Table.get_set_same]
    · rw [Table.get_set_ne _ _ _ _ hj]

/-! ### The firings of a beacon, one after another -/

/-- R150, R151: one firing of the list, with what it notes of the exchanges that follow (R55). -/
def fireNext (stamp : Stamp) (table : Table 8 MatcherEntry) (later : Bool) (k : Fin 8) (rest : List (Fin 8)) (s : State) : State :=
  let asks := fun j => (table.get j).action == .exchange
  (if asks k then s.setComing { s.instantHealth.coming with exchange := later || rest.any asks } else s).fire stamp k (table.get k)

theorem fireAll_cons (k : Fin 8) (rest : List (Fin 8)) (s : State) : State.fireAll stamp table later (k :: rest) s =
    State.fireAll stamp table later rest (fireNext stamp table later k rest s) := rfl

theorem fireNext_of_other {rest : List (Fin 8)} (h : (table.get k).action ≠ .exchange) :
    fireNext stamp table later k rest s = s.fire stamp k (table.get k) := by
  refine congrArg (fun v => State.fire v stamp k (table.get k)) (if_neg ?_)
  simpa using h

/-- What each firing of a list does to its own matcher, whatever stands before it. -/
theorem fireAll_fired {I : List (Fin 8) → State → Prop} {result : Fin 8 → ResultCode}
    (step : ∀ j rest v, j ∉ rest → I (j :: rest) v → I rest (fireNext stamp table later j rest v) ∧
      FiredBy v (fireNext stamp table later j rest v) stamp j (result j)) :
    ∀ (l : List (Fin 8)) (s : State), l.Nodup → I l s → let t := State.fireAll stamp table later l s
      I [] t ∧ NoticesKept s t ∧ (∀ j, j ∉ l → t.matchers.get j = { s.matchers.get j with matched := (t.matchers.get j).matched }) ∧
        ∀ j ∈ l, (t.matchers.get j).fires = stop255 (s.matchers.get j).fires ∧ (t.matchers.get j).lastStamp = some stamp ∧
          (t.matchers.get j).lastResult = some (result j) ∧ Noted t .matcherFired
  | [], s, _, h => ⟨h, .refl s, fun _ _ => rfl, fun _ hj => by cases hj⟩
  | k :: rest, s, hn, h => by
    obtain ⟨fresh, nodup⟩ := List.nodup_cons.mp hn
    obtain ⟨next, fired⟩ := step k rest s fresh h
    obtain ⟨last, notices, others, all⟩ := fireAll_fired step rest _ nodup next
    rw [fireAll_cons]
    refine ⟨last, fired.notices.trans notices, fun j hj => ?_, fun j hj => ?_⟩
    · have ne : j ≠ k := fun h => hj (by simp [h])
      rw [others j fun hl => hj (List.mem_cons_of_mem _ hl), fired.others j ne]
    · rcases List.mem_cons.mp hj with rfl | later'
      · rw [others j fresh]
        exact ⟨fired.fires, fired.stamped, fired.result, fired.noted.kept notices⟩
      · have ne : j ≠ k := by
          rintro rfl
          exact fresh later'
        obtain ⟨fires, stamped, results, noted⟩ := all j later'
        refine ⟨fires.trans ?_, stamped, results, noted⟩
        rw [fired.others j ne]

/-- What every firing of a list keeps. -/
theorem fireAll_keeps {I : State → Prop} {l : List (Fin 8)} (keep : ∀ j ∈ l, ∀ rest v, I v → I (fireNext stamp table later j rest v)) :
    ∀ s : State, I s → I (State.fireAll stamp table later l s) := by
  induction l with
  | nil => exact fun _ h => h
  | cons j rest ih =>
    intro s h
    rw [fireAll_cons]
    exact ih (fun i hi => keep i (List.mem_cons_of_mem _ hi)) _ (keep j (by simp) rest s h)

/-- What the last of several firings that could undo it leaves, the list ascending. -/
theorem fireAll_last {I P : State → Prop} {k : Fin 8} (hI : ∀ j rest v, I v → I (fireNext stamp table later j rest v))
    (own : ∀ rest v, I v → P (fireNext stamp table later k rest v))
    (keep : ∀ j rest v, k < j → I v → P v → P (fireNext stamp table later j rest v)) {l : List (Fin 8)} :
    ∀ s : State, l.Pairwise (· < ·) → k ∈ l → I s → P (State.fireAll stamp table later l s) := by
  induction l with
  | nil => exact fun _ _ hk _ => nomatch hk
  | cons j rest ih =>
    intro s hp hk h
    obtain ⟨above, sorted⟩ := List.pairwise_cons.mp hp
    rw [fireAll_cons]
    rcases List.mem_cons.mp hk with same | after
    · have both : I (fireNext stamp table later j rest s) ∧ P (fireNext stamp table later j rest s) :=
        ⟨hI j rest s h, by rw [← same]; exact own rest s h⟩
      refine (fireAll_keeps (I := fun v => I v ∧ P v) (fun i hi rest v hv => ⟨hI i rest v hv.1, keep i rest v ?_ hv.1 hv.2⟩) _ both).2
      rw [same]
      exact above i hi
    · exact ih _ sorted after (hI j rest s h)

/-! ### Firings without EXCHANGE -/

/-- No changeover stands at its completion and the arbiter is not in BLIND, so the inhibit flag brings nothing (R94, R99). -/
def State.unmoved (s : State) : Prop := s.arbiter.state ≠ .blind ∧ s.completionHolds = false

theorem unmoved_congr (h : s.unmoved) (hs : t.arbiter.state = s.arbiter.state) (ho : t.arbiter.onAir = s.arbiter.onAir)
    (hm : t.mixer = s.mixer) : t.unmoved :=
  ⟨by rw [hs]; exact h.1, (completionHolds_congr hs ho (by rw [hm])).trans h.2⟩

theorem run_unmoved (h : s.unmoved) : s.run = s := run_still h.2 (lateFailoverHolds_of_not_blind h.1)

/-- R151: a firing of NOTICE or LAMP. -/
theorem fire_plain (h : e.action = .notice ∨ e.action = .lamp) : FiredBy s (s.fire stamp k e) stamp k .done ∧
    Touches [.matchers, .ports, .lamps] s (s.fire stamp k e) ∧
    (∀ j, ((s.fire stamp k e).matchers.get j).matched = (s.matchers.get j).matched) ∧
    (s.fire stamp k e).lamps = if e.action = .lamp then { s.lamps with override := s.lamps.override.set e.lamp (some e.pattern) }
      else s.lamps := by
  have memory : ∀ j, ((s.firing stamp k).matchers.get j).matched = (s.matchers.get j).matched := by
    intro j
    change ((s.matchers.set k _).get j).matched = _
    by_cases hj : k = j
    · subst hj
      rw [Table.get_set_same]
    · rw [Table.get_set_ne _ _ _ _ hj]
  have first := touches_firing s stamp k
  rcases h with h | h
  · have done : (s.firing stamp k).perform e = (s.firing stamp k, .done) := by simp only [State.perform, h]
    obtain ⟨fired, same⟩ := firedBy_fire done (.refl _) fun j => rfl
    refine ⟨fired, ?_, fun j => (same j).trans (memory j), ?_⟩
    · rw [fire_eq, done]
      exact (first.mono (by decide)).setMatchers (by decide)
    · rw [fire_eq, done, h]
      rfl
  · have done : (s.firing stamp k).perform e = ((s.firing stamp k).setOverride e.lamp (some e.pattern), .done) := by
      simp only [State.perform, h]
    obtain ⟨fired, same⟩ := firedBy_fire done (.of_ports rfl) fun j => rfl
    refine ⟨fired, ?_, fun j => (same j).trans (memory j), ?_⟩
    · rw [fire_eq, done]
      exact ((first.mono (by decide)).setLamps (by decide)).setMatchers (by decide)
    · rw [fire_eq, done, h]
      rfl

/-- R99: the part at a firing of INHIBIT, the flag set and the standing tests made. -/
def State.inhibited (s : State) (stamp : Stamp) (k : Fin 8) (b : Bool) : State :=
  (s.firing stamp k).setArbiter { s.arbiter with inhibit := b }

/-- R99, R151: a firing of INHIBIT. -/
theorem fire_inhibit {b : Bool} (h : e.action = if b then .inhibitOn else .inhibitOff) (free : s.bank.exchange = none ∨ s.unmoved) :
    FiredBy s (s.fire stamp k e) stamp k .done ∧ Touches [.matchers] (s.inhibited stamp k b).run (s.fire stamp k e) ∧
    (∀ j, ((s.fire stamp k e).matchers.get j).matched = (s.matchers.get j).matched) ∧
    (s.fire stamp k e).lamps = s.lamps ∧ (s.fire stamp k e).arbiter.inhibit = b := by
  have done : (s.firing stamp k).perform e = ((s.inhibited stamp k b).run, .done) := by
    unfold State.perform
    cases b <;> rw [h] <;> rfl
  have touched : Touches [.matchers, .arbiter, .ports] s (s.inhibited stamp k b) :=
    ((touches_firing s stamp k).mono (by decide)).setArbiter (by decide)
  have ran : (s.inhibited stamp k b).run.matchers = (s.inhibited stamp k b).matchers ∧
      (s.inhibited stamp k b).run.lamps = (s.inhibited stamp k b).lamps ∧ (s.inhibited stamp k b).run.arbiter.inhibit = b := by
    rcases free with none | unmoved
    · have quiet : (s.inhibited stamp k b).bank.exchange = .none := by rw [touched.bank]; exact none
      have changes := touches_run_of_no_exchange quiet
      refine ⟨changes.matchers, changes.lamps, ?_⟩
      rw [run_of_no_exchange quiet]
      exact (arbRunWith_modes 4 _).2
    · rw [run_unmoved (unmoved_congr (s := s) (t := s.inhibited stamp k b) unmoved rfl rfl touched.mixer)]
      exact ⟨rfl, rfl, rfl⟩
  obtain ⟨ran, lamps, flag⟩ := ran
  have matchers : ∀ j, (s.inhibited stamp k b).run.matchers.get j = (s.firing stamp k).matchers.get j := fun j => by rw [ran]; rfl
  obtain ⟨fired, same⟩ := firedBy_fire done
    ((NoticesKept.of_ports rfl).trans ((Moves.refl (writes := False) (s.inhibited stamp k b)).run).noticesKept) fun j => by rw [matchers j]
  have last : Touches [.matchers] (s.inhibited stamp k b).run (s.fire stamp k e) := by
    rw [fire_eq, done]
    exact Touches.refl.setMatchers (by decide)
  refine ⟨fired, last, fun j => (same j).trans ?_, last.lamps.trans lamps, by rw [last.arbiter]; exact flag⟩
  · rw [matchers j]
    change ((s.matchers.set k _).get j).matched = _
    by_cases hj : k = j
    · subst hj
      rw [Table.get_set_same]
    · rw [Table.get_set_ne _ _ _ _ hj]

/-- Some matcher of the table names INHIBIT. -/
def Inhibits (table : Table 8 MatcherEntry) : Prop := ∃ j, (table.get j).action = .inhibitOn ∨ (table.get j).action = .inhibitOff

/-- What firings without EXCHANGE leave. -/
structure Fires (table : Table 8 MatcherEntry) (s v : State) : Prop where
  plain : ¬ Inhibits table → Touches [.matchers, .ports, .lamps] s v
  unmoved : s.unmoved → Touches [.arbiter, .matchers, .ports, .lamps] s v ∧ v.arbiter = { s.arbiter with inhibit := v.arbiter.inhibit }
  free : s.bank.exchange = none → Touches [.lines, .alignment, .arbiter, .mixer, .showClock, .tcOutput, .matchers, .ports, .lamps] s v
  matched : ∀ j, (v.matchers.get j).matched = (s.matchers.get j).matched

theorem Fires.refl (table : Table 8 MatcherEntry) (s : State) : Fires table s s :=
  ⟨fun _ => .refl, fun _ => ⟨.refl, rfl⟩, fun _ => .refl, fun _ => rfl⟩

/-- The actions that a list of firings without EXCHANGE can take, by what stands in the way of a restart of the standing tests. -/
def Quietly (table : Table 8 MatcherEntry) (s : State) : Prop := s.unmoved ∨ s.bank.exchange = none ∨ ¬ Inhibits table

theorem action_cases (h : e.action ≠ .exchange) : (e.action = .notice ∨ e.action = .lamp) ∨
    ∃ b : Bool, e.action = if b then .inhibitOn else .inhibitOff := by
  cases ha : e.action with
  | notice => exact .inl (.inl rfl)
  | lamp => exact .inl (.inr rfl)
  | exchange => exact absurd ha h
  | inhibitOn => exact .inr ⟨true, rfl⟩
  | inhibitOff => exact .inr ⟨false, rfl⟩

theorem Inhibits.of_action {b : Bool} (h : (table.get k).action = if b then .inhibitOn else .inhibitOff) : Inhibits table := by
  cases b
  · exact ⟨k, .inr h⟩
  · exact ⟨k, .inl h⟩

theorem Fires.free_or (hq : Quietly table s) (i : Inhibits table) (f : Fires table s v) : v.bank.exchange = none ∨ v.unmoved := by
  rcases hq with unmoved | none | not
  · obtain ⟨touched, arbiter⟩ := f.unmoved unmoved
    exact .inr (unmoved_congr unmoved (by rw [arbiter]) (by rw [arbiter]) touched.mixer)
  · exact .inl (by rw [(f.free none).bank]; exact none)
  · exact absurd i not

theorem Fires.fire (hx : ∀ j, (table.get j).action ≠ .exchange) (hq : Quietly table s) (f : Fires table s v) (k : Fin 8) :
    Fires table s (v.fire stamp k (table.get k)) ∧ FiredBy v (v.fire stamp k (table.get k)) stamp k .done := by
  rcases action_cases (hx k) with plain | ⟨b, hb⟩
  · obtain ⟨fired, touched, matched, -⟩ := fire_plain (s := v) (stamp := stamp) (k := k) plain
    refine ⟨⟨fun h => (f.plain h).trans touched, fun h => ?_, fun h => (f.free h).trans (touched.mono (by decide)),
      fun j => (matched j).trans (f.matched j)⟩, fired⟩
    obtain ⟨before, arbiter⟩ := f.unmoved h
    exact ⟨before.trans (touched.mono (by decide)), by rw [touched.arbiter]; exact arbiter⟩
  · have inhibits := Inhibits.of_action hb
    have free := f.free_or hq inhibits
    obtain ⟨fired, touched, matched, -⟩ := fire_inhibit (s := v) (stamp := stamp) (k := k) hb free
    have first : Touches [.matchers, .arbiter, .ports] v (v.inhibited stamp k b) :=
      ((touches_firing v stamp k).mono (by decide)).setArbiter (by decide)
    refine ⟨⟨fun h => absurd inhibits h, fun h => ?_, fun h => ?_, fun j => (matched j).trans (f.matched j)⟩, fired⟩
    · obtain ⟨before, arbiter⟩ := f.unmoved h
      have still := unmoved_congr h (t := v) (by rw [arbiter]) (by rw [arbiter]) before.mixer
      rw [run_unmoved (unmoved_congr still (t := v.inhibited stamp k b) rfl rfl first.mixer)] at touched
      refine ⟨(before.trans (first.mono (by decide))).trans (touched.mono (by decide)), ?_⟩
      rw [touched.arbiter]
      change { v.arbiter with inhibit := b } = _
      rw [arbiter]
      rfl
    · have before := f.free h
      have ran := touches_run_of_no_exchange (s := v.inhibited stamp k b) (by rw [first.bank, before.bank]; exact h)
      exact ((before.trans (first.mono (by decide))).trans (ran.mono (by decide))).trans (touched.mono (by decide))

theorem Fires.next (hx : ∀ j, (table.get j).action ≠ .exchange) (hq : Quietly table s) (f : Fires table s v) (k : Fin 8)
    (rest : List (Fin 8)) : Fires table s (fireNext stamp table later k rest v) ∧
      FiredBy v (fireNext stamp table later k rest v) stamp k .done := by
  rw [fireNext_of_other (hx k)]
  exact f.fire hx hq k

/-- R151: the lamp of a firing of LAMP carries its pattern unless a later matcher names that lamp. -/
theorem lamp_after {l : List (Fin 8)} (hx : ∀ j, (table.get j).action ≠ .exchange) (hq : Quietly table s) (sorted : l.Pairwise (· < ·))
    (hk : k ∈ l) (h : (table.get k).action = .lamp) (last : ∀ j, k < j → (table.get j).lamp ≠ (table.get k).lamp) :
    (State.fireAll stamp table later l s).lamps.override.get (table.get k).lamp = some (table.get k).pattern := by
  refine fireAll_last (I := Fires table s) (P := fun v => v.lamps.override.get (table.get k).lamp = some (table.get k).pattern)
    (fun j rest v f => (f.next hx hq j rest).1) (fun rest v _ => ?_) (fun j rest v hj f hp => ?_) s sorted hk (.refl table s)
  · rw [fireNext_of_other (hx k), (fire_plain (.inr h)).2.2.2, if_pos h]
    exact Table.get_set_same _ _ _
  · rw [fireNext_of_other (hx j)]
    rcases action_cases (hx j) with plain | ⟨b, hb⟩
    · rw [(fire_plain plain).2.2.2]
      split
      · exact (Table.get_set_ne _ _ _ _ (last j hj)).trans hp
      · exact hp
    · rw [(fire_inhibit hb (f.free_or hq (.of_action hb))).2.2.2.1]
      exact hp

/-- R99: the inhibit flag is as the last INHIBIT action leaves it. -/
theorem inhibit_after {l : List (Fin 8)} {b : Bool} (hx : ∀ j, (table.get j).action ≠ .exchange) (hq : Quietly table s)
    (sorted : l.Pairwise (· < ·)) (hk : k ∈ l) (h : (table.get k).action = if b then .inhibitOn else .inhibitOff)
    (last : ∀ j, k < j → (table.get j).action ≠ if b then .inhibitOff else .inhibitOn) :
    (State.fireAll stamp table later l s).arbiter.inhibit = b := by
  refine fireAll_last (I := Fires table s) (P := fun v => v.arbiter.inhibit = b) (fun j rest v f => (f.next hx hq j rest).1)
    (fun rest v f => ?_) (fun j rest v hj f hp => ?_) s sorted hk (.refl table s)
  · rw [fireNext_of_other (hx k)]
    exact (fire_inhibit h (f.free_or hq (.of_action h))).2.2.2.2
  · rw [fireNext_of_other (hx j)]
    rcases action_cases (hx j) with plain | ⟨c, hc⟩
    · rw [(fire_plain plain).2.1.arbiter]
      exact hp
    · rw [(fire_inhibit hc (f.free_or hq (.of_action hc))).2.2.2.2]
      have other := last j hj
      rw [hc] at other
      cases b <;> cases c <;> simp_all

/-- R89: a changeover toward rig `r`, which is not down, runs on or is complete. -/
def OnAirBy (r : Rig) (v : State) : Prop := v.arbiter.onAir = some r ∧ (v.arbiter.state = .changing ∨ v.arbiter.state = .steady)

theorem onAirBy_run (h : OnAirBy r v) (up : (v.handed r).down = false) (none : v.bank.exchange = none) : OnAirBy r v.run := by
  obtain ⟨onAir, state⟩ := h
  cases hc : v.completionHolds with
  | true =>
    obtain ⟨ran, steady⟩ := run_completes onAir hc none up
    rw [ran]
    refine ⟨?_, .inr steady⟩
    rw [(completed_completed onAir).arbiter]
    exact onAir
  | false =>
    rw [run_still hc (lateFailoverHolds_of_not_blind (by rcases state with h | h <;> rw [h] <;> exact ArbState.noConfusion))]
    exact ⟨onAir, state⟩

/-- R94: in BLIND all terms of the late failover but the inhibit flag hold, the standby being rig `r`. -/
def AwaitsFailover (r : Rig) (v : State) : Prop := v.arbiter.state = .blind ∧ v.arbiter.onAir = some r.other ∧ v.arbiter.mode = .auto ∧
  (v.bank.front.song.get (songIndex v.arbiter.song)).auto = true ∧ v.arbiter.eligible = true

/-- R94, R99: the inhibit flag set in BLIND brings nothing, and cleared it brings the late failover. -/
theorem awaits_inhibited {b : Bool} (h : AwaitsFailover r v) (up : (v.handed r).down = false) (none : v.bank.exchange = none) :
    let y := (v.inhibited stamp k b).run
    (b = true → AwaitsFailover r y) ∧ (b = false → OnAirBy r y) := by
  obtain ⟨blind, onAir, mode, song, eligible⟩ := h
  intro y
  refine ⟨fun hb => ?_, fun hb => ?_⟩
  · have still : y = v.inhibited stamp k b := by
      refine run_still (completionHolds_of_not_changing ?_) ?_
      · change v.arbiter.state ≠ _
        rw [blind]
        exact ArbState.noConfusion
      · rw [Bool.eq_false_iff]
        intro holds
        obtain ⟨-, -, off, -⟩ := lateFailoverHolds_iff.mp holds
        change b = false at off
        rw [hb] at off
        cases off
    rw [still]
    exact ⟨blind, onAir, mode, song, eligible⟩
  · have ran := lateFailover_run (s := v.inhibited stamp k b) (r := r)
      (lateFailoverHolds_iff.mpr ⟨blind, mode, hb, song, eligible⟩) onAir up none
    refine ⟨ran.begun.1.1, ran.outcome.imp (fun h => h.1) fun h => ?_⟩
    rw [h.1]
    change (if (v.handed r).down then ArbState.blind else .steady) = _
    rw [up]
    rfl

/-- R99: an INHIBIT action that clears the flag in BLIND puts the standby on air. -/
theorem onAir_after {l : List (Fin 8)} (hx : ∀ j, (table.get j).action ≠ .exchange) (none : s.bank.exchange = none)
    (sorted : l.Pairwise (· < ·)) (hk : k ∈ l) (h : (table.get k).action = .inhibitOff) (awaits : AwaitsFailover r s)
    (up : (s.handed r).down = false) : (State.fireAll stamp table later l s).arbiter.onAir = some r := by
  have hq : Quietly table s := .inr (.inl none)
  have facts : ∀ v, Fires table s v → (v.handed r).down = false ∧ v.bank.exchange = .none := by
    intro v f
    have touched := f.free none
    refine ⟨?_, by rw [touched.bank]; exact none⟩
    unfold State.handed
    rw [touched.instantHealth]
    exact up
  have through : ∀ v w : State, Touches [.matchers] v w → (AwaitsFailover r v → AwaitsFailover r w) ∧ (OnAirBy r v → OnAirBy r w) := by
    intro v w touched
    unfold AwaitsFailover OnAirBy
    rw [touched.arbiter, touched.bank]
    exact ⟨id, id⟩
  have inhibit : ∀ (v : State) j (b : Bool), Fires table s v → (table.get j).action = (if b then .inhibitOn else .inhibitOff) →
      AwaitsFailover r v ∨ OnAirBy r v → (b = true → AwaitsFailover r (v.fire stamp j (table.get j)) ∨
        OnAirBy r (v.fire stamp j (table.get j))) ∧ (b = false → OnAirBy r (v.fire stamp j (table.get j))) := by
    intro v j b f hb either
    obtain ⟨still, free⟩ := facts v f
    have last := (fire_inhibit (s := v) (stamp := stamp) (k := j) hb (f.free_or hq (.of_action hb))).2.1
    obtain ⟨waits, air⟩ := through _ _ last
    rcases either with waiting | onAir
    · obtain ⟨on, off⟩ := awaits_inhibited (stamp := stamp) (k := j) (b := b) waiting still free
      exact ⟨fun h => .inl (waits (on h)), fun h => air (off h)⟩
    · have ran : OnAirBy r (v.inhibited stamp j b).run := onAirBy_run (v := v.inhibited stamp j b) onAir still free
      exact ⟨fun _ => .inr (air ran), fun _ => air ran⟩
  have plain : ∀ (v : State) j, (table.get j).action = .notice ∨ (table.get j).action = .lamp →
      (AwaitsFailover r v → AwaitsFailover r (v.fire stamp j (table.get j))) ∧ (OnAirBy r v → OnAirBy r (v.fire stamp j (table.get j))) := by
    intro v j hj
    have touched := (fire_plain (s := v) (stamp := stamp) (k := j) hj).2.1
    unfold AwaitsFailover OnAirBy
    rw [touched.arbiter, touched.bank]
    exact ⟨id, id⟩
  refine (fireAll_last (I := fun v => Fires table s v ∧ (AwaitsFailover r v ∨ OnAirBy r v)) (P := OnAirBy r)
    (fun j rest v ⟨f, either⟩ => ⟨(f.next hx hq j rest).1, ?_⟩) (fun rest v ⟨f, either⟩ => ?_) (fun j rest v hj ⟨f, _⟩ hp => ?_) s sorted hk
    ⟨.refl table s, .inl awaits⟩).1
  · rw [fireNext_of_other (hx j)]
    rcases action_cases (hx j) with hj | ⟨b, hb⟩
    · obtain ⟨waits, air⟩ := plain v j hj
      exact either.imp waits air
    · obtain ⟨on, off⟩ := inhibit v j b f hb either
      cases b
      · exact .inr (off rfl)
      · exact on rfl
  · rw [fireNext_of_other (hx k)]
    exact (inhibit v k false f h either).2 rfl
  · rw [fireNext_of_other (hx j)]
    rcases action_cases (hx j) with plainly | ⟨b, hb⟩
    · exact (plain v j plainly).2 hp
    · obtain ⟨still, free⟩ := facts v f
      have last := (fire_inhibit (s := v) (stamp := stamp) (k := j) hb (f.free_or hq (.of_action hb))).2.1
      exact (through _ _ last).2 (onAirBy_run (v := v.inhibited stamp j b) hp still free)

/-! ### The matchers examine a beacon (R147 to R150) -/

theorem examines_iff {src : MatchSource} {onAir : Option Rig} : examines src onAir r = true ↔
    src = .rigA ∧ r = .a ∨ src = .rigB ∧ r = .b ∨ src = .onAir ∧ onAir = some r := by
  cases src <;> simp [examines]

/-- R148: the pattern test of a matcher on a beacon. -/
theorem patternOk_iff (e : MatcherEntry) (bytes : List Byte) : patternOk e bytes = true ↔ e.enable = true ∧ maskedBytes e.mask bytes ≠ [] ∧
    crc16 (maskedBytes e.mask bytes) = e.crc ∧ (maskedBytes e.mask bytes).getLast? = some e.lastByte := by
  simp only [patternOk, Bool.and_eq_true, beq_iff_eq]
  constructor
  · rintro ⟨⟨enable, crc⟩, last⟩
    refine ⟨enable, fun none => ?_, crc, last⟩
    rw [none] at last
    cases last
  · rintro ⟨enable, -, crc, last⟩
    exact ⟨⟨enable, crc⟩, last⟩

/-- R149: a matcher matches by its pattern and, where it is chained, by the memory of the matcher before it. -/
theorem matcherMatches_iff (s : State) (k : Fin 8) (bytes : List Byte) : s.matcherMatches k bytes = true ↔
    patternOk (s.bank.front.matcher.get k) bytes = true ∧ ((s.bank.front.matcher.get k).chain = true → ∃ j : Fin 8, j.val + 1 = k.val ∧
      (s.bank.front.matcher.get j).source = (s.bank.front.matcher.get k).source ∧ (s.matchers.get j).matched = true) := by
  unfold State.matcherMatches
  dsimp only
  rw [Bool.and_eq_true, Bool.or_eq_true, Bool.not_eq_true']
  refine and_congr_right fun _ => ?_
  by_cases chain : (s.bank.front.matcher.get k).chain = true
  · rw [chain]
    simp only [Bool.true_eq_false, false_or, true_implies]
    by_cases first : k.val = 0
    · rw [dif_pos first]
      exact iff_of_false Bool.noConfusion fun ⟨j, hj, _⟩ => by omega
    · rw [dif_neg first, Bool.and_eq_true, beq_iff_eq]
      constructor
      · exact fun both => ⟨⟨k.val - 1, by omega⟩, by simp only; omega, both⟩
      · rintro ⟨j, hj, both⟩
        have same : (⟨k.val - 1, by omega⟩ : Fin 8) = j := Fin.ext (by simp only; omega)
        rw [same]
        exact both
  · exact iff_of_true (.inl (by simpa using chain)) fun h => absurd h chain

/-- R147: the memories of the matchers that examine a beacon. -/
def State.remembered (s : State) (x : Acceptance) : State := s.setMatchers (s.matchers.update fun k m =>
  if examines (s.bank.front.matcher.get k).source s.arbiter.onAir x.rig then { m with matched := s.matcherMatches k x.bytes } else m)

/-- R150: the matchers that fire on a beacon, in ascending order. -/
def State.firingOn (s : State) (x : Acceptance) : List (Fin 8) := (List.finRange 8).filter fun k =>
  examines (s.bank.front.matcher.get k).source s.arbiter.onAir x.rig && s.matcherFires k x.bytes

theorem matchersRead_eq (s : State) (x : Acceptance) : s.matchersRead x = State.fireAll x.new.stamp s.bank.front.matcher
    s.instantHealth.coming.exchange (s.firingOn x) (s.remembered x) := rfl

theorem mem_firingOn {x : Acceptance} : k ∈ s.firingOn x ↔
    examines (s.bank.front.matcher.get k).source s.arbiter.onAir x.rig = true ∧ s.matcherFires k x.bytes = true := by
  simp [State.firingOn]

theorem firingOn_sorted (s : State) (x : Acceptance) : (s.firingOn x).Pairwise (· < ·) := List.Pairwise.filter _ (List.pairwise_lt_finRange 8)

theorem firingOn_nodup (s : State) (x : Acceptance) : (s.firingOn x).Nodup := (List.nodup_finRange 8).filter _

theorem remembered_get (s : State) (x : Acceptance) (k : Fin 8) : (s.remembered x).matchers.get k = { s.matchers.get k with
    matched := if examines (s.bank.front.matcher.get k).source s.arbiter.onAir x.rig then s.matcherMatches k x.bytes
      else (s.matchers.get k).matched } := by
  refine (Table.get_update _ _ _).trans ?_
  split <;> rfl

theorem touches_remembered (s : State) (x : Acceptance) : Touches [.matchers] s (s.remembered x) := Touches.refl.setMatchers (by decide)

/-! ### One EXCHANGE among the actions -/

theorem fireNext_exchange {rest : List (Fin 8)} (h : (table.get k).action = .exchange) :
    FiredBy s (fireNext stamp table later k rest s) stamp k s.matcherExchange.2 ∧
      (fireNext stamp table later k rest s).bank = s.matcherExchange.1.bank := by
  generalize hy : (if (table.get k).action == .exchange then s.setComing { s.instantHealth.coming with
    exchange := later || rest.any fun j => (table.get j).action == .exchange } else s) = y
  have coming : Touches [.health] s y := by
    rw [← hy]
    split
    · exact Touches.refl.setComing (by decide)
    · exact .refl
  have next : fireNext stamp table later k rest s = y.fire stamp k (table.get k) := by rw [← hy]; rfl
  have first := touches_firing y stamp k
  obtain ⟨answer, bank⟩ := matcherExchange_congr (s := s) (t := y.firing stamp k) (by rw [first.arbiter, coming.arbiter])
    (by rw [first.bank, coming.bank])
  have done : (y.firing stamp k).perform (table.get k) = ((y.firing stamp k).matcherExchange.1, s.matcherExchange.2) := by
    rw [← answer]
    simp only [State.perform, h]
  have kept : NoticesKept (y.firing stamp k) (y.firing stamp k).matcherExchange.1 ∧ ∀ j, (y.firing stamp k).matcherExchange.1.matchers.get j =
      { (y.firing stamp k).matchers.get j with matched := ((y.firing stamp k).matcherExchange.1.matchers.get j).matched } := by
    rcases matcherExchange_cases (y.firing stamp k) with same | due | ⟨-, notices, matchers⟩
    · rw [same]
      exact ⟨.refl _, fun j => rfl⟩
    · rw [due]
      exact ⟨.of_ports rfl, fun j => rfl⟩
    · exact ⟨notices, fun j => by rw [matchers j]⟩
  obtain ⟨fired, -⟩ := firedBy_fire done kept.1 kept.2
  rw [next]
  refine ⟨⟨?_, fired.stamped, fired.result, fun j hj => ?_, fired.noted, ?_⟩, ?_⟩
  · rw [fired.fires, coming.matchers]
  · rw [fired.others j hj, coming.matchers]
  · exact (NoticesKept.of_ports coming.ports).trans fired.notices
  · rw [fire_eq, done]
    exact bank

/-- R152: a list of firings of which one is EXCHANGE and the others NOTICE or LAMP. -/
theorem fireAll_exchange {l : List (Fin 8)} (h : (table.get k).action = .exchange)
    (others : ∀ j, j ≠ k → (table.get j).action = .notice ∨ (table.get j).action = .lamp) (nodup : l.Nodup) (hk : k ∈ l) :
    let t := State.fireAll stamp table later l s
    t.bank = s.matcherExchange.1.bank ∧ ∀ j ∈ l, (t.matchers.get j).fires = stop255 (s.matchers.get j).fires ∧
      (t.matchers.get j).lastResult = some (if j = k then s.matcherExchange.2 else .done) ∧ Noted t .matcherFired := by
  have step : ∀ j (rest : List (Fin 8)) (v : State), j ∉ rest →
      ((k ∈ j :: rest → v.bank = s.bank ∧ v.arbiter = s.arbiter) ∧ (k ∉ j :: rest → v.bank = s.matcherExchange.1.bank)) →
      ((k ∈ rest → (fireNext stamp table later j rest v).bank = s.bank ∧ (fireNext stamp table later j rest v).arbiter = s.arbiter) ∧
        (k ∉ rest → (fireNext stamp table later j rest v).bank = s.matcherExchange.1.bank)) ∧
      FiredBy v (fireNext stamp table later j rest v) stamp j (if j = k then s.matcherExchange.2 else .done) := by
    intro j rest v fresh ⟨before, after⟩
    by_cases same : j = k
    · subst same
      obtain ⟨bank, arbiter⟩ := before (by simp)
      obtain ⟨answer, result⟩ := matcherExchange_congr (s := s) (t := v) (by rw [arbiter]) bank
      obtain ⟨fired, left⟩ := fireNext_exchange (s := v) (stamp := stamp) (later := later) (rest := rest) h
      rw [answer] at fired
      rw [if_pos rfl]
      exact ⟨⟨fun h => absurd h fresh, fun _ => left.trans result⟩, fired⟩
    · have plain := others j same
      rw [fireNext_of_other (by rcases plain with h | h <;> rw [h] <;> decide), if_neg same]
      obtain ⟨fired, touched, -⟩ := fire_plain (s := v) (stamp := stamp) (k := j) plain
      rw [touched.bank, touched.arbiter]
      exact ⟨⟨fun h => before (List.mem_cons_of_mem _ h), fun h => after (by simp [Ne.symm same, h])⟩, fired⟩
  obtain ⟨⟨-, bank⟩, -, -, all⟩ := fireAll_fired (later := later)
    (I := fun rest v => (k ∈ rest → v.bank = s.bank ∧ v.arbiter = s.arbiter) ∧ (k ∉ rest → v.bank = s.matcherExchange.1.bank))
    (result := fun j => if j = k then s.matcherExchange.2 else .done) step l s nodup ⟨fun _ => ⟨rfl, rfl⟩, fun h => absurd hk h⟩
  exact ⟨bank (by simp), fun j hj => ⟨(all j hj).1, (all j hj).2.2⟩⟩

/-- Settles O56: the tests of each matcher, the firings without EXCHANGE (`Fires`), the EXCHANGE action's answers, and one EXCHANGE among
the actions. -/
theorem matchersExamineTogether : Obligations.MatchersExamineTogether := by
  refine ⟨?_, ?_, ?_⟩
  · intro s x k action e m xs pass chained examined fires quiet inhibits t hx ok
    have isExamined : examines e.source s.arbiter.onAir x.rig = true ↔ examined := examines_iff
    have isMatch : s.matcherMatches k x.bytes = true ↔ pass ∧ chained := by
      rw [matcherMatches_iff, patternOk_iff]
      rfl
    have isFiring : k ∈ s.firingOn x ↔ fires := by
      rw [mem_firingOn, isExamined]
      unfold State.matcherFires
      rw [Bool.and_eq_true, isMatch, Bool.not_eq_true', Bool.and_eq_false_iff]
      refine and_congr_right fun _ => ?_
      rw [and_assoc]
      refine and_congr_right fun _ => and_congr_right fun _ => ?_
      rw [← Bool.not_eq_true]
      exact imp_iff_not_or.symm
    have touched := touches_remembered s x
    have quietly : Quietly s.bank.front.matcher (s.remembered x) := ok
    have read : t = State.fireAll x.new.stamp s.bank.front.matcher s.instantHealth.coming.exchange (s.firingOn x) (s.remembered x) :=
      matchersRead_eq s x
    obtain ⟨left, -, others, all⟩ := fireAll_fired (stamp := x.new.stamp) (table := s.bank.front.matcher)
      (later := s.instantHealth.coming.exchange) (I := fun _ v => Fires s.bank.front.matcher (s.remembered x) v) (result := fun _ => .done)
      (fun j rest v _ f => f.next hx quietly j rest) (s.firingOn x) (s.remembered x) (firingOn_nodup s x) (.refl _ _)
    have lamp := fun hk hl => lamp_after (stamp := x.new.stamp) (later := s.instantHealth.coming.exchange) (k := k) hx quietly
      (firingOn_sorted s x) hk hl
    have on := fun hk hl => inhibit_after (b := true) (stamp := x.new.stamp) (later := s.instantHealth.coming.exchange) (k := k) hx quietly
      (firingOn_sorted s x) hk hl
    have off := fun hk hl => inhibit_after (b := false) (stamp := x.new.stamp) (later := s.instantHealth.coming.exchange) (k := k) hx
      quietly (firingOn_sorted s x) hk hl
    have air := fun r none hk hl => onAir_after (r := r) (s := s.remembered x) (stamp := x.new.stamp)
      (later := s.instantHealth.coming.exchange) (k := k) hx none (firingOn_sorted s x) hk hl
    rw [← read] at left others all lamp on off air
    have own := remembered_get s x k
    refine ⟨fun not => (touched.mono (by decide)).trans (left.plain not), fun q => ?_, ?_, fun h => ?_, fun h => ?_⟩
    · obtain ⟨blocks, arbiter⟩ := left.unmoved q
      exact ⟨(touched.mono (by decide)).trans blocks, arbiter⟩
    · rw [left.matched k, own]
      change (if examines e.source s.arbiter.onAir x.rig = true then s.matcherMatches k x.bytes else m.matched) = true ↔ _
      by_cases he : examined
      · rw [if_pos (isExamined.mpr he), if_pos he]
        exact isMatch
      · rw [if_neg (mt isExamined.mp he), if_neg he]
    · have hk := isFiring.mpr h
      obtain ⟨count, stamped, result, noted⟩ := all k hk
      rw [own] at count
      exact ⟨count, stamped, result, noted, fun hl last => lamp hk hl last, fun hl last => on hk hl last, fun hl last =>
        ⟨off hk hl last, fun r blind onAir mode song eligible up none => air r none hk hl ⟨blind, onAir, mode, song, eligible⟩ up⟩⟩
    · rw [others k (mt isFiring.mp h), own]
      exact ⟨rfl, rfl, rfl⟩
  · intro s a
    refine ⟨matcherExchange_result s, matcherExchange_refused, fun due now => matcherExchange_now now, fun done pending => ?_⟩
    obtain ⟨changing, still⟩ := matcherExchange_leaves done pending
    refine ⟨changing, fun h => ?_⟩
    obtain ⟨noted, groups, matchers, bank, -⟩ := still h
    exact ⟨noted, groups, fun k => by rw [matchers k], bank⟩
  · intro s x k action t ex fires h others
    have touched := touches_remembered s x
    obtain ⟨bank, all⟩ := fireAll_exchange (s := s.remembered x) (stamp := x.new.stamp) (later := s.instantHealth.coming.exchange) h others
      (firingOn_nodup s x) (mem_firingOn.mpr ⟨ex, fires⟩)
    obtain ⟨answer, result⟩ := matcherExchange_congr (s := s) (t := s.remembered x) (by rw [touched.arbiter]) touched.bank
    rw [← matchersRead_eq] at bank all
    rw [answer] at all
    obtain ⟨count, results, noted⟩ := all k (mem_firingOn.mpr ⟨ex, fires⟩)
    rw [if_pos rfl] at results
    rw [remembered_get] at count
    refine ⟨bank.trans result, results, count, noted, fun j hj ex' fires' => ?_⟩
    obtain ⟨count', results', -⟩ := all j (mem_firingOn.mpr ⟨ex', fires'⟩)
    rw [if_neg hj] at results'
    rw [remembered_get] at count'
    exact ⟨count', results'⟩

end Sys2Proof.Machine

/-! PROOFS. The failure of the on-air rig and the arbiter's reading of a beacon (sections 5.3 to 5.5). -/

namespace Sys2Proof.Machine

open Sys2Proof

/- In order: bodies elaborated side by side while the kernel still checks the text above each hold a thread's stack. -/
set_option Elab.async false

variable {s t u v w x p : State} {r k : Rig} {run : State → State}

/-! ### A health state handed on by itself (R55) -/

theorem handOneWith_falls (falls : (v.instantHealth.handing.get r).falls (v.health.get r).state = true) :
    v.handOneWith run r = run ((v.handedOn r).goesDown r) := by
  have fresh : (v.health.get r).state ≠ (v.instantHealth.handing.get r).handed := by
    intro same
    rw [same] at falls
    simp only [Handing.falls, Bool.and_eq_true, Bool.not_eq_true'] at falls
    obtain ⟨⟨down, -⟩, up⟩ := falls
    rw [up] at down
    cases down
  have still : (v.instantHealth.handing.get r).falls ((v.handedOn r).handed r) = true := by
    rw [(handedOn_handedOn v r).handed]
    exact falls
  rw [State.handOneWith]
  exact (if_neg fresh).trans (congrArg run (if_pos still))

/-- R36: a rig that goes down leaves the other with no DIVERGED. -/
theorem reDivergedBy_of_down {a : HealthState} (hd : a.down = true) : (s.reDivergedBy r a).health = s.health ∧
    ((s.parsers.get r).diverged = false → s.reDivergedBy r a = s) := by
  have never : s.divergedBy r a = false := by simp [State.divergedBy, hd]
  unfold State.reDivergedBy
  rw [never]
  dsimp only
  split
  · exact ⟨rfl, fun _ => rfl⟩
  · rename_i moved
    exact ⟨rfl, fun h => absurd h.symm moved⟩

theorem handedOn_of_down (hd : (v.health.get r).state.down = true) : (v.handedOn r).health = v.health ∧
    ((v.parsers.get r.other).diverged = false → Touches [.health, .arbiter, .ports] v (v.handedOn r)) := by
  generalize hy : (v.setHanding r { v.instantHealth.handing.get r with handed := (v.health.get r).state }).raiseAll .healthChanged = y
  have touched : Touches [.health, .ports] v y := by
    rw [← hy]
    exact (Touches.refl.setHanding (by decide)).raiseAll (by decide)
  have handed : y.handed r = (v.health.get r).state := by
    rw [← hy]
    cases r <;> rfl
  have down : (y.handed r.other.other).down = true := by rw [Rig.other_other, handed]; exact hd
  obtain ⟨health, same⟩ := reDivergedBy_of_down (s := y) (r := r.other) down
  have result : v.handedOn r = (y.reDiverged r.other).reEligible := by rw [← hy]; rfl
  rw [result]
  refine ⟨health.trans (by rw [← hy]; rfl), fun none => ?_⟩
  rw [State.reDiverged, same (by rw [touched.parsers]; exact none)]
  exact (touched.mono (by decide)).reEligible (by decide)

/-- R55: what the handing on of a rig's new state leaves, and what the arbiter makes of it. -/
theorem handOneWith_leaves (hr : Standing run) (none : v.bank.exchange = none) (fresh : v.handed r ≠ (v.health.get r).state) :
    HandedOn v (v.handedOn r) r ∧ Touches changeBlocks (v.handedOn r) (v.handOneWith run r) ∧
      NoticesKept (v.handedOn r) (v.handOneWith run r) := by
  have on := handedOn_handedOn v r
  have changes : ∀ y, Touches changeBlocks (v.handedOn r) y ∧ NoticesKept (v.handedOn r) y →
      Touches changeBlocks (v.handedOn r) (run y) ∧ NoticesKept (v.handedOn r) (run y) := fun y ⟨touched, notices⟩ =>
    ⟨touched.trans (hr.touched y (by rw [touched.bank, on.touched.bank]; exact none)), notices.trans (hr.notices y)⟩
  have one : v.handOneWith run r = run (if (v.instantHealth.handing.get r).falls ((v.handedOn r).handed r) then (v.handedOn r).goesDown r
      else if (v.handedOn r).handed r = .healthy then (v.handedOn r).comesUp r else v.handedOn r) := if_neg fresh.symm
  refine ⟨on, ?_⟩
  rw [one]
  refine changes _ ?_
  split
  · exact ⟨Touches.refl.goesDown (by decide), ((Moves.refl (writes := False) _).goesDown r).noticesKept⟩
  · split
    · exact ⟨Touches.refl.comesUp (by decide), ((Moves.refl (writes := False) _).comesUp r).noticesKept⟩
    · exact ⟨.refl, .refl _⟩

/-- R36, R55: a going down moves no other rig's health, so that nothing of the other is left to be handed on. -/
theorem handHealthWith_of_down (hr : Standing run) (none : v.bank.exchange = none) (hd : (v.health.get r).state.down = true)
    (fresh : v.handed r ≠ (v.health.get r).state) (other : v.handed r.other = (v.health.get r.other).state) :
    v.handHealthWith run r = v.handOneWith run r := by
  obtain ⟨on, touched, -⟩ := handOneWith_leaves hr none fresh
  have rests : (v.handOneWith run r).handed r.other = ((v.handOneWith run r).health.get r.other).state := by
    rw [touched.health, (handedOn_of_down hd).1, ← other, ← on.other]
    unfold State.handed
    rw [touched.instantHealth]
  refine (if_neg fresh.symm).trans ?_
  dsimp only
  split
  · rfl
  · exact State.handOneWith_unchanged run rests.symm

/-! ### The going down of the on-air rig -/

/-- R55, R76: the on-air rig's going down has been handed on, the arbiter still to take it. -/
structure Fallen (s w : State) (r : Rig) : Prop where
  touched : Touches [.health, .arbiter, .ports] s w
  arbiter : w.arbiter = { s.arbiter with eligible := s.eligibleNow }
  other : w.handed r.other = s.handed r.other
  notices : NoticesKept s w

theorem Health.settleQualifying_fails {h : Health} {f : Table 11 FaultEntry} (qualifies : h.qualifying.nonempty = true)
    (up : h.state = .healthy ∨ h.state = .suspect) :
    h.settleQualifying f = { h with
      state := .failed, failures := stop255 h.failures, history := h.history.union h.qualifying, qualifying := noKinds } := by
  unfold Health.settleQualifying Health.qualify
  rw [if_pos qualifies]
  rcases up with up | up <;> rw [up] <;> rfl

/-- R52, R55: a qualification that fails the on-air rig, no tick end, absence or guard decision standing open. -/
theorem takeQualification_falls (onAir : s.arbiter.onAir = some r) (qualifies : (s.health.get r).qualifying.nonempty = true)
    (up : (s.health.get r).state = .healthy ∨ (s.health.get r).state = .suspect)
    (before : (s.instantHealth.handing.get r).before.down = false) (last : (s.instantHealth.handing.get r).handed.down = false)
    (none : s.bank.exchange = none) (same : (s.parsers.get r.other).diverged = false) (tick : s.tickDue = false)
    (absence : (s.links.get r).absenceDue = false) (unguarded : s.instantHealth.unguarded = Option.none)
    (other : s.handed r.other = (s.health.get r.other).state) :
    ∃ w, Fallen s w r ∧ s.takeQualification r = (w.goesDown r).run := by
  have ne : r.other ≠ r := by cases r <;> decide
  generalize hv : s.moveHealth r (fun h => h.settleQualifying s.bank.front.fault) = v
  have touched : Touches [.health] s v := by rw [← hv]; exact Touches.refl.moveHealth (by decide)
  have health : v.health = s.health.set r ((s.health.get r).settleQualifying s.bank.front.fault) := by
    rw [← hv]
    exact State.moveHealth_health ..
  have instant : v.instantHealth = s.instantHealth := by
    rw [← hv, State.moveHealth_of_none _ unguarded]
    rfl
  have failed : (v.health.get r).state = .failed := by
    rw [health, PerRig.get_set, if_pos rfl, Health.settleQualifying_fails qualifies up]
  have down : (v.health.get r).state.down = true := by rw [failed]; rfl
  have falls : (v.instantHealth.handing.get r).falls (v.health.get r).state = true := by
    rw [instant, Handing.falls, down, before, last]
    rfl
  have fresh : v.handed r ≠ (v.health.get r).state := by
    unfold State.handed
    rw [instant]
    intro equal
    rw [equal, down] at last
    cases last
  have settled : v.unsettled r = false := by
    rw [State.unsettled_failed failed (by rw [touched.tickDue]; exact tick), State.guardHeld_of_none (by rw [instant]; exact unguarded),
      touched.links, absence]
    rfl
  have handed : v.handed r.other = (v.health.get r.other).state := by
    rw [health, PerRig.get_set, if_neg ne, ← other]
    unfold State.handed
    rw [instant]
  have on := handedOn_handedOn v r
  have moved := (handedOn_of_down down).2 (by rw [touched.parsers]; exact same)
  have whole : Touches [.health, .arbiter, .ports] s (v.handedOn r) := (touched.mono (by decide)).trans moved
  have kept : (v.handedOn r).handed r.other = s.handed r.other := by
    rw [on.other]
    unfold State.handed
    rw [instant]
  refine ⟨v.handedOn r, ⟨whole, ?_, kept, (NoticesKept.of_ports touched.ports).trans on.notices⟩, ?_⟩
  · have standby : (v.handedOn r).arbiter.standby = r.other ∧ s.arbiter.standby = r.other := by
      unfold Arbiter.standby
      rw [on.arbiter, touched.arbiter, onAir]
      exact ⟨rfl, rfl⟩
    have eligible : (v.handedOn r).eligibleNow = s.eligibleNow := by
      unfold State.eligibleNow
      rw [standby.1, standby.2]
      dsimp only
      rw [kept, whole.alignment, whole.links]
    rw [on.arbiter, touched.arbiter, eligible]
  · rw [State.takeQualification]
    refine (if_pos qualifies).trans ?_
    rw [hv, State.handSettled, State.handSettledWith_eq, settled, if_neg Bool.false_ne_true,
      handHealthWith_of_down standing_run (by rw [touched.bank]; exact none) down fresh handed, handOneWith_falls falls]

/-- R82, R83, R88: a changeover that begins once a health state is handed on is one of the part before. -/
theorem ChangeoverBegun.of_fallen (f : Fallen s w r) (h : ChangeoverBegun w t k) : ChangeoverBegun s t k := by
  obtain ⟨⟨onAir, song, eligible, settled, noted, showClock, tcOutput, notices⟩, sequence, u, groups, running, blind⟩ := h
  have touched := f.touched
  have clock : ClockAgrees k (s.setArbiter { s.arbiter with state := t.arbiter.state, onAir := some k }).clockReevaluate
      (w.setArbiter { w.arbiter with state := t.arbiter.state, onAir := some k }).clockReevaluate := by
    refine ClockAgrees.clockReevaluate ⟨touched.clock, touched.showClock, touched.tcOutput, congrArg _ touched.bank,
      congrArg _ touched.bank, congrArg (·.get k) touched.parsers, ?_, rfl, rfl, Iff.rfl, f.notices⟩
    change (w.lines.get k).delay = (s.lines.get k).delay
    rw [touched.lines]
  rw [touched.parsers, f.arbiter] at song
  unfold StandbySettled at settled
  rw [touched.alignment, touched.lines] at settled
  rw [f.arbiter] at sequence
  rw [touched.bank] at groups blind
  exact ⟨⟨onAir, song, eligible, settled, noted, showClock.trans clock.showClock, tcOutput.trans clock.tcOutput,
    clock.notices.trans notices⟩, sequence, u,
    groupsRetargeted_congr groups rfl rfl rfl touched.mixer.symm rfl, running, blind⟩

/-! ### The arbiter's reading of a beacon -/

/-- R87: the arbiter takes a handover request of the on-air rig. -/
def State.handoverRequested (s : State) : State :=
  match s.arbiter.state with
  | .stopped => s
  | .steady => if s.autoPermitted && s.arbiter.eligible then (s.enterChanging .handover).run else s.raiseAll .handoverRefused
  | .changing => s.raiseAll .handoverRefused
  | .blind => s.raiseAll .handoverRefused

/-- R82, R87, R94: the song of a beacon of the on-air rig is in force and the standing tests are made on it, the request after them. -/
theorem arbiterReads_onAir {x : Acceptance} (onAir : s.arbiter.onAir = some x.rig) : s.arbiterReads x =
    if x.handover && (s.setArbiter { s.arbiter with song := x.new.song }).run.arbiter.onAir == some x.rig then
      (s.setArbiter { s.arbiter with song := x.new.song }).run.handoverRequested
    else (s.setArbiter { s.arbiter with song := x.new.song }).run := if_pos onAir

theorem autoPermitted_iff : s.autoPermitted = true ↔ s.arbiter.mode = .auto ∧ s.arbiter.inhibit = false ∧
    (s.bank.front.song.get (songIndex s.arbiter.song)).auto = true := by
  simp [State.autoPermitted, and_assoc]

/-- Settles O47: the on-air rig's going down (`takeQualification_falls`) in STEADY and CHANGING, then the song and the handover request of
a beacon. -/
theorem failureOnAirChangesOverOrBlinds : Obligations.FailureOnAirChangesOverOrBlinds := by
  refine ⟨?_, ?_, fun s x other => if_neg other, ?_⟩
  · intro s r h before steady onAir qualifies up fresh last none same tick absence unguarded other
    obtain ⟨w, f, taken⟩ := takeQualification_falls onAir qualifies up fresh last none same tick absence unguarded other
    have onAir' : w.arbiter.onAir = some r.other.other := by rw [f.arbiter, Rig.other_other]; exact onAir
    have state : w.arbiter.state = .steady := by rw [f.arbiter]; exact steady
    have auto : w.autoPermitted = s.autoPermitted := by unfold State.autoPermitted; rw [f.arbiter, f.touched.bank]
    have eligible : w.arbiter.eligible = s.eligibleNow := by rw [f.arbiter]
    have falls : w.goesDown r = if s.autoPermitted && s.eligibleNow then w.enterChanging .autoFailure else w.enterBlind := by
      unfold State.goesDown
      rw [if_pos (by rw [onAir', Rig.other_other]), state, ← auto, ← eligible]
    refine ⟨(w.goesDown r).run, congrArg Host.Outcome.next taken, fun permitted can => ?_, fun not => ?_⟩
    · have healthy : (w.handed r.other).down = false := by
        rw [f.other]
        simp only [State.eligibleNow, Arbiter.standby, onAir, Bool.and_eq_true, beq_iff_eq] at can
        rw [can.1.1]
        rfl
      rw [falls, permitted, can, Bool.and_self, if_pos rfl, enterChanging_eq onAir']
      have ran := (begun_changeBegun w r.other .autoFailure).run (by rw [f.touched.bank]; exact none) (.inl healthy)
      refine ⟨ran.begun.of_fallen f, _, ran.entry (changeBegun_history _ _ _) rfl, rfl, Rig.other_other r, rfl, ?_, ?_⟩
      · change w.clock.count = _
        rw [f.touched.clock]
      · change w.qualified r.other.other = _
        rw [Rig.other_other]
        unfold State.qualified
        rw [ran.touched.health, ran.touched.bank]
    · have blocked : (s.autoPermitted && s.eligibleNow) = false := by
        rcases not with h | h <;> rw [h] <;> simp
      rw [falls, blocked, if_neg Bool.false_ne_true]
      generalize hy : (w.setArbiter { w.arbiter with state := .blind }).raiseAll .blindEntered = y
      have arbiter : y.arbiter = { w.arbiter with state := .blind } := by rw [← hy]; rfl
      have quiet : y.lateFailoverHolds = false := by
        have permitted : y.autoPermitted = s.autoPermitted := by rw [← hy]; exact auto
        rw [State.lateFailoverHolds, permitted, arbiter, eligible, Bool.and_assoc, blocked, Bool.and_false]
      have blind : w.enterBlind = y.retargetAll := by
        rw [State.enterBlind, hy, State.handTargets, quiet]
        rfl
      rw [blind, run_still (s := y.retargetAll) (completionHolds_of_not_changing (by
        change y.arbiter.state ≠ _
        rw [arbiter]
        exact ArbState.noConfusion)) quiet]
      refine ⟨?_, ?_, ?_, ?_, ?_⟩
      · change y.arbiter.onAir = _
        rw [arbiter, f.arbiter]
        exact onAir
      · change y.arbiter.history = _
        rw [arbiter, f.arbiter]
      · change y.arbiter.state = _
        rw [arbiter]
      · have noted : Noted y .blindEntered := by rw [← hy]; exact noted_raiseAll _ _
        exact noted.kept (.of_ports rfl)
      · refine groupsRetargeted_congr (groupsRetargeted_retargetAll y) ?_ rfl rfl ?_ rfl
        · rw [← hy, ← f.touched.bank]
          rfl
        · rw [← hy, ← f.touched.mixer]
          rfl
  · intro s r h before kept changing onAir qualifies up fresh last none same tick absence unguarded other
    obtain ⟨w, f, taken⟩ := takeQualification_falls onAir qualifies up fresh last none same tick absence unguarded other
    have onAir' : w.arbiter.onAir = some r.other.other := by rw [f.arbiter, Rig.other_other]; exact onAir
    have state : w.arbiter.state = .changing := by rw [f.arbiter]; exact changing
    have falls : w.goesDown r = if s.handed r.other = .healthy then w.reverse else w := by
      unfold State.goesDown
      rw [if_pos (by rw [onAir', Rig.other_other]), state, f.other]
    refine ⟨(w.goesDown r).run, congrArg Host.Outcome.next taken, fun healthy => ?_, fun not runs => ?_⟩
    · rw [falls, if_pos healthy, reverse_eq onAir']
      have up : (w.handed r.other).down = false := by rw [f.other, healthy]; rfl
      have ran := (begun_changeReversed state r.other).run (by rw [f.touched.bank]; exact none) (.inl up)
      have closed := not_inFlight_closedHistory (ending := .reversed) (l := keptHistory w.arbiter.history) (by decide)
      have history := ran.history (changeReversed_history _ _) rfl fun _ => closedHistory_closed _ closed
      have dropped : _ = closedHistory .reversed (keptHistory w.arbiter.history) :=
        (congrArg List.dropLast history).trans List.dropLast_concat
      refine ⟨ran.begun.of_fallen f, ?_, ?_, _, ran.entry (changeReversed_history _ _) rfl, ?_, rfl, Rig.other_other r, rfl, ?_, ?_, rfl⟩
      · refine ran.runs_or_completed.imp (fun ⟨now, outgoing, _⟩ => ⟨now, by rw [outgoing, Rig.other_other]⟩)
          fun ⟨now, outgoing, done, _⟩ => ⟨by rw [now, up]; rfl, outgoing, done⟩
      · rw [dropped, f.arbiter]
        rfl
      · change w.arbiter.nextSequence = _
        rw [f.arbiter]
      · change w.clock.count = _
        rw [f.touched.clock]
      · change w.qualified r.other.other = _
        rw [Rig.other_other]
        unfold State.qualified
        rw [ran.touched.health, ran.touched.bank]
    · have unfinished : w.completionHolds = false :=
        (completionHolds_congr (s := s) (by rw [f.arbiter]) (by rw [f.arbiter]) (congrArg _ f.touched.mixer)).trans runs
      rw [falls, if_neg not, run_still unfinished (lateFailoverHolds_of_not_blind (by rw [state]; exact ArbState.noConfusion)), f.arbiter]
      exact ⟨f.touched, rfl⟩
  · intro s x t auto song onAir none runs
    have read : t = _ := arbiterReads_onAir onAir
    generalize hy : s.setArbiter song = y at read
    have arbiter : y.arbiter = song := by rw [← hy]; rfl
    have bank : y.bank = s.bank := by rw [← hy]; rfl
    have permitted : y.autoPermitted = true ↔ auto := by
      rw [autoPermitted_iff, arbiter, bank]
    have unfinished : y.completionHolds = false := by rw [← hy]; exact (completionHolds_congr (s := s) rfl rfl rfl).trans runs
    have still : s.arbiter.state ≠ .blind ∨ ¬ (auto ∧ s.arbiter.eligible = true) → y.run = y := by
      refine fun h => run_still unfinished ?_
      rw [Bool.eq_false_iff]
      intro holds
      simp only [State.lateFailoverHolds, Bool.and_eq_true, beq_iff_eq, arbiter] at holds
      exact h.elim (· holds.1.1) (· ⟨permitted.mp holds.1.2, holds.2⟩)
    have onAir' : y.arbiter.onAir = some x.rig.other.other := by rw [arbiter, Rig.other_other]; exact onAir
    have stays : (y.arbiter.onAir == some x.rig) = true := by rw [arbiter]; exact beq_iff_eq.mpr onAir
    have handed : y.handed x.rig.other = s.handed x.rig.other := by rw [← hy]; rfl
    refine ⟨fun quiet calm => ?_, fun blind can eligible up => ?_, fun steady asks can eligible up => ?_, fun asks refused => ?_⟩
    · rw [read, still quiet, calm]
      rfl
    · have holds : y.lateFailoverHolds = true := by
        simp only [State.lateFailoverHolds, Bool.and_eq_true, beq_iff_eq]
        exact ⟨⟨by rw [arbiter]; exact blind, permitted.mpr can⟩, by rw [arbiter]; exact eligible⟩
      have ran := lateFailover_run holds onAir' (by rw [handed]; exact up) (by rw [bank]; exact none)
      have left : (y.run.arbiter.onAir == some x.rig) = false := by
        rw [ran.begun.1.1]
        cases x.rig <;> rfl
      have gone : t = y.run := read.trans (if_neg (by rw [left, Bool.and_false]; exact Bool.false_ne_true))
      rw [gone]
      exact ran.lateFailover (by rw [handed]; exact up)
    · have state : y.arbiter.state = .steady := by rw [arbiter]; exact steady
      have quiet := still (.inl (by rw [steady]; exact ArbState.noConfusion))
      have started : t = (y.enterChanging .handover).run := by
        rw [read, quiet, asks, stays, Bool.and_self, if_pos rfl, State.handoverRequested, state]
        exact if_pos (by rw [permitted.mpr can, Bool.true_and, arbiter]; exact eligible)
      have ran := (begun_changeBegun y x.rig.other .handover).run (by rw [bank]; exact none) (.inl (by rw [handed]; exact up))
      rw [started, enterChanging_eq onAir']
      exact ⟨ran.begun, _, ran.entry (changeBegun_history _ _ _) rfl, rfl, Rig.other_other _, rfl⟩
    · have state : y.arbiter.state = s.arbiter.state := by rw [arbiter]
      have asked : y.run = y → t = y.handoverRequested := fun quiet => by
        rw [read, quiet, asks, stays, Bool.and_self, if_pos rfl]
      have raised : t = y.raiseAll .handoverRefused := by
        rcases refused with ⟨steady, not⟩ | changing | ⟨blind, not⟩
        · rw [asked (still (.inr not)), State.handoverRequested, state, steady]
          exact if_neg (by rw [Bool.and_eq_true, permitted, arbiter]; exact not)
        · rw [asked (still (.inl (by rw [changing]; exact ArbState.noConfusion))), State.handoverRequested, state, changing]
        · rw [asked (still (.inr not)), State.handoverRequested, state, blind]
      rw [raised]
      refine ⟨?_, arbiter, noted_raiseAll _ _⟩
      rw [← hy]
      exact (Touches.refl.setArbiter (by decide)).raiseAll (by decide)

end Sys2Proof.Machine

/-! PROOFS. A qualification and the end of a restore, with their handing on (sections 3.3 to 3.5, 5.5). -/

namespace Sys2Proof.Machine

open Sys2Proof

/- In order: bodies elaborated side by side while the kernel still checks the text above each hold a thread's stack. -/
set_option Elab.async false

variable {s t u v w x p : State} {r k : Rig} {run : State → State} {h : Health} {f : Table 11 FaultEntry}

/-! ### A health state handed on, and the other rig's after it (R55) -/

/-- What the handing on of a rig's new state leaves of that rig. -/
structure RigHanded (v t : State) (r : Rig) : Prop where
  own : t.health.get r = v.health.get r
  handed : t.handed r = (v.health.get r).state
  noted : Noted t .healthChanged

/-- R36, R55: where DIVERGED of the other rig becomes present by the handing on of a rig's state, that rig is PLAYING, so that the handing
on of the other's moves nothing of it. -/
theorem handHealthWith_leaves (hr : Standing run) (none : v.bank.exchange = none) (fresh : v.handed r ≠ (v.health.get r).state)
    (other : v.handed r.other = (v.health.get r.other).state) : RigHanded v (v.handHealthWith run r) r := by
  obtain ⟨on, touched, notices⟩ := handOneWith_leaves hr none fresh
  generalize ht : v.handOneWith run r = t at touched notices
  have health : t.health = (v.handedOn r).health := touched.health
  have same : ∀ q, t.handed q = (v.handedOn r).handed q := fun q => by unfold State.handed; rw [touched.instantHealth]
  have first : RigHanded v t r := ⟨by rw [health]; exact on.own, (same r).trans on.handed, on.noted.kept notices⟩
  have both : v.handHealthWith run r = if t.unsettled r.other then t else t.handOneWith run r.other := by
    rw [← ht]
    exact if_neg fresh.symm
  rw [both]
  by_cases unsettled : t.unsettled r.other = true
  · rw [if_pos unsettled]
    exact first
  · rw [if_neg unsettled]
    by_cases rests : t.handed r.other = (t.health.get r.other).state
    · rw [State.handOneWith_unchanged run rests.symm]
      exact first
    · have newly : ¬ v.divergedMarked r.other := fun marked => rests (by
        rw [same, health, on.marked marked, on.other]
        exact other)
      have playing : (v.parsers.get r).notPlaying = false := by
        have : (v.parsers.get r.other.other).playing = true := by
          by_contra not
          exact newly fun _ now => absurd now not
        rw [Rig.other_other] at this
        cases hrec : (v.parsers.get r).record with
        | none => simp [Parser.playing, hrec] at this
        | some rec =>
          simp only [Parser.playing, hrec, beq_iff_eq] at this
          simp [Parser.notPlaying, hrec, this]
      obtain ⟨on', touched', notices'⟩ := handOneWith_leaves hr (by rw [touched.bank, on.touched.bank]; exact none) rests
      have still : t.divergedMarked r := fun mine _ => by
        rw [touched.parsers, on.ownParser, playing] at mine
        cases mine
      have kept : (t.handedOn r.other).health = t.health := on'.marked (by rw [Rig.other_other]; exact still)
      have handed : (t.handOneWith run r.other).handed r = t.handed r := by
        have := on'.other
        rw [Rig.other_other] at this
        rw [← this]
        unfold State.handed
        rw [touched'.instantHealth]
      exact ⟨by rw [touched'.health, kept]; exact first.own, handed.trans first.handed, (first.noted.kept on'.notices).kept notices'⟩

/-- R55, log 40: a settled rig's new state is handed on, an unsettled one's is not. -/
theorem handSettledWith_own (hr : Standing run) (none : v.bank.exchange = none)
    (other : v.handed r.other = (v.health.get r.other).state) : (v.handSettledWith run r).health.get r = v.health.get r ∧
      (v.unsettled r = false → v.handed r ≠ (v.health.get r).state → RigHanded v (v.handSettledWith run r) r) := by
  rw [State.handSettledWith_eq]
  cases v.unsettled r with
  | true => exact ⟨rfl, fun h => nomatch h⟩
  | false =>
    rw [if_neg Bool.false_ne_true]
    by_cases rests : v.handed r = (v.health.get r).state
    · rw [State.handHealthWith_unchanged run rests.symm]
      exact ⟨rfl, fun _ fresh => absurd rests fresh⟩
    · have leaves := handHealthWith_leaves hr none rests other
      exact ⟨leaves.own, fun _ _ => leaves⟩

/-- What a move of a rig's health leaves, to be handed on. -/
theorem moved_health (s : State) (r : Rig) (m : Health → Health) (other : s.handed r.other = (s.health.get r.other).state) :
    ((s.moveHealth r m).health.get r = m (s.health.get r)) ∧
      (s.moveHealth r m).handed r.other = ((s.moveHealth r m).health.get r.other).state := by
  have ne : r.other ≠ r := by cases r <;> decide
  rw [State.moveHealth_health, PerRig.get_set, if_pos rfl, PerRig.get_set, if_neg ne, ← other]
  exact ⟨rfl, State.moveHealthBy_handed ..⟩

/-! ### The coming up of the on-air rig (R95) -/

/-- The other rig's state handed on in STEADY: of the arbiter eligibility alone. -/
theorem steady_handOne_other (hr : Standing run) (steady : v.arbiter.state = .steady) (onAir : v.arbiter.onAir = some r) :
    (v.handOneWith run r.other).arbiter = { v.arbiter with eligible := (v.handOneWith run r.other).arbiter.eligible } ∧
      (v.handOneWith run r.other).mixer = v.mixer := by
  have ne : r ≠ r.other := by cases r <;> decide
  rcases handOneWith_cases run v r.other with same | ⟨-, w, on, cases⟩
  · rw [same]
    exact ⟨rfl, rfl⟩
  · have arbiter : w.arbiter = { v.arbiter with eligible := w.arbiter.eligible } := by rw [on.arbiter]
    have state : w.arbiter.state = .steady := by rw [arbiter]; exact steady
    have still : run w = w := hr.still w (completionHolds_of_not_changing (by rw [state]; exact ArbState.noConfusion))
      (lateFailoverHolds_of_not_blind (by rw [state]; exact ArbState.noConfusion))
    have result : v.handOneWith run r.other = w := by
      rcases cases with result | ⟨-, result⟩ | ⟨-, result⟩
      · rw [result, still]
      · rw [result, goesDown_of_other (by rw [arbiter]; exact fun h => ne (Option.some.inj (onAir.symm.trans h))), still]
      · rw [result, comesUp_of_not_blind (by rw [state]; exact ArbState.noConfusion), still]
    rw [result]
    exact ⟨arbiter, on.touched.mixer⟩

/-- R95: the on-air rig's coming up in BLIND, handed on. -/
theorem comesUp_handed (hr : Standing run) (blind : v.arbiter.state = .blind) (onAir : v.arbiter.onAir = some r)
    (healthy : (v.health.get r).state = .healthy) (fresh : v.handed r ≠ .healthy) :
    (v.handHealthWith run r).arbiter =
        { v.arbiter with state := .steady, eligible := (v.handHealthWith run r).arbiter.eligible } ∧
      ∀ i, ((v.handHealthWith run r).mixer.groups.get i).mode = (v.mixer.groups.get i).mode ∧
        ((v.mixer.groups.get i).mode = .follow → ((v.handHealthWith run r).mixer.groups.get i).target = Source.ofRig r) := by
  have on := handedOn_handedOn v r
  generalize hy : (v.handedOn r).setArbiter { (v.handedOn r).arbiter with state := .steady } = y
  have arbiter : y.arbiter = { v.arbiter with state := .steady, eligible := y.arbiter.eligible } := by
    rw [← hy, setArbiter_arbiter, on.arbiter]
  have still : run y.retargetAll = y.retargetAll := by
    have state : y.retargetAll.arbiter.state = .steady := by
      change y.arbiter.state = _
      rw [arbiter]
    exact hr.still _ (completionHolds_of_not_changing (by rw [state]; exact ArbState.noConfusion))
      (lateFailoverHolds_of_not_blind (by rw [state]; exact ArbState.noConfusion))
  have first : v.handOneWith run r = y.retargetAll := by
    have up : (v.handedOn r).comesUp r = y.retargetAll := by
      rw [State.comesUp, hy]
      exact if_pos (by rw [on.arbiter]; exact ⟨blind, onAir⟩)
    have one : v.handOneWith run r = run (if (v.instantHealth.handing.get r).falls ((v.handedOn r).handed r) then (v.handedOn r).goesDown r
        else if (v.handedOn r).handed r = .healthy then (v.handedOn r).comesUp r else v.handedOn r) :=
      if_neg (by rw [healthy]; exact fresh.symm)
    rw [one, on.handed, healthy, if_neg (by simp [Handing.falls, HealthState.down]), if_pos rfl, up, still]
  obtain ⟨-, groups⟩ := groupsRetargeted_retargetAll y
  have mixer : y.mixer = v.mixer := by rw [← hy]; exact on.touched.mixer
  have regrouped : ∀ i, (y.retargetAll.mixer.groups.get i).mode = (v.mixer.groups.get i).mode ∧
      ((v.mixer.groups.get i).mode = .follow → (y.retargetAll.mixer.groups.get i).target = Source.ofRig r) := by
    intro i
    obtain ⟨mode, -, -, target, -⟩ := groups i
    rw [mixer] at mode target
    refine ⟨mode, fun follow => ?_⟩
    rw [target, follow, targetOf_follow (down := false) (r := r) (by rw [arbiter]; rfl) (by rw [arbiter]; exact onAir)]
    rfl
  have both : v.handHealthWith run r = if y.retargetAll.unsettled r.other then y.retargetAll else y.retargetAll.handOneWith run r.other := by
    rw [← first]
    exact if_neg (by rw [healthy]; exact fresh.symm)
  rw [both]
  split
  · exact ⟨arbiter, regrouped⟩
  · obtain ⟨same, mixer⟩ := steady_handOne_other (v := y.retargetAll) (r := r) hr (by change y.arbiter.state = _; rw [arbiter])
      (by change y.arbiter.onAir = _; rw [arbiter]; exact onAir)
    rw [mixer]
    refine ⟨?_, regrouped⟩
    rw [same]
    change ({ y.arbiter with eligible := _ } : Arbiter) = _
    rw [arbiter]

/-- Settles O46: the health that a qualification or the end of the restore leaves stands through its handing on
(`handSettledWith_own`). -/
theorem qualificationAndRestore : Obligations.QualificationAndRestore := by
  constructor
  · intro s r h qualifies none up other
    generalize hv : s.moveHealth r (fun h => h.settleQualifying s.bank.front.fault) = v
    obtain ⟨own, rests⟩ := moved_health s r (fun h => h.settleQualifying s.bank.front.fault) other
    rw [hv] at own rests
    have touched : Touches [.health] s v := by rw [← hv]; exact Touches.refl.moveHealth (by decide)
    have failed := own.trans (Health.settleQualifying_fails qualifies up)
    obtain ⟨kept, handed⟩ := handSettledWith_own standing_run (by rw [touched.bank]; exact none) rests
    have taken : s.takeQualification r = v.handSettled r := by
      rw [← hv]
      exact if_pos qualifies
    have result := kept.trans failed
    refine ⟨v.handSettled r, congrArg Host.Outcome.next taken, by rw [State.handSettled, result], by rw [State.handSettled, result]; rfl,
      by rw [State.handSettled, result], fun i => ?_, by rw [State.handSettled, result], fun tick absence unguarded fresh => ?_⟩
    · rw [State.handSettled, result]
      exact KindSet.get_union
    · have instant : v.instantHealth = s.instantHealth := by
        rw [← hv, State.moveHealth_of_none _ unguarded]
        rfl
      have state : (v.health.get r).state = .failed := by rw [failed]
      have settled : v.unsettled r = false := by
        rw [State.unsettled_failed state (by rw [touched.tickDue]; exact tick),
          State.guardHeld_of_none (by rw [instant]; exact unguarded), touched.links, absence]
        rfl
      have leaves := handed settled (by
        rw [state]
        unfold State.handed
        rw [instant]
        exact fresh)
      exact ⟨leaves.noted, leaves.handed.trans state⟩
  · intro s r h recovering full none other
    have due : (s.health.get r).restoreDue s.restoreTime = true := by
      simp only [Health.restoreDue, Bool.and_eq_true, beq_iff_eq, decide_eq_true_eq]
      exact ⟨recovering, full⟩
    generalize hv : s.moveHealth r (fun h => h.restored s.restoreTime) = v
    obtain ⟨own, rests⟩ := moved_health s r (fun h => h.restored s.restoreTime) other
    rw [hv] at own rests
    have touched : Touches [.health] s v := by rw [← hv]; exact Touches.refl.moveHealth (by decide)
    have healthy : v.health.get r = { s.health.get r with state := .healthy } := own.trans (if_pos due)
    obtain ⟨kept, handed⟩ := handSettledWith_own standing_run (by rw [touched.bank]; exact none) rests
    have taken : s.takeRestoreComplete r = v.handSettled r := by
      rw [← hv]
      exact if_pos due
    refine ⟨v.handSettled r, congrArg Host.Outcome.next taken, kept.trans healthy, fun evidence exchange unguarded idle fresh => ?_⟩
    have set : v = s.setRigHealth r ((s.health.get r).restored s.restoreTime) := by
      rw [← hv, State.moveHealth_of_none _ unguarded]
    have state : (v.health.get r).state = .healthy := by rw [healthy]
    have instant : v.instantHealth = s.instantHealth := by rw [set]; rfl
    have held : ∀ q, v.guardHeld q = false := fun q => State.guardHeld_of_none (by rw [instant]; exact unguarded)
    have near : v.evidenceDue r = s.evidenceDue r := by
      have ne : r.other ≠ r := by cases r <;> decide
      have rises : v.mayRise r.other = s.mayRise r.other := by
        rw [State.mayRise_of_handed (by rw [instant]; exact unguarded) rests, State.mayRise_of_handed unguarded other]
      unfold State.evidenceDue State.divergenceDue
      rw [rises, set]
      rfl
    have settled : v.unsettled r = false := by
      unfold State.unsettled
      simp only [state, held, near, evidence, Bool.false_or]
      rw [healthy, show v.exchangeDue = s.exchangeDue by rw [set]; rfl, exchange]
      change ((s.health.get r).qualifying.nonempty || false) = false
      rw [idle]
      decide
    have unhanded : v.handed r ≠ .healthy := by
      unfold State.handed
      rw [instant]
      exact fresh
    have leaves := handed settled (by rw [state]; exact unhanded)
    refine ⟨leaves.noted, leaves.handed.trans state, fun blind onAir => ?_⟩
    have through : v.handSettled r = v.handHealthWith State.run r := by
      rw [State.handSettled, State.handSettledWith_eq, settled]
      exact if_neg Bool.false_ne_true
    rw [through, ← touched.arbiter, ← touched.mixer]
    exact comesUp_handed standing_run (by rw [touched.arbiter]; exact blind) (by rw [touched.arbiter]; exact onAir) state unhanded

end Sys2Proof.Machine

/-! PROOFS. MISSING, FREEWHEEL and the Show Clock's reading of a beacon (sections 2.6, 7.3 to 7.6). -/

namespace Sys2Proof.Machine

open Sys2Proof

/- In order: bodies elaborated side by side while the kernel still checks the text above each hold a thread's stack. -/
set_option Elab.async false

variable {s t u v w : State} {r k : Rig} {x : Acceptance} {song : Byte} {rec : RigRecord}

/-! ### FREEWHEEL (R134, R135) -/

/-- R134: the states of the clock that follow the on-air rig. -/
abbrev ShowClock.follows (c : ShowClock) : Prop := c.state = .running ∨ c.state = .slewing

theorem enterFreewheel_of_not (h : ¬ s.showClock.follows) : s.enterFreewheel = s := if_neg h

theorem enterFreewheel_follows (h : s.showClock.follows) (limit : s.showClock.control.freewheelLimit ≠ 0) :
    s.enterFreewheel = s.setShowClock { s.showClock with state := .freewheel, slewCounter := none, freewheelCounter := some 0 } :=
  (if_pos h).trans (if_neg fun low => limit (Nat.le_zero.mp low))

theorem enterFreewheel_held (h : s.showClock.follows) (limit : s.showClock.control.freewheelLimit = 0) :
    s.enterFreewheel.showClock.state = .held ∧ s.enterFreewheel.showClock.cadence = some 0 ∧
      s.enterFreewheel.showClock.heldValue = some s.holdValue := by
  have held : s.enterFreewheel = (s.setShowClock { s.showClock with
      state := .freewheel, slewCounter := none, freewheelCounter := some 0 }).enterHeld s.holdValue :=
    (if_pos h).trans (if_pos (Nat.le_of_eq limit))
  rw [held, enterHeld_showClock]
  exact ⟨rfl, rfl, rfl⟩

/-! ### A health state handed on that moves no changeover -/

/-- A state is handed on outside BLIND and no completion, of a rig that is not on air or is not down. -/
theorem handOneWith_undisturbed (still : v.arbiter.state ≠ .blind) (runs : v.completionHolds = false)
    (up : v.arbiter.onAir ≠ some k ∨ (v.health.get k).state.down = false) :
    Touches [.parsers, .health, .arbiter, .ports] v (v.handOneWith State.run k) ∧
      (v.handOneWith State.run k).arbiter = { v.arbiter with eligible := (v.handOneWith State.run k).arbiter.eligible } := by
  rcases handOneWith_cases State.run v k with same | ⟨-, w, on, cases⟩
  · rw [same]
    exact ⟨.refl, rfl⟩
  · have arbiter : w.arbiter = { v.arbiter with eligible := w.arbiter.eligible } := by rw [on.arbiter]
    have quiet : w.run = w := run_still ((completionHolds_congr (s := v) (by rw [arbiter]) (by rw [arbiter])
      (by rw [on.touched.mixer])).trans runs) (lateFailoverHolds_of_not_blind (by rw [arbiter]; exact still))
    have result : v.handOneWith State.run k = w := by
      rcases cases with result | ⟨down, result⟩ | ⟨-, result⟩
      · rw [result, quiet]
      · have other : v.arbiter.onAir ≠ some k := up.resolve_right (by rw [down]; exact fun h => nomatch h)
        rw [result, goesDown_of_other (by rw [arbiter]; exact other), quiet]
      · rw [result, comesUp_of_not_blind (by rw [arbiter]; exact still), quiet]
    rw [result]
    exact ⟨on.touched, arbiter⟩

/-- The handing on of the on-air rig's state, which is not down, and of the other's after it. -/
theorem handSettled_undisturbed (onAir : v.arbiter.onAir = some r) (still : v.arbiter.state ≠ .blind) (runs : v.completionHolds = false)
    (up : (v.health.get r).state.down = false) : Touches [.parsers, .health, .arbiter, .ports] v (v.handSettled r) := by
  obtain ⟨touched, arbiter⟩ := handOneWith_undisturbed still runs (.inr up)
  have ne : r ≠ r.other := by cases r <;> decide
  rw [State.handSettled, State.handSettledWith_eq]
  split
  · exact .refl
  · unfold State.handHealthWith
    split
    · exact .refl
    · dsimp only
      split
      · exact touched
      refine touched.trans (handOneWith_undisturbed (by rw [arbiter]; exact still) ?_ (.inl ?_)).1
      · exact (completionHolds_congr (by rw [arbiter]) (by rw [arbiter]) (by rw [touched.mixer])).trans runs
      · rw [arbiter]
        exact fun h => ne (Option.some.inj (onAir.symm.trans h))

/-- R47, R50: evidence of a kind with a delay leaves a rig up that is up. -/
theorem Health.evidence_stays_up {h : Health} {f : Table 11 FaultEntry} {time : Nat} {k : FaultKind}
    (up : h.state = .healthy ∨ h.state = .suspect) (delay : (f.get k.idx).delay ≠ 0) :
    (h.evidence f time (oneKind k)).state.down = false := by
  have never : ((oneKind k).filter (instantIn f)).nonempty = false := by
    rw [Bool.eq_false_iff, ne_eq, instant_iff]
    rintro ⟨i, ⟨is, -⟩, zero⟩
    have same : i = k.idx := by
      by_contra other
      rw [oneKind, Table.get_set_ne _ _ _ _ (Ne.symm other), get_noKinds] at is
      cases is
    exact delay (by rw [← same]; exact zero)
  cases enabled : ((oneKind k).filter (enabledIn f)).nonempty with
  | false =>
    rw [Health.evidence_disabled (by rcases up with up | up <;> rw [up] <;> exact HealthState.noConfusion) enabled]
    rcases up with up | up <;> rw [show ({ h with flags := _ } : Health).state = _ from up] <;> rfl
  | true =>
    rw [Health.evidence_up (.inl up) enabled, never]
    rfl

theorem exec_missingPresent (s : State) (r : Rig) : exec (.missingPresent r) s = .next (s.prepare.takeMissingPresent r) := rfl

/-- R34: MISSING becomes present of a rig with no window and no beacon due. -/
theorem takeMissingPresent_due {n : Nat} (judging : (s.parsers.get r).judging = none) (missing : (s.parsers.get r).missing = false)
    (age : (s.parsers.get r).age = some n) (old : 2 * s.bank.setup.period.samples < n) (window : s.windowDue r = false) :
    s.takeMissingPresent r = s.missingBegins r := by
  have due : s.missingDue r = true := by
    simp only [State.missingDue, missing, age, missingAt, Bool.not_false, Bool.true_and, decide_eq_true_eq]
    exact old
  have closed : s.closeDueWindow r = s := by simp [State.closeDueWindow, window]
  rw [State.takeMissingPresent, if_pos due, closed, judgeBeacon_of_none judging, if_pos due]

/-! ### The clock's reading of a beacon (R127 to R131) -/

/-- R142: at a song change the mark of the boundary's exchange drops JUMPED. -/
theorem dropRebase_songChange (playing : x.new.transport = .playing) (run : s.showClock.state ≠ .idle) (other : x.new.song ≠ s.clockSong) :
    s.dropRebase x = s.setShowClock { s.showClock with jumped := s.showClock.jumped && !x.rebases } := by
  unfold State.dropRebase
  cases marks : x.rebases with
  | true =>
    rw [if_pos ⟨rfl, run, playing, other⟩]
    simp
  | false =>
    rw [if_neg (by simp), Bool.not_false, Bool.and_true]
    rfl

theorem dropRebase_of_not (h : ¬ (s.showClock.state ≠ .idle ∧ x.new.transport = .playing ∧ x.new.song ≠ s.clockSong)) :
    s.dropRebase x = s := if_neg fun all => h all.2

/-- R128, R129, R131: the clock takes a PLAYING record. -/
theorem clockFollow_playing (playing : rec.transport = .playing) (hs : s.showClock.state ≠ .idle → s.clockSong = song) :
    let c := s.showClock
    let target := s.targetFrom r (rec.anchor.getD 0)
    let active := c.state = .running ∨ c.state = .slewing ∨ c.state = .freewheel
    (c.state = .idle → s.clockFollow r rec = if s.arbiter.state = .stopped then s else s.clockLeaveIdle target rec.song) ∧
      (active → rec.song = song → s.clockFollow r rec = s.clockCorrect target) ∧
      (active ∨ c.state = .held → rec.song ≠ song → s.clockFollow r rec = s.clockSongChange target rec.song) ∧
      (c.state = .held → rec.song = song → s.clockFollow r rec = s.clockResume target) := by
  intro c target active
  unfold State.clockFollow
  rw [playing]
  refine ⟨fun idle => by rw [show s.showClock.state = .idle from idle], fun run same => ?_, fun run other => ?_, fun held same => ?_⟩
  · have on : s.showClock.state ≠ .idle := by
      rcases run with h | h | h <;> rw [show s.showClock.state = _ from h] <;> exact ShowState.noConfusion
    rcases run with h | h | h <;> rw [show s.showClock.state = _ from h] <;> exact if_pos (same.trans (hs on).symm)
  · have on : s.showClock.state ≠ .idle := by
      rcases run with (h | h | h) | h <;> rw [show s.showClock.state = _ from h] <;> exact ShowState.noConfusion
    have ne : rec.song ≠ s.clockSong := fun h => other (h.trans (hs on))
    rcases run with (h | h | h) | h <;> rw [show s.showClock.state = _ from h] <;> exact if_neg ne
  · have on : s.showClock.state ≠ .idle := by rw [show s.showClock.state = _ from held]; exact ShowState.noConfusion
    rw [show s.showClock.state = _ from held]
    exact if_pos (same.trans (hs on).symm)

/-- R130: the clock takes a STOPPED or CUED record. -/
theorem clockFollow_halted (active : s.showClock.state = .running ∨ s.showClock.state = .slewing ∨ s.showClock.state = .freewheel) :
    (rec.transport = .stopped → s.clockFollow r rec = s.enterHeld s.holdValue) ∧
      (rec.transport = .cued →
        s.clockFollow r rec = (s.setShowClock { s.showClock with song := some rec.song }).enterHeld (s.startOf rec.song)) := by
  unfold State.clockFollow
  refine ⟨fun h => ?_, fun h => ?_⟩
  all_goals
    rw [h]
    rcases active with run | run | run <;> rw [run]

/-- R130: in HELD and IDLE a STOPPED record changes nothing, a CUED one the held value of another song. -/
theorem clockFollow_resting : (rec.transport = .stopped → s.showClock.state = .held ∨ s.showClock.state = .idle → s.clockFollow r rec = s) ∧
    (rec.transport = .cued → s.showClock.state = .idle → s.clockFollow r rec = s) ∧
    (rec.transport = .cued → s.showClock.state = .held → s.clockFollow r rec = if rec.song = s.clockSong then s
      else s.setShowClock { s.showClock with song := some rec.song, heldValue := some (s.startOf rec.song) }) := by
  unfold State.clockFollow
  refine ⟨fun h state => ?_, fun h state => ?_, fun h state => ?_⟩
  · rw [h]
    rcases state with state | state <;> rw [state]
  · rw [h, state]
  · rw [h, state]

/-- R132: a record as a beacon just accepted. -/
theorem clockReads_record (onAir : s.arbiter.onAir = some r) (rec : RigRecord) : s.clockReads
    { rig := r, bytes := [], new := rec, boundary := false, handover := false, kinds := noKinds, rebases := false } = s.clockFollow r rec := by
  rw [clockReads_onAir onAir, State.dropRebase_of_none rfl]

/-- R132, R134: the clock's re-evaluation is its reading of the record and then the test of MISSING. -/
theorem clockReevaluate_onAir (onAir : s.arbiter.onAir = some r) : s.clockReevaluate =
    let u := match (s.parsers.get r).record with
      | none => s
      | some new => s.clockReads { rig := r, bytes := [], new, boundary := false, handover := false, kinds := noKinds, rebases := false }
    if (s.parsers.get r).missing then u.enterFreewheel else u := by
  cases h : (s.parsers.get r).record with
  | none => simp only [State.clockReevaluate, onAir, h]
  | some rec =>
    have parsers : (s.clockFollow r rec).parsers = s.parsers :=
      (Touches.refl.clockFollow (by decide) : Touches [.showClock, .tcOutput, .ports] s _).parsers
    simp only [State.clockReevaluate, onAir, h, clockReads_record onAir, parsers]

/-- Settles O43: MISSING as evidence that moves no changeover, and the clock's table of section 7.4. -/
theorem missingBecomesPresent : Obligations.MissingBecomesPresent := by
  refine ⟨?_, fun s x other => if_neg other, ?_, ?_⟩
  · intro s r n p judging missing age old window
    refine ⟨p.takeMissingPresent r, exec_missingPresent s r, ?_⟩
    clear_value p
    rw [takeMissingPresent_due judging missing age old window]
    generalize hv : p.setParser r { p.parsers.get r with missing := true } = v
    generalize hu : (if v.arbiter.onAir = some r then v.enterFreewheel else v) = u
    have begins : p.missingBegins r = u.applyEvidence r (oneKind .missing) := by rw [← hu, ← hv]; rfl
    have parser : v.parsers.get r = { p.parsers.get r with missing := true } := by
      rw [← hv, State.setParser, setParsers_parsers, PerRig.get_set_same]
    have touched : Touches [.showClock, .tcOutput] v u := by
      rw [← hu]
      split
      · exact Touches.refl.enterFreewheel (by decide)
      · exact .refl
    have health : u.health = p.health := by rw [touched.health, ← hv]; rfl
    have carried := (missingBegins_carried p r).parsers r
    rw [hv, parser] at carried
    refine ⟨by rw [carried], by rw [carried]; exact age, by rw [carried], fun on => ?_, fun onAir still runs delay up => ?_⟩
    · rw [begins]
      exact applyEvidence_flag (by rw [health]; exact on) rfl
    · have arbiter : u.arbiter = p.arbiter := by rw [touched.arbiter, ← hv]; rfl
      have fault : u.bank = p.bank := by rw [touched.bank, ← hv]; rfl
      generalize hw : u.noteEvidence r (oneKind .missing) = w
      have noted : Touches [.health] u w := by rw [← hw]; exact Touches.refl.noteEvidence (by decide)
      have applied : p.missingBegins r = w.handSettled r := begins.trans (by rw [← hw]; rfl)
      have stays : (w.health.get r).state.down = false := by
        rw [← hw, State.noteEvidence, State.moveHealth_health, PerRig.get_set_same]
        exact Health.evidence_stays_up (h := { u.health.get r with events := _ }) (by rw [health]; exact up)
          (by rw [fault]; exact delay)
      have handed := handSettled_undisturbed (v := w) (r := r) (by rw [noted.arbiter, arbiter]; exact onAir)
        (by rw [noted.arbiter, arbiter]; exact still)
        ((completionHolds_congr (s := p) (by rw [noted.arbiter, arbiter]) (by rw [noted.arbiter, arbiter])
          (by rw [noted.mixer, touched.mixer, ← hv]; rfl)).trans runs) stays
      have clock : (p.missingBegins r).showClock = v.enterFreewheel.showClock := by
        rw [applied, handed.showClock, noted.showClock, ← hu, if_pos (by rw [← hv]; exact onAir)]
      have same : v.showClock = p.showClock := by rw [← hv]; rfl
      have value : v.holdValue = p.holdValue := by rw [← hv]; rfl
      rw [clock]
      refine ⟨fun not => ?_, fun follows limit => ?_, fun follows limit => ?_⟩
      · rw [enterFreewheel_of_not (by rw [same]; exact not), same]
      · rw [enterFreewheel_follows (by rw [same]; exact follows) (by rw [same]; exact limit), ← same]
        rfl
      · have held := enterFreewheel_held (s := v) (by rw [same]; exact follows) (by rw [same]; exact limit)
        rw [value] at held
        exact held
  · intro s t
    refine ⟨fun none => by simp only [t, State.clockReevaluate, none], ?_⟩
    intro r onAir u follows
    have result : t = if (s.parsers.get r).missing then u.enterFreewheel else u := clockReevaluate_onAir onAir
    clear_value t u
    refine ⟨fun h => ?_, fun missing runs limit => ?_, fun missing runs limit => ?_⟩
    · rcases h with present | not
      · rw [result, present]
        rfl
      · rw [result, enterFreewheel_of_not not, ite_self]
    · rw [result, missing, if_pos rfl, enterFreewheel_follows runs limit]
      exact ⟨Touches.refl.setShowClock (by decide), rfl⟩
    · rw [result, missing, if_pos rfl]
      exact ⟨Touches.refl.enterFreewheel (by decide), enterFreewheel_held runs limit⟩
  · intro s x song c t active target start heldAt onAir hs
    have read : t = (s.dropRebase x).clockFollow x.rig x.new := clockReads_onAir onAir
    have own : s.showClock.state ≠ .idle → s.clockSong = song := fun run => by
      unfold State.clockSong
      rw [hs run]
      rfl
    refine ⟨?_, fun playing => ?_, fun stopped => ?_, fun cued => ?_⟩
    · rw [read]
      exact (Touches.refl.dropRebase (by decide)).clockFollow (by decide)
    · obtain ⟨idles, corrects, changes, resumes⟩ := clockFollow_playing (r := x.rig) playing own
      have whole : ¬ (s.showClock.state ≠ .idle ∧ x.new.transport = .playing ∧ x.new.song ≠ s.clockSong) →
          t = s.clockFollow x.rig x.new := fun h => by rw [read, dropRebase_of_not h]
      refine ⟨fun idle runs => ?_, fun idle halted => ?_, fun run same => ?_, fun run other => ?_, fun held same => ?_⟩
      · rw [whole fun h => h.1 idle, idles idle, if_neg runs]
        rfl
      · rw [whole fun h => h.1 idle, idles idle, if_pos halted]
      · rw [whole fun h => h.2.2 (same.trans (own h.1).symm), corrects run same]
        rfl
      · have on : s.showClock.state ≠ .idle := by
          rcases run with (h | h | h) | h <;> rw [show s.showClock.state = _ from h] <;> exact ShowState.noConfusion
        have dropped := dropRebase_songChange playing on fun h => other (h.trans (own on))
        generalize hy : s.setShowClock { s.showClock with jumped := s.showClock.jumped && !x.rebases } = y at dropped
        have state : y.showClock.state = s.showClock.state := by rw [← hy]; rfl
        have songs : y.clockSong = s.clockSong := by rw [← hy]; rfl
        have change := (clockFollow_playing (s := y) (r := x.rig) (song := song) playing fun _ => songs.trans (own on)).2.2.1
          (by rw [state]; exact run) other
        rw [read, dropped, change, ← hy]
        exact ⟨rfl, rfl⟩
      · rw [whole fun h => h.2.2 (same.trans (own h.1).symm), resumes held same]
        exact ⟨rfl, rfl⟩
    · have whole : t = s.clockFollow x.rig x.new := by
        rw [read, dropRebase_of_not fun h => by rw [stopped] at h; exact nomatch h.2.1]
      refine ⟨fun run => ?_, fun rests => ?_⟩
      · rw [whole, (clockFollow_halted run).1 stopped, enterHeld_showClock]
        exact ⟨rfl, rfl, rfl, rfl, rfl, rfl, rfl, rfl, rfl, rfl, rfl, rfl⟩
      · rw [whole, clockFollow_resting.1 stopped rests]
    · have whole : t = s.clockFollow x.rig x.new := by
        rw [read, dropRebase_of_not fun h => by rw [cued] at h; exact nomatch h.2.1]
      refine ⟨fun run => ?_, fun held other => ?_, fun held same => ?_, fun idle => ?_⟩
      · rw [whole, (clockFollow_halted run).2 cued, enterHeld_showClock]
        exact ⟨rfl, rfl, rfl, rfl, rfl, rfl, rfl, rfl, rfl, rfl, rfl, rfl⟩
      · have on : s.showClock.state ≠ .idle := by rw [show s.showClock.state = _ from held]; exact ShowState.noConfusion
        rw [whole, clockFollow_resting.2.2 cued held, if_neg fun h => other (h.trans (own on))]
        exact ⟨rfl, rfl⟩
      · have on : s.showClock.state ≠ .idle := by rw [show s.showClock.state = _ from held]; exact ShowState.noConfusion
        rw [whole, clockFollow_resting.2.2 cued held, if_pos (same.trans (own on).symm)]
      · rw [whole, clockFollow_resting.2.1 cued idle]

end Sys2Proof.Machine

/-! PROOFS. An accepted beacon: its record, its event and the blocks that read it (sections 2.4 to 2.6, 3.2, 3.4). -/

namespace Sys2Proof.Machine

open Sys2Proof

/- In order: bodies elaborated side by side while the kernel still checks the text above each hold a thread's stack. -/
set_option Elab.async false

variable {s t u v w : State} {r k : Rig} {x : Acceptance} {rec : RigRecord} {h : Health} {f : Table 11 FaultEntry} {now : KindSet}

/-! ### What the readers of a beacon leave of the parsers -/

/-- Each parser stands but for DIVERGED. -/
def Parsed (s t : State) : Prop := ∀ r, t.parsers.get r = { s.parsers.get r with diverged := (t.parsers.get r).diverged }

theorem Parsed.refl (s : State) : Parsed s s := fun _ => rfl

theorem Parsed.trans (a : Parsed s t) (b : Parsed t u) : Parsed s u := fun r => by rw [b r, a r]

theorem Carried.parsed (a : Carried s t) : Parsed s t := a.parsers

theorem Parsed.frame {bs : List Block} (a : Parsed s t) (b : Touches bs t u) (not : Block.parsers ∉ bs := by decide) : Parsed s u :=
  a.trans fun r => by rw [b.parsers not]

theorem Parsed.run (a : Parsed s t) : Parsed s t.run := a.trans (carried_run t).parsed

theorem Parsed.handSettled (a : Parsed s t) (r : Rig) : Parsed s (t.handSettled r) :=
  a.trans ((Carried.refl t).handSettledWith carried_run r).parsed

theorem Parsed.ite {p : Prop} [Decidable p] (hu : p → Parsed s u) (hv : ¬ p → Parsed s v) : Parsed s (if p then u else v) := by
  split
  · exact hu ‹_›
  · exact hv ‹_›

theorem Parsed.settling (a : Parsed s t) : Parsed s t.settleDelay.reEligible.run :=
  (a.frame (bs := [.lines, .alignment, .arbiter, .ports]) ((t.touches_settleDelay.mono (by decide)).reEligible (by decide))).run

theorem Parsed.takeAcceptance (a : Parsed s t) : Parsed s t.takeAcceptance := by
  unfold State.takeAcceptance
  dsimp only
  split
  · exact a
  · refine .ite (fun _ => .ite (fun _ => ?_) fun _ => Parsed.settling ?_) fun _ => a
    · exact a.frame (bs := [.alignment]) (Touches.refl.setAlignment (by decide))
    · exact a.frame (bs := [.alignment, .ports]) ((Touches.refl.setAlignment (by decide)).raiseAll (by decide))

theorem Parsed.healthReads (a : Parsed s t) (x : Acceptance) : Parsed s (t.healthReads x) :=
  .ite (fun _ => (a.frame (bs := [.health]) (Touches.refl.moveHealthBy (by decide))).handSettled _)
    fun _ => a.trans (carried_applyEvidence _ _ _).parsed

theorem Parsed.guardReads (a : Parsed s t) (x : Acceptance) : Parsed s (t.guardReads x) :=
  .ite (fun _ => a) fun _ => a.frame (bs := [.guards]) (Touches.refl.setGuard (by decide))

theorem Parsed.alignmentReads (a : Parsed s t) (x : Acceptance) : Parsed s (t.alignmentReads x) := by
  unfold State.alignmentReads
  split
  · exact a
  · refine Parsed.run (Parsed.frame (bs := [.arbiter]) (Parsed.frame (bs := [.alignment, .ports]) a ?_) (Touches.refl.reEligible (by decide)))
    split
    · exact Touches.refl.setAlignment (by decide)
    · split
      · exact Touches.refl.setAlignment (by decide)
      · split <;> exact Touches.refl.setAlignment (by decide)
    all_goals
      split
      · exact Touches.refl.setAlignment (by decide)
      · exact (Touches.refl.setAlignment (by decide)).raiseAll (by decide)

theorem Parsed.clockReads (a : Parsed s t) (x : Acceptance) : Parsed s (t.clockReads x) :=
  .ite (fun _ => a.frame (bs := [.showClock, .tcOutput, .ports]) ((Touches.refl.dropRebase (by decide)).clockFollow (by decide)))
    fun _ => a

theorem Parsed.arbiterReads (a : Parsed s t) (x : Acceptance) : Parsed s (t.arbiterReads x) := by
  unfold State.arbiterReads
  refine .ite (fun _ => ?_) fun _ => a
  have first : Parsed s (t.setArbiter { t.arbiter with song := x.new.song }).run :=
    (a.frame (bs := [.arbiter]) (Touches.refl.setArbiter (by decide))).run
  have raised : ∀ v, Parsed s v → Parsed s (v.raiseAll .handoverRefused) := fun v b =>
    b.frame (bs := [.ports]) (Touches.refl.raiseAll (by decide))
  dsimp only
  refine .ite (fun _ => ?_) fun _ => first
  split
  · exact first
  · exact .ite (fun _ => (first.frame (bs := changeBlocks) (Touches.refl.enterChanging (by decide))).run) fun _ => raised _ first
  · exact raised _ first
  · exact raised _ first

theorem Parsed.exchangeFallsDueInside (a : Parsed s t) : Parsed s t.exchangeFallsDueInside := by
  unfold State.exchangeFallsDueInside State.exchangeFallsDueWith
  split
  · exact a
  · rename_i e he
    refine .ite (fun _ => a.frame (bs := [.bank]) (Touches.refl.setBank (by decide))) fun _ => ?_
    have settled := touches_settleDues t
    exact (a.frame settled).trans
      ((Carried.refl t.settleDues).exchangeTakenWith carried_run (by rw [settled.bank, he]; exact Option.some_ne_none _)).parsed

theorem Parsed.bankReads (a : Parsed s t) (x : Acceptance) : Parsed s (t.bankReads x) := by
  unfold State.bankReads
  refine .ite (fun _ => ?_) fun _ => a
  split
  · exact a
  · split
    · exact a
    · exact a.exchangeFallsDueInside

theorem Parsed.groupsRead (a : Parsed s t) (x : Acceptance) : Parsed s (t.groupsRead x) :=
  .ite (fun _ => (a.frame (bs := [.mixer]) (revertAll_leaves (List.finRange 8) t (List.nodup_finRange 8)).1).run) fun _ => a

theorem Parsed.otherReads (a : Parsed s t) (x : Acceptance) : Parsed s (t.otherReads x) :=
  (a.trans ((Carried.refl t).reDivergedBy _ _).parsed).handSettled _

theorem Parsed.matcherExchange (a : Parsed s t) : Parsed s t.matcherExchange.1 := by
  unfold State.matcherExchange
  split
  · exact a
  · split
    · exact a
    · split
      · split
        · exact a
        · exact (a.frame (bs := [.bank]) (Touches.refl.setBank (by decide))).exchangeFallsDueInside
      · split
        · exact (a.frame (bs := [.bank]) (Touches.refl.setBank (by decide))).exchangeFallsDueInside
        · exact a

theorem Parsed.perform (a : Parsed s t) (e : MatcherEntry) : Parsed s (t.perform e).1 := by
  have inhibit : ∀ b, Parsed s (t.setInhibit b) := fun b =>
    (a.frame (bs := [.arbiter]) (Touches.refl.setArbiter (by decide))).run
  unfold State.perform
  split
  · exact a
  · exact a.matcherExchange
  · exact inhibit _
  · exact inhibit _
  · exact a.frame (bs := [.lamps]) (Touches.refl.setLamps (by decide))

theorem Parsed.fireNext (a : Parsed s t) (stamp : Stamp) (table : Table 8 MatcherEntry) (later : Bool) (k : Fin 8) (rest : List (Fin 8)) :
    Parsed s (fireNext stamp table later k rest t) := by
  have coming : Parsed s (if (table.get k).action == .exchange then t.setComing { t.instantHealth.coming with
      exchange := later || rest.any fun j => (table.get j).action == .exchange } else t) :=
    .ite (fun _ => a.frame (bs := [.health]) (Touches.refl.setComing (by decide))) fun _ => a
  exact ((coming.frame (bs := [.matchers, .ports]) (touches_firing _ stamp k)).perform (table.get k)).frame (bs := [.matchers])
    (Touches.refl.setMatchers (by decide))

theorem Parsed.matchersRead (a : Parsed s t) (x : Acceptance) : Parsed s (t.matchersRead x) := by
  rw [matchersRead_eq]
  exact fireAll_keeps (I := Parsed s) (fun j _ rest v b => b.fireNext _ _ _ j rest) _ (a.frame (touches_remembered t x))

theorem Parsed.readerTakes (a : Parsed s t) (x : Acceptance) (y : BeaconReader) : Parsed s (State.readerTakes x t y) := by
  cases y with
  | health => exact a.takeAcceptance.healthReads x
  | guardMonitor => exact a.takeAcceptance.guardReads x
  | alignment => exact a.alignmentReads x
  | showClock => exact a.takeAcceptance.clockReads x
  | matchers => exact a.takeAcceptance.matchersRead x
  | arbiter => exact a.takeAcceptance.arbiterReads x
  | bankStore => exact a.takeAcceptance.bankReads x
  | groupMixer => exact a.takeAcceptance.groupsRead x
  | otherParser => exact a.takeAcceptance.otherReads x

theorem Parsed.readersTake (x : Acceptance) : ∀ (l : List BeaconReader) {t : State}, Parsed s t → Parsed s (State.readersTake x l t)
  | [], _, a => a
  | y :: rest, _, a => Parsed.readersTake x rest
      ((a.frame (bs := [.health]) (Touches.refl.setComing (by decide))).readerTakes x y)

/-- R28: the readers of an accepted beacon, and the handing on after them, leave the parsers but for DIVERGED. -/
theorem parsed_readers (s : State) (x : Acceptance) (l : List BeaconReader) :
    Parsed s ((State.readersTake x l s).setComing Coming.none).handNew :=
  (((Parsed.readersTake x l (.refl s)).frame (bs := [.health]) (Touches.refl.setComing (by decide))).handSettled .a).handSettled .b

/-! ### The record of a valid beacon (R27, R28) -/

theorem transportByte_transportOf {b : Byte} (h : (transportOf b).isSome = true) : transportByte ((transportOf b).getD .stopped) = b := by
  unfold transportOf at h ⊢
  split at h
  · rename_i zero
    rw [if_pos zero, zero]
    rfl
  · rename_i notZero
    rw [if_neg notZero]
    split at h
    · rename_i one
      rw [if_pos one, one]
      rfl
    · rename_i notOne
      rw [if_neg notOne]
      split at h
      · rename_i two
        rw [if_pos two, two]
        rfl
      · cases h

theorem transportOf_playing {b : Byte} : (transportOf b).getD .stopped = .playing ↔ b = 2 := by
  unfold transportOf
  split
  · rename_i zero
    simp [zero]
  · split
    · rename_i one
      simp [one]
    · split
      · rename_i two
        simp [two]
      · rename_i other
        exact iff_of_false (by decide) other

theorem ofNat_nat32 (a b c d : Byte) : BitVec.ofNat 32 (nat32 a b c d) = a ++ b ++ c ++ d := by
  have ha := a.isLt
  have hb := b.isLt
  have hc := c.isLt
  have hd := d.isLt
  apply BitVec.eq_of_toNat_eq
  rw [BitVec.toNat_ofNat, BitVec.toNat_append, BitVec.toNat_append, toNat_append_bytes, ← Nat.shiftLeft_add_eq_or_of_lt hc,
    ← Nat.shiftLeft_add_eq_or_of_lt hd, Nat.shiftLeft_eq, Nat.shiftLeft_eq]
  unfold nat32 nat16
  omega

/-- R36: what the records say of DIVERGED. -/
theorem divergedBy_iff {a : HealthState} : s.divergedBy r a = true ↔ ∃ mine theirs : RigRecord, (s.parsers.get r).record = some mine ∧
    mine.transport ≠ .playing ∧ (s.parsers.get r.other).record = some theirs ∧ theirs.transport = .playing ∧ a ≠ .failed ∧
    a ≠ .offline := by
  have up : (!a.down) = true ↔ a ≠ .failed ∧ a ≠ .offline := by cases a <;> decide
  unfold State.divergedBy
  rw [Bool.and_eq_true, Bool.and_eq_true, up]
  cases mine : (s.parsers.get r).record with
  | none => simp [Parser.notPlaying, mine]
  | some m =>
    cases theirs : (s.parsers.get r.other).record with
    | none => simp [Parser.playing, theirs]
    | some o => simp [Parser.notPlaying, Parser.playing, mine, theirs, and_assoc]

theorem reDivergedBy_diverged (s : State) (r : Rig) (a : HealthState) :
    ((s.reDivergedBy r a).parsers.get r).diverged = s.divergedBy r a := by
  unfold State.reDivergedBy
  dsimp only
  split
  · rename_i same
    exact same.symm
  · split
    · rw [(Touches.refl.noteEvidence (by decide) : Touches [.health] (s.setParser r _) _).parsers, State.setParser, setParsers_parsers,
        PerRig.get_set_same]
    · rw [State.setParser, setParsers_parsers, PerRig.get_set_same]

/-- R36: DIVERGED is no evidence where the records do not call for it, and is flagged where it becomes present. -/
theorem reDivergedBy_health (s : State) (r : Rig) (a : HealthState) :
    (s.divergedBy r a = false → (s.reDivergedBy r a).health = s.health) ∧
      (s.divergedBy r a = true → (s.parsers.get r).diverged = false → (s.health.get r).state ≠ .offline →
        ((s.reDivergedBy r a).health.get r).flags.get FaultKind.diverged.idx = true) := by
  unfold State.reDivergedBy
  dsimp only
  refine ⟨fun none => ?_, fun now before on => ?_⟩
  · rw [none]
    split <;> rfl
  · rw [now, before, if_neg (by decide), if_pos rfl]
    exact noteEvidence_flag (s := s.setParser r _) on rfl

/-- R28, R34 to R36: what its own parser makes of a valid beacon. -/
theorem replaceRecord_leaves (s : State) (r : Rig) (j : Judging) :
    let new := recordOf j.bytes j.stamp ((s.parsers.get r).valid + 1)
    let u := s.replaceRecord r j
    Touches [.parsers] s u ∧ u.parsers.get r.other = s.parsers.get r.other ∧ u.parsers.get r = { s.parsers.get r with
      record := some new, valid := (s.parsers.get r).valid + 1, missing := false, selfFault := new.flags.fault
      age := some (min 65535 (s.clock.count - j.stamp).toNat), diverged := (u.parsers.get r).diverged } ∧
      ((u.parsers.get r).diverged = true ↔ new.transport ≠ .playing ∧ ∃ theirs, (s.parsers.get r.other).record = some theirs ∧
        theirs.transport = .playing ∧ s.handed r.other ≠ .failed ∧ s.handed r.other ≠ .offline) := by
  intro new u
  have ne : r.other ≠ r := by cases r <;> decide
  generalize hv : s.setParser r { s.parsers.get r with
    record := some new, valid := (s.parsers.get r).valid + 1, missing := false, selfFault := new.flags.fault
    age := some (min 65535 (s.clock.count - j.stamp).toNat) } = v
  have own : v.parsers.get r = { s.parsers.get r with
      record := some new, valid := (s.parsers.get r).valid + 1, missing := false, selfFault := new.flags.fault
      age := some (min 65535 (s.clock.count - j.stamp).toNat) } := by
    rw [← hv, State.setParser, setParsers_parsers, PerRig.get_set_same]
  have other : v.parsers.get r.other = s.parsers.get r.other := by
    rw [← hv, State.setParser, setParsers_parsers, PerRig.get_set, if_neg ne]
  have result : u = v.setParser r { v.parsers.get r with diverged := v.divergedNow r } := by rw [← hv]; rfl
  have marked : u.parsers.get r = { v.parsers.get r with diverged := v.divergedNow r } := by
    rw [result, State.setParser, setParsers_parsers, PerRig.get_set_same]
  refine ⟨?_, ?_, ?_, ?_⟩
  · rw [result, ← hv]
    exact (Touches.refl.setParser (by decide)).setParser (by decide)
  · rw [result, State.setParser, setParsers_parsers, PerRig.get_set, if_neg ne, other]
  · rw [marked, own]
  · rw [marked]
    change v.divergedBy r (v.handed r.other) = true ↔ _
    have handed : v.handed r.other = s.handed r.other := by rw [← hv]; rfl
    rw [divergedBy_iff, own, other, handed]
    constructor
    · rintro ⟨mine, theirs, hm, not, rest⟩
      rw [← Option.some.inj hm] at not
      exact ⟨not, theirs, rest⟩
    · rintro ⟨not, theirs, rest⟩
      exact ⟨new, theirs, rfl, not, rest⟩

/-! ### The event of a valid beacon (R30 to R33, R142) -/

theorem get_kindIf {c : Bool} {k : FaultKind} {i : Fin 11} : (kindIf c k).get i = true ↔ i = k.idx ∧ c = true := by
  unfold kindIf
  cases c with
  | false => simp
  | true =>
    rw [if_pos rfl, oneKind]
    by_cases same : i = k.idx
    · rw [same, Table.get_set_same]
      exact iff_of_true rfl ⟨rfl, rfl⟩
    · rw [Table.get_set_ne _ _ _ _ (Ne.symm same)]
      simp [same]

theorem songBoundary_iff {old : Option RigRecord} {new : RigRecord} : songBoundary old new = true ↔ ∃ o, old = some o ∧
    (new.song ≠ o.song ∨ (o.transport = .playing ∧ new.transport ≠ .playing)) := by
  cases old <;> simp [songBoundary]

theorem handoverRequest_iff {old : Option RigRecord} {new : RigRecord} : handoverRequest old new = true ↔
    new.flags.handoverRequest = true ∧ ∀ o, old = some o → o.flags.handoverRequest = false := by
  cases old <;> simp [handoverRequest]

theorem sequenceEvent_iff {old : Option RigRecord} {new : RigRecord} : sequenceEvent old new = true ↔ ∃ o, old = some o ∧
    new.sequence ≠ o.sequence + 1 := by
  cases old <;> simp [sequenceEvent]

theorem positionEvent_iff {n : Nat} {old : Option RigRecord} {new : RigRecord} : positionEvent n old new = true ↔ ∃ o, old = some o ∧
    o.transport = .playing ∧ new.transport = .playing ∧ o.song = new.song ∧
    n < (new.position - (o.position + (new.stamp - o.stamp))).toInt.natAbs := by
  cases old <;> simp [positionEvent, deviation, stampDiff, and_assoc]

/-- R30, R31, R35, R36: the evidence of an accepted beacon. -/
theorem acceptance_kinds (s : State) (r : Rig) (j : Judging) (k : Fin 11) :
    let old := s.parsers.get r
    let x := s.acceptance r j
    let new := x.new
    x.kinds.get k = true ↔ (k = FaultKind.sequence.idx ∧ ∃ o, old.record = some o ∧ new.sequence ≠ o.sequence + 1) ∨
      (k = FaultKind.position.idx ∧ ∃ o, old.record = some o ∧ o.transport = .playing ∧ new.transport = .playing ∧
        o.song = new.song ∧ s.bank.front.monitor.positionTolerance <
          (new.position - (o.position + (new.stamp - o.stamp))).toInt.natAbs) ∨
      (k = FaultKind.self.idx ∧ old.selfFault = false ∧ (new.flags.engineFault = true ∨ new.flags.mediaFault = true)) ∨
      (k = FaultKind.diverged.idx ∧ old.diverged = false ∧ new.transport ≠ .playing ∧
        ∃ theirs, (s.parsers.get r.other).record = some theirs ∧ theirs.transport = .playing ∧
          s.handed r.other ≠ .failed ∧ s.handed r.other ≠ .offline) := by
  intro old x new
  obtain ⟨touched, -, own, diverged⟩ := replaceRecord_leaves s r j
  have self : ((s.replaceRecord r j).parsers.get r).selfFault = true ↔ new.flags.engineFault = true ∨ new.flags.mediaFault = true := by
    rw [own]
    exact iff_of_eq (Bool.or_eq_true ..)
  have kinds : x.kinds = (s.replaceRecord r j).acceptedKinds r old new := rfl
  have record : recordOf j.bytes j.stamp ((s.parsers.get r).valid + 1) = new := rfl
  rw [record] at diverged
  rw [kinds, State.acceptedKinds]
  clear_value new x old
  simp only [KindSet.get_union, Bool.or_eq_true, get_kindIf, Bool.and_eq_true, Bool.not_eq_true', sequenceEvent_iff, positionEvent_iff,
    diverged, self, touched.bank]
  rw [or_assoc, and_comm (b := old.selfFault = false), and_comm (b := old.diverged = false)]

/-- R142, log 45: the mark of an AT_SONG exchange at a boundary of the on-air rig. -/
theorem acceptance_rebases (s : State) (r : Rig) (j : Judging) : (s.acceptance r j).rebases = true ↔ (s.acceptance r j).boundary = true ∧
    s.arbiter.onAir = some r ∧ s.showClock.jumped = false ∧ ∃ e, s.bank.exchange = some e ∧ e.timing = .atSong := by
  have pends : (match s.bank.exchange with | none => false | some e => e.timing == .atSong) = true ↔
      ∃ e, s.bank.exchange = some e ∧ e.timing = .atSong := by
    cases s.bank.exchange <;> simp
  have mark : (s.acceptance r j).rebases = ((s.acceptance r j).boundary && s.arbiter.onAir == some r &&
      (match s.bank.exchange with | none => false | some e => e.timing == .atSong) && !s.showClock.jumped) := rfl
  rw [mark]
  generalize (s.acceptance r j).boundary = boundary
  simp only [Bool.and_eq_true, beq_iff_eq, Bool.not_eq_true', pends, and_assoc]
  exact and_congr_right fun _ => and_congr_right fun _ => and_comm

/-! ### The order of the readers (log 12) -/

/-- Every block of a list once, each at its first place. -/
def firstPlaces (l order : List BeaconReader) : List BeaconReader := order.foldl (fun l x => if l.contains x then l else l ++ [x]) l

theorem firstPlaces_nodup : ∀ (order : List BeaconReader) {l : List BeaconReader}, l.Nodup → (firstPlaces l order).Nodup
  | [], _, h => h
  | x :: order, l, h => by
    refine firstPlaces_nodup order ?_
    dsimp only
    split
    · exact h
    · rename_i fresh
      rw [← List.concat_eq_append]
      exact h.concat (by simpa using fresh)

theorem firstPlaces_fresh : ∀ (order : List BeaconReader) {l : List BeaconReader}, (l ++ order).Nodup → firstPlaces l order = l ++ order
  | [], l, _ => (List.append_nil l).symm
  | x :: order, l, h => by
    have fresh : l.contains x = false := by
      have := (List.nodup_append.mp h).2.2
      simp only [List.contains_eq_mem, decide_eq_false_iff_not]
      exact fun hx => this x hx x (by simp) rfl
    have step : firstPlaces l (x :: order) = firstPlaces (l ++ [x]) order := by
      unfold firstPlaces
      rw [List.foldl_cons, fresh]
      rfl
    rw [step, firstPlaces_fresh order (by rwa [List.append_assoc]), List.append_assoc]
    rfl

theorem readerOrder_eq (order : List BeaconReader) : readerOrder order = firstPlaces [] order ++ defaultOrder.filter fun x =>
    !(firstPlaces [] order).contains x := rfl

theorem readerOrder_complete (order : List BeaconReader) : (readerOrder order).Nodup ∧ (∀ y, y ∈ readerOrder order) ∧
    (order.Nodup → order <+: readerOrder order) := by
  have all : ∀ y, y ∈ defaultOrder := fun y => by cases y <;> decide
  rw [readerOrder_eq]
  refine ⟨?_, fun y => ?_, fun h => ?_⟩
  · refine List.nodup_append.mpr ⟨firstPlaces_nodup order List.nodup_nil, List.Nodup.filter _ (by decide), fun a ha b hb same => ?_⟩
    rw [List.mem_filter, ← same] at hb
    simp [ha] at hb
  · rw [List.mem_append, List.mem_filter]
    by_cases named : y ∈ firstPlaces [] order
    · exact .inl named
    · exact .inr ⟨all y, by simpa using named⟩
  · rw [firstPlaces_fresh order (by simpa using h)]
    exact List.prefix_append order _

/-! ### A rig that leaves OFFLINE (R49) -/

/-- R49: the health of a rig that leaves OFFLINE with the conditions `now` present. -/
theorem Health.leaveOffline_leaves (off : h.state = .offline) :
    let g := h.leaveOffline f now
    let failing := fun i => now.get i = true ∧ (f.get i).enabled = true
    g.flags = now ∧ g.restore = 0 ∧ g.qualifying = h.qualifying ∧
    ((∀ i, ¬ failing i) → g.state = .recovering ∧ g.failures = h.failures ∧ g.history = h.history ∧ g.counters = h.counters) ∧
    ((∃ i, failing i) → g.state = .failed ∧ g.failures = min 255 (h.failures + 1) ∧
      ∀ i, (failing i → g.counters.get i = (f.get i).delay ∧ g.history.get i = true) ∧
        (¬ failing i → g.counters.get i = h.counters.get i ∧ g.history.get i = h.history.get i)) := by
  intro g failing
  have left : g = if (now.filter (enabledIn f)).nonempty then
      ({ h with state := .recovering, restore := 0, flags := now } : Health).relapse f (now.filter (enabledIn f))
      else { h with state := .recovering, restore := 0, flags := now } := if_pos off
  by_cases some : (now.filter (enabledIn f)).nonempty = true
  · rw [if_pos some] at left
    rw [left]
    obtain ⟨joins, counters⟩ := Health.relapseWith_joins (kinds := now) (f := f)
      (h := { ({ h with state := .recovering, restore := 0, flags := now } : Health).fail (now.filter (enabledIn f)) with
        restore := 0, relapsed := true })
    refine ⟨rfl, rfl, rfl, fun none => ?_, fun _ => ⟨rfl, rfl, fun i => ⟨fun hi => ⟨?_, ?_⟩, fun hi => ⟨?_, ?_⟩⟩⟩⟩
    · obtain ⟨i, hi⟩ := enabled_iff.mp some
      exact absurd hi (none i)
    · exact (counters i).trans (if_pos hi)
    · exact (joins i).mpr (.inr hi)
    · exact (counters i).trans (if_neg hi)
    · have never : (now.filter (enabledIn f)).get i = false := by
        rw [Bool.eq_false_iff, ne_eq, get_enabled]
        exact hi
      change ((h.history.union (now.filter (enabledIn f))).union (now.filter (enabledIn f))).get i = _
      simp [never]
  · rw [if_neg some] at left
    rw [left]
    refine ⟨rfl, rfl, rfl, fun _ => ⟨rfl, rfl, rfl, rfl⟩, fun any => ?_⟩
    exact absurd (enabled_iff.mpr any) some

/-- R52, R55: a FAILED rig that no absence, tick end or guard decision can still move, or a RECOVERING one that nothing of the instant can
still move, is settled. -/
theorem settled_of_quiet (unguarded : v.instantHealth.unguarded = none) (evidence : v.evidenceDue r = false)
    (exchange : v.exchangeDue = false) (idle : (v.health.get r).qualifying = noKinds)
    (state : (v.health.get r).state = .failed ∨ ((v.health.get r).state = .recovering ∧ (v.health.get r).restoreDue v.restoreTime = false)) :
    v.unsettled r = false := by
  have held : v.guardHeld r = false := State.guardHeld_of_none unguarded
  have none : (v.health.get r).qualifying.nonempty = false := by rw [idle]; decide
  have parts := evidence
  simp only [State.evidenceDue, Bool.or_eq_false_iff] at parts
  obtain ⟨⟨⟨⟨⟨⟨⟨tick, -⟩, -⟩, absence⟩, -⟩, -⟩, -⟩, -⟩ := parts
  unfold State.unsettled
  rcases state with failed | ⟨recovering, short⟩
  · simp only [failed, held, absence, tick, Bool.false_and, Bool.or_false]
  · simp only [recovering, held, evidence, none, exchange, short, Bool.or_false]

/-- Settles O41: the record and the event of a valid beacon, the readers in their order (`parsed_readers`), DIVERGED re-examined, and the
rig that leaves OFFLINE. -/
theorem beaconAccepted : Obligations.BeaconAccepted := by
  refine ⟨?_, readerOrder_complete, fun x s => ⟨rfl, fun y rest => ?_⟩, fun s x => ?_, ?_, ?_⟩
  · intro s r order j p b old q x u new judging integrity identity
    refine ⟨p.judgeBeacon r order, exec_beaconComplete s r order, ?_⟩
    clear_value p
    have own : q.parsers.get r = { old with judging := none } := by
      rw [show q = p.setParser r { old with judging := none } from rfl, State.setParser, setParsers_parsers, PerRig.get_set_same]
    have ne : r.other ≠ r := by cases r <;> decide
    have other : q.parsers.get r.other = p.parsers.get r.other := by
      rw [show q = p.setParser r { old with judging := none } from rfl, State.setParser, setParsers_parsers, PerRig.get_set, if_neg ne]
    have judged : p.judgeBeacon r order = ((State.readersTake x (readerOrder order) u).setComing Coming.none).handNew := by
      have named : identityOk r j.bytes = true := beq_iff_eq.mpr identity
      simp only [State.judgeBeacon, show (p.parsers.get r).judging = some j from judging, integrity, named, Bool.not_true,
        Bool.false_eq_true, if_false]
      rfl
    obtain ⟨touched, uOther, uOwn, diverged⟩ := replaceRecord_leaves q r j
    have kept := parsed_readers u x (readerOrder order) r
    rw [← judged] at kept
    have record : recordOf j.bytes j.stamp ((q.parsers.get r).valid + 1) = new := rfl
    rw [record] at uOwn diverged
    rw [own] at uOwn
    rw [other] at uOther diverged
    have first : Touches [.parsers] p q := Touches.refl.setParser (by decide)
    have transport : (transportOf (b 4)).isSome = true := by
      simp only [integrityOk, Bool.and_eq_true] at integrity
      exact integrity.2
    have valid : (q.parsers.get r).valid = old.valid := by rw [own]
    rw [kept, uOwn]
    refine ⟨judged, first.trans touched, uOther, rfl, by rw [uOwn], rfl, rfl, rfl, by rw [← valid]; rfl, rfl, rfl, rfl, rfl,
      transportByte_transportOf transport, rfl, rfl, rfl, ?_, ?_, ?_, rfl, rfl, rfl, ?_, ?_, fun k => ?_, ?_⟩
    · exact ofNat_nat32 ..
    · change BitVec.ofNat 16 (nat16 (b 12) (b 13)) = b 12 ++ b 13
      rw [← toNat_append_bytes, BitVec.ofNat_toNat, BitVec.setWidth_eq]
    · change (if new.transport = .playing then _ else _) = _
      exact if_congr transportOf_playing rfl rfl
    · change songBoundary (q.parsers.get r).record new = true ↔ _
      rw [songBoundary_iff, own]
    · change handoverRequest (q.parsers.get r).record new = true ↔ _
      rw [handoverRequest_iff, own]
    · have kinds := acceptance_kinds q r j k
      rw [own, other] at kinds
      exact kinds
    · exact acceptance_rebases q r j
  · cases y <;> rfl
  · have guards : (s.guardReads x).guards = if x.new.transport = .playing then s.guards
        else s.guards.set x.rig { s.guards.get x.rig with playing := false } := by
      unfold State.guardReads
      split <;> rfl
    refine ⟨?_, fun r => ?_⟩
    · unfold State.guardReads
      split
      · exact .refl
      · exact Touches.refl.setGuard (by decide)
    · rw [guards]
      by_cases playing : x.new.transport = .playing
      · rw [if_pos playing, if_neg fun h => h.2 playing]
      · rw [if_neg playing, PerRig.get_set]
        by_cases same : r = x.rig
        · rw [if_pos same, if_pos ⟨same, playing⟩, same]
        · rw [if_neg same, if_neg fun h => same h.1]
  · intro s r t present
    have ne : r.other ≠ r := by cases r <;> decide
    have now : s.divergedBy r (s.handed r.other) = true ↔ present := divergedBy_iff
    obtain ⟨quiet, flagged⟩ := reDivergedBy_health s r (s.handed r.other)
    refine ⟨Touches.refl.reDiverged (by decide), by rw [show t = s.reDivergedBy r _ from rfl, reDivergedBy_other s _ ne],
      (reDivergedBy_parsers s r r.other _).2 ne, (reDivergedBy_parsers s r r _).1, ?_, fun not => quiet ?_, fun h => flagged (now.mpr h)⟩
    · rw [show t = s.reDivergedBy r _ from rfl, reDivergedBy_diverged, now]
    · rw [Bool.eq_false_iff, ne_eq, now]
      exact not
  · intro s x h f now t g failing off none other
    generalize hm : ((now.set FaultKind.silent.idx false).set FaultKind.frozen.idx false) = unguarded
    generalize hv : s.moveHealthBy x.rig (·.leaveOffline f now) (·.leaveOffline f unguarded) = v
    have ne : x.rig.other ≠ x.rig := by cases x.rig <;> decide
    have taken : t = v.handSettled x.rig := by
      rw [← hv, ← hm]
      exact if_pos off
    have touched : Touches [.health] s v := by rw [← hv]; exact Touches.refl.moveHealthBy (by decide)
    have health : v.health = s.health.set x.rig (h.leaveOffline f now) := by rw [← hv]; exact State.moveHealthBy_health ..
    have handed : ∀ q, v.handed q = s.handed q := fun q => by rw [← hv]; exact State.moveHealthBy_handed ..
    have own : v.health.get x.rig = h.leaveOffline f now := by rw [health, PerRig.get_set_same]
    have rests : v.handed x.rig.other = (v.health.get x.rig.other).state := by
      rw [handed, health, PerRig.get_set, if_neg ne, other]
    obtain ⟨kept, leaves⟩ := handSettledWith_own standing_run (by rw [touched.bank]; exact none) rests
    have result : g = h.leaveOffline f now := (congrArg (fun z => State.health z |>.get x.rig) taken).trans (kept.trans own)
    obtain ⟨flags, restore, qualifying, clean, fails⟩ := Health.leaveOffline_leaves (f := f) (now := now) off
    rw [← result] at flags restore qualifying clean fails
    refine ⟨flags, restore, clean, fails, fun time idle free exchange evidence last => ?_⟩
    have set : v = s.setRigHealth x.rig (h.leaveOffline f now) := by
      rw [← hv]
      exact State.moveHealthBy_of_none _ _ free
    have instant : v.instantHealth = s.instantHealth := by rw [set]; rfl
    have state : g.state = .failed ∨ g.state = .recovering := by
      by_cases any : ∃ i, failing i
      · exact .inl (fails any).1
      · exact .inr (clean fun i hi => any ⟨i, hi⟩).1
    have near : v.evidenceDue x.rig = s.evidenceDue x.rig := by
      have rises : v.mayRise x.rig.other = s.mayRise x.rig.other := by
        rw [State.mayRise_of_handed (by rw [instant]; exact free) rests, State.mayRise_of_handed free other]
      unfold State.evidenceDue State.divergenceDue
      rw [rises, set]
      rfl
    have settled : v.unsettled x.rig = false := by
      refine settled_of_quiet (by rw [instant]; exact free) (near.trans evidence) ?_ ?_ ?_
      · rw [set]
        exact exchange
      · rw [own, ← result, qualifying]
        exact idle
      · rw [own, ← result]
        refine state.imp_right fun recovering => ⟨recovering, ?_⟩
        have short : ¬ v.restoreTime ≤ g.restore := by
          rw [restore, State.restoreTime, touched.bank]
          exact fun h => time (Nat.le_zero.mp h)
        simp [Health.restoreDue, short]
    have fresh : v.handed x.rig ≠ (v.health.get x.rig).state := by
      rw [handed, last, own, ← result]
      rcases state with h | h <;> rw [h] <;> exact HealthState.noConfusion
    have done := leaves settled fresh
    rw [taken]
    exact ⟨done.noted, done.handed.trans (by rw [own, ← result])⟩

end Sys2Proof.Machine

/-! PROOFS. The end of a health tick (sections 3.1 to 3.4, 4.4). -/

namespace Sys2Proof.Machine

open Sys2Proof

/- In order: bodies elaborated side by side while the kernel still checks the text above each hold a thread's stack. -/
set_option Elab.async false

variable {s t u v w x : State} {r k : Rig} {run : State → State} {h g : Health} {f : Table 11 FaultEntry} {time : Nat}
  {kinds C : KindSet}

/-! ### The kinds of the judgement itself -/

/-- R40: the kinds that can become present by the judgement of a tick end. -/
def judged (i : Fin 11) : Prop := i = FaultKind.silent.idx ∨ i = FaultKind.frozen.idx ∨ i = FaultKind.diverged.idx

/-- R46: the counters after a tick end whose ending flags are those of `h`. -/
def Health.stepped (h : Health) (f : Table 11 FaultEntry) (i : Fin 11) : Nat :=
  if h.flags.get i then min (f.get i).delay (h.counters.get i + 1) else 0

/-- R40, R46, R54: what a tick end has made of the health `h`, the conditions `C` being present, before the states are judged. -/
structure Ticking (h : Health) (f : Table 11 FaultEntry) (time : Nat) (C : KindSet) (g : Health) : Prop where
  flags : ∀ i, i ≠ FaultKind.diverged.idx → g.flags.get i = C.get i
  qualifying : ∀ i, g.qualifying.get i = true ↔ (f.get i).enabled = true ∧ h.flags.get i = true ∧ h.counters.get i + 1 = (f.get i).delay
  counters : ∀ i, ¬ judged i → g.counters.get i = h.stepped f i
  on : g.state ≠ .offline
  suspect : h.state = .suspect → g.state = .suspect ∨ g.state = .failed
  failed : h.state = .failed → g.state = .failed
  restore : h.state = .recovering → g.state = .recovering → g.restore = min time (h.restore + 1)
  quiet : (∀ i, (f.get i).enabled = true → g.flags.get i = false) → g.state = h.state

/-- Evidence never leaves a rig RECOVERING that it moves. -/
theorem Health.evidence_recovering_iff (some : (kinds.filter (enabledIn f)).nonempty = true) :
    (h.evidence f time kinds).state ≠ .recovering := by
  cases state : h.state with
  | offline =>
    rw [Health.evidence_offline state, state]
    exact HealthState.noConfusion
  | healthy =>
    rw [Health.evidence_up (.inl (.inl state)) some]
    split <;> exact HealthState.noConfusion
  | suspect =>
    rw [Health.evidence_up (.inl (.inr state)) some]
    split <;> exact HealthState.noConfusion
  | failed =>
    rw [Health.evidence_down (by rw [state]; rfl), state]
    exact HealthState.noConfusion
  | recovering =>
    by_cases full : time ≤ h.restore
    · rw [Health.evidence_up (.inr ⟨state, full⟩) some]
      split <;> exact HealthState.noConfusion
    · rw [Health.evidence_recovering state (Nat.lt_of_not_le full) some]
      exact HealthState.noConfusion

/-- Evidence leaves what is left to qualify, and the counters of the other kinds. -/
theorem Health.evidence_keeps : (h.evidence f time kinds).qualifying = h.qualifying ∧
    ∀ i, kinds.get i = false → (h.evidence f time kinds).counters.get i = h.counters.get i := by
  have relapse : ∀ g : Health, ∀ i, kinds.get i = false →
      (g.relapseWith f (kinds.filter (enabledIn f))).counters.get i = g.counters.get i := fun g i none =>
    (Health.relapseWith_joins.2 i).trans (if_neg fun both => by rw [none] at both; exact nomatch both.1)
  by_cases off : h.state = .offline
  · rw [Health.evidence_offline off]
    exact ⟨rfl, fun _ _ => rfl⟩
  · cases some : (kinds.filter (enabledIn f)).nonempty with
    | false =>
      rw [Health.evidence_disabled off some]
      exact ⟨rfl, fun _ _ => rfl⟩
    | true =>
      cases state : h.state with
      | offline => exact absurd state off
      | healthy =>
        rw [Health.evidence_up (.inl (.inl state)) some]
        split <;> exact ⟨rfl, fun _ _ => rfl⟩
      | suspect =>
        rw [Health.evidence_up (.inl (.inr state)) some]
        split <;> exact ⟨rfl, fun _ _ => rfl⟩
      | failed =>
        rw [Health.evidence_failed state some]
        split
        · exact ⟨rfl, relapse _⟩
        · exact ⟨rfl, fun _ _ => rfl⟩
      | recovering =>
        by_cases full : time ≤ h.restore
        · rw [Health.evidence_up (.inr ⟨state, full⟩) some]
          split <;> exact ⟨rfl, fun _ _ => rfl⟩
        · rw [Health.evidence_recovering state (Nat.lt_of_not_le full) some]
          exact ⟨rfl, relapse _⟩

/-- R40: the evidence of a judged kind that is present at the end of the tick. -/
theorem Ticking.evidence (a : Ticking h f time C g) (hk : ∀ i, kinds.get i = true → judged i ∧ (i ≠ FaultKind.diverged.idx → C.get i = true)) :
    Ticking h f time C (g.evidence f time kinds) := by
  have flags := Health.evidence_flags (f := f) (time := time) (kinds := kinds) a.on
  obtain ⟨qualifying, counters⟩ := Health.evidence_keeps (h := g) (f := f) (time := time) (kinds := kinds)
  have same : (kinds.filter (enabledIn f)).nonempty = false → g.evidence f time kinds = { g with flags := g.flags.union kinds } :=
    fun none => Health.evidence_disabled a.on none
  have spread : ∀ st : HealthState, g.state = st → st = .suspect ∨ st = .failed →
      (g.evidence f time kinds).state = .suspect ∨ (g.evidence f time kinds).state = .failed := by
    intro st hs either
    cases some : (kinds.filter (enabledIn f)).nonempty with
    | false =>
      rw [same some, hs]
      exact either
    | true =>
      rcases either with rfl | rfl
      · rw [Health.evidence_up (.inl (.inr hs)) some]
        split
        · exact .inr rfl
        · exact .inl rfl
      · exact .inr ((Health.evidence_down (by rw [hs]; rfl)).trans hs)
  refine ⟨fun i hi => ?_, fun i => by rw [qualifying]; exact a.qualifying i, fun i hi => ?_, ?_, fun hs => ?_, fun hs => ?_, fun hs now => ?_,
    fun clean => ?_⟩
  · rw [flags, KindSet.get_union, a.flags i hi]
    cases set : kinds.get i with
    | false => rw [Bool.or_false]
    | true => rw [(hk i set).2 hi, Bool.or_true]
  · rw [counters i ?_, a.counters i hi]
    rw [Bool.eq_false_iff]
    exact fun set => hi (hk i set).1
  · exact Health.evidence_online a.on
  · exact spread _ rfl (a.suspect hs)
  · rw [Health.evidence_down (by rw [a.failed hs]; rfl), a.failed hs]
  · cases some : (kinds.filter (enabledIn f)).nonempty with
    | true => exact absurd now (Health.evidence_recovering_iff some)
    | false =>
      rw [same some] at now ⊢
      exact a.restore hs now
  · have none : (kinds.filter (enabledIn f)).nonempty = false := by
      rw [Bool.eq_false_iff, ne_eq, enabled_iff]
      rintro ⟨i, set, enabled⟩
      have := clean i enabled
      rw [flags, KindSet.get_union, set, Bool.or_true] at this
      cases this
    rw [same none]
    refine a.quiet fun i enabled => ?_
    have := clean i enabled
    rw [flags, KindSet.get_union, Bool.or_eq_false_iff] at this
    exact this.1

theorem Ticking.noteEvidence (a : Ticking h v.bank.front.fault v.restoreTime C (v.health.get r))
    (hk : ∀ i, kinds.get i = true → judged i ∧ (i ≠ FaultKind.diverged.idx → C.get i = true)) :
    Ticking h v.bank.front.fault v.restoreTime C ((v.noteEvidence r kinds).health.get r) := by
  rw [State.noteEvidence, State.moveHealth_health, PerRig.get_set_same]
  obtain ⟨flags, qualifying, counters, online, suspect, failed, restore, quiet⟩ := a
  exact Ticking.evidence (g := { v.health.get r with events := _ })
    ⟨flags, qualifying, counters, online, suspect, failed, restore, quiet⟩ hk

theorem Ticking.reDivergedBy (a : Ticking h v.bank.front.fault v.restoreTime C (v.health.get r)) (other : HealthState) :
    Ticking h v.bank.front.fault v.restoreTime C ((v.reDivergedBy r other).health.get r) := by
  unfold State.reDivergedBy
  dsimp only
  split
  · exact a
  · split
    · refine Ticking.noteEvidence (v := v.setParser r _) a fun i set => ?_
      have same : i = FaultKind.diverged.idx := by
        by_contra ne
        rw [oneKind, Table.get_set_ne _ _ _ _ (Ne.symm ne), get_noKinds] at set
        cases set
      exact ⟨.inr (.inr same), fun ne => absurd same ne⟩
    · exact a

/-- R40, R46, R54: the counters, the restore counter and the flags of the new tick. -/
theorem ticking_counted (on : h.state ≠ .offline) :
    Ticking h f time C { ((({ h with events := noKinds } : Health).count f h.flags).countRestore time) with flags := C } := by
  have state : ((({ h with events := noKinds } : Health).count f h.flags).countRestore time).state = h.state := by
    unfold Health.countRestore
    split <;> rfl
  have same : ((({ h with events := noKinds } : Health).count f h.flags).countRestore time).qualifying =
        (({ h with events := noKinds } : Health).count f h.flags).qualifying ∧
      ((({ h with events := noKinds } : Health).count f h.flags).countRestore time).counters =
        (({ h with events := noKinds } : Health).count f h.flags).counters := by
    unfold Health.countRestore
    split <;> exact ⟨rfl, rfl⟩
  refine ⟨fun i _ => rfl, fun i => ?_, fun i _ => ?_, by rw [state]; exact on, fun hs => ?_, fun hs => by rw [state]; exact hs,
    fun hs _ => ?_, fun _ => state⟩
  · rw [same.1]
    simp only [Health.count, Table.get_tab, Bool.and_eq_true, decide_eq_true_eq]
    constructor
    · rintro ⟨⟨⟨enabled, ended⟩, low⟩, near⟩
      exact ⟨enabled, ended, by omega⟩
    · rintro ⟨enabled, ended, steps⟩
      exact ⟨⟨⟨enabled, ended⟩, by omega⟩, by omega⟩
  · rw [same.2]
    exact Table.get_update ..
  · rw [state]
    exact .inl hs
  · have counted : (({ h with events := noKinds } : Health).count f h.flags).countRestore time =
        { ({ h with events := noKinds } : Health).count f h.flags with restore := min time (h.restore + 1) } := if_pos hs
    rw [counted]

/-! ### The judgement of a rig (R51, R53) -/

/-- R51, R53: a rig's health at a tick end judged on the flags that ended and the new ones. -/
def Health.judgedBy (g : Health) (f : Table 11 FaultEntry) (ended : KindSet) : Health :=
  if (ended.filter (enabledIn f)).nonempty || (g.flags.filter (enabledIn f)).nonempty then g
  else
    match g.state with
    | .suspect => { g with state := .healthy }
    | .failed => { g with state := .recovering, restore := 0 }
    | .offline => g
    | .recovering => g
    | .healthy => g

theorem tickJudge_eq (s : State) (r : Rig) (ended : KindSet) :
    (s.tickJudge r ended).health = s.health.set r ((s.health.get r).judgedBy s.bank.front.fault ended) := by
  have same : s.health = s.health.set r (s.health.get r) := by cases r <;> rfl
  unfold State.tickJudge Health.judgedBy
  dsimp only
  by_cases dirty : ((ended.filter (enabledIn s.bank.front.fault)).nonempty ||
      ((s.health.get r).flags.filter (enabledIn s.bank.front.fault)).nonempty) = true
  · rw [if_pos dirty, if_pos dirty]
    exact same
  · rw [if_neg dirty, if_neg dirty]
    cases (s.health.get r).state with
    | suspect | failed => rfl
    | offline | recovering | healthy => exact same

/-- R51, R53: the outcome of the judgement. -/
theorem Ticking.judgedBy (a : Ticking h f time C g) :
    let j := g.judgedBy f h.flags
    let clean := ∀ k, (f.get k).enabled = true → h.flags.get k = false ∧ j.flags.get k = false
    j.flags = g.flags ∧ j.qualifying = g.qualifying ∧ j.counters = g.counters ∧
    (h.state = .suspect → clean → j.state = .healthy) ∧
    (h.state = .suspect → ¬ clean → j.state = .suspect ∨ j.state = .failed) ∧
    (h.state = .failed → clean → j.state = .recovering ∧ j.restore = 0) ∧
    (h.state = .failed → ¬ clean → j.state = .failed) ∧
    (h.state = .recovering → j.state = .recovering → j.restore = min time (h.restore + 1)) := by
  intro j clean
  have kept : j.flags = g.flags ∧ j.qualifying = g.qualifying ∧ j.counters = g.counters := by
    change (g.judgedBy f h.flags).flags = _ ∧ (g.judgedBy f h.flags).qualifying = _ ∧ (g.judgedBy f h.flags).counters = _
    unfold Health.judgedBy
    split
    · exact ⟨rfl, rfl, rfl⟩
    · split <;> exact ⟨rfl, rfl, rfl⟩
  obtain ⟨flags, qualifying, counters⟩ := kept
  refine ⟨flags, qualifying, counters, ?_⟩
  by_cases hc : clean
  · have none : ((h.flags.filter (enabledIn f)).nonempty || (g.flags.filter (enabledIn f)).nonempty) = false := by
      rw [Bool.or_eq_false_iff, Bool.eq_false_iff, Bool.eq_false_iff, ne_eq, ne_eq, enabled_iff, enabled_iff, ← flags]
      constructor <;> rintro ⟨i, set, enabled⟩
      · rw [(hc i enabled).1] at set
        cases set
      · rw [(hc i enabled).2] at set
        cases set
    have state : g.state = h.state := a.quiet fun i enabled => by rw [← flags]; exact (hc i enabled).2
    have moves : j = match g.state with
        | .suspect => { g with state := .healthy }
        | .failed => { g with state := .recovering, restore := 0 }
        | .offline => g
        | .recovering => g
        | .healthy => g := if_neg (by rw [none]; exact Bool.false_ne_true)
    rw [state] at moves
    refine ⟨fun hs _ => by rw [moves, hs], fun _ not => absurd hc not, fun hs _ => by rw [moves, hs]; exact ⟨rfl, rfl⟩,
      fun _ not => absurd hc not, fun hs now => ?_⟩
    have own : j = g := by rw [moves, hs]
    rw [own] at now ⊢
    exact a.restore hs now
  · have some : ((h.flags.filter (enabledIn f)).nonempty || (g.flags.filter (enabledIn f)).nonempty) = true := by
      rw [Bool.or_eq_true, enabled_iff, enabled_iff, ← flags]
      by_contra neither
      rw [not_or] at neither
      refine hc fun i enabled => ⟨?_, ?_⟩
      · rw [Bool.eq_false_iff]
        exact fun set => neither.1 ⟨i, set, enabled⟩
      · rw [Bool.eq_false_iff]
        exact fun set => neither.2 ⟨i, set, enabled⟩
    have own : j = g := if_pos some
    rw [own]
    exact ⟨fun _ now => absurd now hc, fun hs _ => a.suspect hs,
      fun _ now => absurd now hc, fun hs _ => a.failed hs, a.restore⟩

/-! ### A tick end, rig by rig -/

/-- R44: what the Guard Monitor has decided and begins anew. -/
def Guard.ended (g : Guard) (exponent : Nat) (watched : List (Fin 64)) : Guard :=
  { marks := none, playing := false, void := g.voidNext, voidNext := false
    silent := g.silentDecided
    frozen := g.frozenDecided exponent
    decisions := g.decided watched }

theorem guardTick_guards (s : State) (r : Rig) : (s.guardTick r).guards =
    s.guards.set r ((s.guards.get r).ended s.bank.front.monitor.silenceExponent s.watched) := rfl

/-- R44: the decisions of the marks. -/
theorem ended_silent {g : Guard} {e : Nat} {l : List (Fin 64)} : (g.ended e l).silent = true ↔ g.void = false ∧ g.playing = true ∧
    ∃ ms, g.marks = some ms ∧ ms ≠ [] ∧ ∀ m ∈ ms, m.silent = true := by
  change g.silentDecided = true ↔ _
  unfold Guard.silentDecided
  cases g.marks with
  | none => simp
  | some ms =>
    have filled : (!ms.isEmpty) = true ↔ ms ≠ [] := by cases ms <;> simp
    simp only [Bool.and_eq_true, filled, Bool.not_eq_true', List.all_eq_true, Option.some.injEq, exists_eq_left']
    constructor
    · rintro ⟨⟨⟨void, some⟩, all⟩, playing⟩
      exact ⟨void, playing, some, all⟩
    · rintro ⟨void, playing, some, all⟩
      exact ⟨⟨⟨void, some⟩, all⟩, playing⟩

theorem ended_frozen {g : Guard} {e : Nat} {l : List (Fin 64)} : (g.ended e l).frozen = true ↔ g.void = false ∧
    ∃ ms, g.marks = some ms ∧ ∃ m ∈ ms, m.steady = true ∧ 2 ^ e ≤ m.first.toInt.natAbs := by
  change g.frozenDecided e = true ↔ _
  unfold Guard.frozenDecided
  cases g.marks with
  | none => simp
  | some ms =>
    simp [quiet]

/-- R40, R44, R46, R54: one rig at a tick end, before the states are judged. -/
theorem tickRig_leaves (s : State) (r : Rig) :
    Touches [.guards, .health] s (s.tickRig r) ∧
    (s.tickRig r).guards = s.guards.set r ((s.guards.get r).ended s.bank.front.monitor.silenceExponent s.watched) ∧
    (∀ k, k ≠ r → (s.tickRig r).health.get k = s.health.get k) ∧
    ((s.health.get r).state ≠ .offline →
      Ticking (s.health.get r) s.bank.front.fault s.restoreTime ((s.guardTick r).conditions r) ((s.tickRig r).health.get r)) := by
  generalize hy : s.guardTick r = y
  have touched : Touches [.guards] s y := by rw [← hy]; exact Touches.refl.guardTick (by decide)
  have guards : y.guards = s.guards.set r ((s.guards.get r).ended s.bank.front.monitor.silenceExponent s.watched) := by
    rw [← hy]
    exact guardTick_guards s r
  refine ⟨Touches.refl.tickRig (by decide), ?_, fun k ne => ?_, fun on => ?_⟩
  · rw [← guards]
    unfold State.tickRig
    rw [hy]
    dsimp only
    split
    · rfl
    · exact (Touches.refl.noteEvidence (by decide) : Touches [.health] _ _).guards
  · unfold State.tickRig
    rw [hy]
    dsimp only
    split
    · rw [State.setRigHealth, setHealth_health, PerRig.get_set, if_neg ne, touched.health]
    · rw [State.noteEvidence, State.moveHealth_health, PerRig.get_set, if_neg ne, State.setRigHealth, setHealth_health, PerRig.get_set,
        if_neg ne, touched.health]
  · have own : y.guards.get r = (s.guards.get r).ended s.bank.front.monitor.silenceExponent s.watched := by
      rw [guards, PerRig.get_set_same]
    have counted := ticking_counted (h := s.health.get r) (f := s.bank.front.fault) (time := s.restoreTime) (C := y.conditions r) on
    generalize hg : ({ ((({ s.health.get r with events := noKinds } : Health).count s.bank.front.fault (s.health.get r).flags).countRestore
      s.restoreTime) with flags := y.conditions r } : Health) = g at counted
    generalize hk : KindSet.union (kindIf ((y.guards.get r).silent && !(s.guards.get r).silent) .silent)
      (kindIf ((y.guards.get r).frozen && !(s.guards.get r).frozen) .frozen) = kinds
    have result : s.tickRig r = (y.setRigHealth r g).noteEvidence r kinds := by
      rw [← hk, ← hg, ← hy]
      have bank : (s.guardTick r).bank = s.bank := by rw [hy]; exact touched.bank
      have health : (s.guardTick r).health = s.health := by rw [hy]; exact touched.health
      refine (if_neg ?_).trans ?_
      · rw [health]
        exact on
      · rw [State.restoreTime, bank, health]
        rfl
    have bank : (y.setRigHealth r g).bank = s.bank := touched.bank
    have held : (y.setRigHealth r g).health.get r = g := by rw [State.setRigHealth, setHealth_health, PerRig.get_set_same]
    have through := Ticking.noteEvidence (v := y.setRigHealth r g) (r := r) (kinds := kinds) (h := s.health.get r) (C := y.conditions r)
    rw [State.restoreTime, bank, held, ← result] at through
    refine through counted fun i set => ?_
    rw [← hk, KindSet.get_union, Bool.or_eq_true, get_kindIf, get_kindIf, Bool.and_eq_true, Bool.and_eq_true] at set
    rcases set with ⟨rfl, now, -⟩ | ⟨rfl, now, -⟩
    · exact ⟨.inl rfl, fun _ => now⟩
    · exact ⟨.inr (.inl rfl), fun _ => now⟩

/-! ### Both rigs at a tick end -/

theorem conditions_congr (links : t.links.get r = s.links.get r) (parsers : t.parsers.get r = s.parsers.get r)
    (guards : t.guards.get r = s.guards.get r) : t.conditions r = s.conditions r := by
  unfold State.conditions
  rw [links, parsers, guards]

/-- R40, R44: the conditions present once the Guard Monitor has decided. -/
theorem guardTick_conditions (s : State) (r : Rig) :
    let now := (s.guards.get r).ended s.bank.front.monitor.silenceExponent s.watched
    ((s.guardTick r).conditions r).get FaultKind.silent.idx = now.silent ∧
      ((s.guardTick r).conditions r).get FaultKind.frozen.idx = now.frozen ∧
      ∀ i, i ≠ FaultKind.silent.idx → i ≠ FaultKind.frozen.idx → ((s.guardTick r).conditions r).get i = (s.conditions r).get i := by
  intro now
  have own : (s.guardTick r).guards.get r = now := by rw [guardTick_guards, PerRig.get_set_same]
  refine ⟨?_, ?_, fun i hs hf => ?_⟩
  · simp only [State.conditions, Table.get_tab, own]
    rfl
  · simp only [State.conditions, Table.get_tab, own]
    rfl
  · simp only [State.conditions, Table.get_tab, if_neg hs, if_neg hf]
    rfl

theorem Parsed.divergedBy (a : Parsed s t) (k : Rig) (o : HealthState) : t.divergedBy k o = s.divergedBy k o := by
  unfold State.divergedBy Parser.notPlaying Parser.playing
  rw [a k, a k.other]

/-- R40, log 13: the rig judged first is PLAYING or the other is not, so that it is not DIVERGED. -/
theorem divergedBy_judgedFirst (s : State) (o : HealthState) : s.divergedBy s.judgedFirst o = false := by
  unfold State.judgedFirst State.divergedBy
  cases playing : s.parsers.a.playing with
  | true =>
    have not : s.parsers.a.notPlaying = false := by
      cases record : s.parsers.a.record with
      | none => simp [Parser.notPlaying, record]
      | some rec =>
        simp only [Parser.playing, record, beq_iff_eq] at playing
        simp [Parser.notPlaying, record, playing]
    change (s.parsers.a.notPlaying && _ && _) = false
    rw [not]
    rfl
  | false =>
    change (_ && s.parsers.a.playing && _) = false
    rw [playing, Bool.and_false]
    rfl

/-- R36: DIVERGED of a rig is present wherever the records and the other rig's health call for it. -/
def State.divergedSettled (s : State) (k : Rig) : Prop :=
  s.divergedBy k (s.health.get k.other).state = true → (s.parsers.get k).diverged = true

/-- R40, R51, R53: the tick end of both rigs, and what the judgement leaves of each. -/
theorem judgeTick_leaves (s : State) (r : Rig) (on : (s.health.get r).state ≠ .offline) :
    Touches [.parsers, .guards, .health] s s.judgeTick ∧
    s.judgeTick.guards.get r = (s.guards.get r).ended s.bank.front.monitor.silenceExponent s.watched ∧
    (∃ g, Ticking (s.health.get r) s.bank.front.fault s.restoreTime ((s.guardTick r).conditions r) g ∧
      s.judgeTick.health.get r = g.judgedBy s.bank.front.fault (s.health.get r).flags) ∧
    ∀ k, s.judgeTick.divergedSettled k := by
  generalize hj : s.judgedFirst = j
  obtain ⟨touchedA, guardsA, othersA, tickingA⟩ := tickRig_leaves s .a
  generalize hv1 : s.tickRig .a = v1 at touchedA guardsA othersA tickingA
  obtain ⟨touchedB, guardsB, othersB, tickingB⟩ := tickRig_leaves v1 .b
  generalize hv2 : v1.tickRig .b = v2 at touchedB guardsB othersB tickingB
  generalize hv3 : v2.tickJudge j (s.health.get j).flags = v3
  generalize hv4 : v3.reDivergedJudged j.other = v4
  generalize hv5 : v4.tickJudge j.other (s.health.get j.other).flags = v5
  have result : s.judgeTick = v5.reDivergedJudged j := by
    rw [← hv5, ← hv4, ← hv3, ← hv2, ← hv1, ← hj]
    rfl
  have whole : Touches [.guards, .health] s v2 := touchedA.trans touchedB
  have ticking : ∀ k, (s.health.get k).state ≠ .offline → Ticking (s.health.get k) s.bank.front.fault s.restoreTime
      ((s.guardTick k).conditions k) (v2.health.get k) := by
    intro k on
    cases k with
    | a =>
      rw [othersB .a (by decide)]
      exact tickingA on
    | b =>
      have before : v1.health.get .b = s.health.get .b := othersA .b (by decide)
      have guards : v1.guards.get .b = s.guards.get .b := by rw [guardsA]; rfl
      have conditions : (v1.guardTick .b).conditions .b = (s.guardTick .b).conditions .b := by
        refine conditions_congr ?_ ?_ ?_
        · rw [(Touches.refl.guardTick (by decide) : Touches [.guards] v1 _).links, touchedA.links]
          rfl
        · rw [(Touches.refl.guardTick (by decide) : Touches [.guards] v1 _).parsers, touchedA.parsers]
          rfl
        · rw [guardTick_guards, guardTick_guards, PerRig.get_set_same, PerRig.get_set_same, guards]
          unfold State.watched
          rw [touchedA.bank]
      have ticked := tickingB (by rw [before]; exact on)
      rw [before, conditions, State.restoreTime, touchedA.bank] at ticked
      exact ticked
  have guards : v2.guards.get r = (s.guards.get r).ended s.bank.front.monitor.silenceExponent s.watched := by
    have watched : v1.watched = s.watched := by unfold State.watched; rw [touchedA.bank]
    cases r with
    | a =>
      rw [guardsB, guardsA]
      rfl
    | b =>
      rw [guardsB, watched, touchedA.bank, guardsA]
      rfl
  have ne : j.other ≠ j := by cases j <;> decide
  have t3 : Touches [.health] v2 v3 := by rw [← hv3]; exact Touches.refl.tickJudge (by decide)
  have t4 : Touches [.parsers, .health] v3 v4 := by rw [← hv4]; exact Touches.refl.reDivergedJudged (by decide)
  have t5 : Touches [.health] v4 v5 := by rw [← hv5]; exact Touches.refl.tickJudge (by decide)
  have t6 : Touches [.parsers, .health] v5 s.judgeTick := by rw [result]; exact Touches.refl.reDivergedJudged (by decide)
  have parsed3 : Parsed s v3 := ((Parsed.refl s).frame whole).frame t3
  have parsed5 : Parsed s v5 := by
    refine Parsed.frame (parsed3.trans ?_) t5
    rw [← hv4]
    exact ((Carried.refl v3).reDivergedBy _ _).parsed
  have parsed6 : Parsed s s.judgeTick := by
    rw [result]
    exact parsed5.trans ((Carried.refl v5).reDivergedBy _ _).parsed
  have never : ∀ o, s.divergedBy j o = false := fun o => by rw [← hj]; exact divergedBy_judgedFirst s o
  have health3 : v3.health = v2.health.set j ((v2.health.get j).judgedBy s.bank.front.fault (s.health.get j).flags) := by
    rw [← hv3, tickJudge_eq, whole.bank]
  have bank4 : v4.bank = s.bank := t4.bank.trans (t3.bank.trans whole.bank)
  have health5 : v5.health = v4.health.set j.other ((v4.health.get j.other).judgedBy s.bank.front.fault (s.health.get j.other).flags) := by
    rw [← hv5, tickJudge_eq, bank4]
  have last : s.judgeTick.health = v5.health := by
    rw [result]
    exact (reDivergedBy_health v5 j _).1 ((parsed5.divergedBy j _).trans (never _))
  have first : s.judgeTick.health.get j = v3.health.get j := by
    rw [last, health5, PerRig.get_set, if_neg (Ne.symm ne), ← hv4]
    exact reDivergedBy_other v3 _ (Ne.symm ne)
  refine ⟨((whole.mono (by decide)).andThen t3 (by decide)).trans ((t4.mono (by decide)).trans ((t5.mono (by decide)).trans
    (t6.mono (by decide)))), ?_, ?_, fun k => ?_⟩
  · rw [t6.guards, t5.guards, t4.guards, t3.guards, guards]
  · by_cases same : r = j
    · subst same
      exact ⟨_, ticking r on, by rw [first, health3, PerRig.get_set_same]⟩
    · have other : r = j.other := by cases r <;> cases j <;> simp_all [Rig.other]
      subst other
      refine ⟨v4.health.get j.other, ?_, by rw [last, health5, PerRig.get_set_same]⟩
      have before : v3.health.get j.other = v2.health.get j.other := by rw [health3, PerRig.get_set, if_neg ne]
      have bank : v3.bank = s.bank := t3.bank.trans whole.bank
      have through := Ticking.reDivergedBy (v := v3) (r := j.other) (h := s.health.get j.other)
        (C := (s.guardTick j.other).conditions j.other)
      rw [State.restoreTime, bank, before] at through
      rw [← hv4]
      exact through (ticking j.other on) _
  · unfold State.divergedSettled
    by_cases same : k = j
    · subst same
      rw [parsed6.divergedBy, never]
      exact fun h => nomatch h
    · have other : k = j.other := by cases k <;> cases j <;> simp_all [Rig.other]
      subst other
      rw [Rig.other_other, first]
      have marked : (s.judgeTick.parsers.get j.other).diverged = s.divergedBy j.other (v3.health.get j).state := by
        rw [result, State.reDivergedJudged, (reDivergedBy_parsers v5 j j.other _).2 ne, t5.parsers, ← hv4, State.reDivergedJudged,
          reDivergedBy_diverged, Rig.other_other, parsed3.divergedBy]
      rw [marked, parsed6.divergedBy]
      exact id

/-! ### The pair mark of the tick (R72) -/

theorem settled_pairInTick (x : Alignment) (lines : PerRig TrimLine) (r : Rig) (changing : Bool) :
    (x.settled lines r changing).1.pairInTick = x.pairInTick := by
  have placed : ∀ (y : Alignment) d, (y.placed lines r changing d).1.pairInTick = y.pairInTick := fun y d => by
    unfold Alignment.placed
    split <;> rfl
  unfold Alignment.settled
  dsimp only
  split
  · rfl
  · rfl
  · split
    · exact placed _ _
    · rfl
  all_goals
    split
    · exact placed _ _
    · rfl

theorem settleDelay_pairInTick (s : State) : s.settleDelay.alignment.pairInTick = s.alignment.pairInTick := by
  have settled := congrArg Prod.fst (settleDelay_settled s).1
  exact (congrArg Alignment.pairInTick settled).trans (settled_pairInTick ..)

theorem handOnAir_pairInTick (s : State) : s.handOnAir.alignment.pairInTick = s.alignment.pairInTick := by
  have after : Touches [.arbiter, .showClock, .tcOutput, .mixer, .ports] s.settleDelay s.handOnAir :=
    ((Touches.refl.reEligible (by decide)).clockReevaluate (by decide)).handTargets (by decide)
  rw [after.alignment]
  exact settleDelay_pairInTick s

theorem enterChanging_pairInTick (s : State) (c : Cause) : (s.enterChanging c).alignment.pairInTick = s.alignment.pairInTick := by
  unfold State.enterChanging
  split
  · rfl
  · refine (handOnAir_pairInTick _).trans ?_
    rw [((((Touches.refl (s := s)).openEntry (by decide)).setArbiter (by decide)).updateSong (by decide) |>.raiseAll (by decide) :
      Touches [.arbiter, .ports] s _).alignment]

theorem reverse_pairInTick (s : State) : s.reverse.alignment.pairInTick = s.alignment.pairInTick := by
  unfold State.reverse
  split
  · rfl
  · refine (handOnAir_pairInTick _).trans ?_
    rw [((((Touches.refl (s := s)).closeEntry (by decide)).openEntry (by decide)).setArbiter (by decide) |>.updateSong (by decide) |>.raiseAll
      (by decide) : Touches [.arbiter, .ports] s _).alignment]

theorem completed_pairInTick (s : State) : s.completed.alignment.pairInTick = s.alignment.pairInTick := by
  unfold State.completed
  dsimp only
  refine (settleDelay_pairInTick _).trans ?_
  split <;> rfl

theorem goesDown_pairInTick (s : State) (r : Rig) : (s.goesDown r).alignment.pairInTick = s.alignment.pairInTick := by
  unfold State.goesDown
  split
  · split
    · rfl
    · rfl
    · split
      · exact enterChanging_pairInTick s _
      · rw [(Touches.refl.enterBlind (by decide) : Touches [.arbiter, .mixer, .ports] s _).alignment]
    · split
      · exact reverse_pairInTick s
      · rfl
  · rfl

theorem arbRunWith_pairInTick (n : Nat) (s : State) : (arbRunWith (fun v => v) n s).alignment.pairInTick = s.alignment.pairInTick := by
  induction n generalizing s with
  | zero => rfl
  | succ n ih =>
    unfold arbRunWith
    split
    · refine (ih _).trans ?_
      rw [State.completeWith_eq]
      split
      · rw [(Touches.refl.handTargets (by decide) : Touches [.mixer] s.completed _).alignment]
        exact completed_pairInTick s
      · exact completed_pairInTick s
    · split
      · exact (ih _).trans (enterChanging_pairInTick s _)
      · rfl

theorem run_pairInTick (none : s.bank.exchange = none) : s.run.alignment.pairInTick = s.alignment.pairInTick := by
  rw [run_of_no_exchange none]
  exact arbRunWith_pairInTick 4 s

/-! ### The handing on after a tick end -/

/-- A property that each handing keeps is kept by that of a settled rig. -/
theorem handSettledWith_keeps {I : State → Prop} (hand : ∀ v r, I v → I (v.handOneWith run r)) (h : I s) (r : Rig) :
    I (s.handSettledWith run r) := by
  unfold State.handSettledWith State.handHealthWith
  dsimp only
  split
  · exact h
  · split
    · exact h
    · split
      · exact hand s r h
      · exact hand _ _ (hand s r h)

theorem handedOn_health (settled : v.divergedSettled r.other) : (v.handedOn r).health = v.health ∧ ∀ k, Parsed v (v.handedOn r) ∧
    ((v.handedOn r).parsers.get k = v.parsers.get k ∨ ((v.handedOn r).parsers.get k).diverged = v.divergedBy k (v.health.get k.other).state) := by
  generalize hy : (v.setHanding r { v.instantHealth.handing.get r with handed := (v.health.get r).state }).raiseAll .healthChanged = y
  have touched : Touches [.health, .ports] v y := by
    rw [← hy]
    exact (Touches.refl.setHanding (by decide)).raiseAll (by decide)
  have health : y.health = v.health := by rw [← hy]; rfl
  have handed : y.handed r = (v.health.get r).state := by
    rw [← hy]
    cases r <;> rfl
  have result : v.handedOn r = (y.reDivergedBy r.other (v.health.get r).state).reEligible := by
    rw [← handed, ← hy]
    cases r <;> rfl
  have same : ∀ k o, y.divergedBy k o = v.divergedBy k o := Parsed.divergedBy ((Parsed.refl v).frame touched)
  have parsed : Parsed v (v.handedOn r) := by
    rw [result]
    exact (((Parsed.refl v).frame touched).trans ((Carried.refl y).reDivergedBy _ _).parsed).frame (bs := [.arbiter])
      (Touches.refl.reEligible (by decide))
  unfold State.divergedSettled at settled
  rw [Rig.other_other] at settled
  refine ⟨?_, fun k => ⟨parsed, ?_⟩⟩
  · rw [result]
    refine Eq.trans (b := y.health) ?_ health
    cases now : v.divergedBy r.other (v.health.get r).state with
    | false => exact (reDivergedBy_health y _ _).1 ((same _ _).trans now)
    | true =>
      change (y.reDivergedBy r.other (v.health.get r).state).health = _
      unfold State.reDivergedBy
      rw [same, now, touched.parsers]
      dsimp only
      rw [settled now]
      rfl
  · by_cases other : k = r.other
    · subst other
      refine .inr ?_
      rw [result, Rig.other_other, ← same]
      exact reDivergedBy_diverged y _ _
    · refine .inl ?_
      rw [result]
      exact ((reDivergedBy_parsers y _ k _).2 other).trans (by rw [touched.parsers])

/-- R36, R55, R72: what the handing on after a tick end leaves. -/
structure TickHanded (x v : State) : Prop where
  touched : Touches handBlocks x v
  health : v.health = x.health
  settled : ∀ k, v.divergedSettled k
  pair : v.alignment.pairInTick = x.alignment.pairInTick

theorem TickHanded.changes (a : TickHanded x v) (h : Touches changeBlocks v w) (pair : w.alignment.pairInTick = v.alignment.pairInTick) :
    TickHanded x w := by
  refine ⟨a.touched.trans (h.mono (by decide)), h.health.trans a.health, fun k => ?_, pair.trans a.pair⟩
  unfold State.divergedSettled State.divergedBy
  rw [h.parsers, h.health]
  exact a.settled k

theorem TickHanded.handOne (none : x.bank.exchange = none) (a : TickHanded x v) (k : Rig) : TickHanded x (v.handOneWith State.run k) := by
  by_cases fresh : v.handed k = (v.health.get k).state
  · rw [State.handOneWith_unchanged _ fresh.symm]
    exact a
  · have bank : v.bank.exchange = Option.none := by rw [a.touched.bank]; exact none
    have on := handedOn_handedOn v k
    obtain ⟨health, parsers⟩ := handedOn_health (a.settled k.other)
    have first : TickHanded x (v.handedOn k) := by
      refine ⟨a.touched.trans (on.touched.mono (by decide)), health.trans a.health, fun j => ?_, ?_⟩
      · unfold State.divergedSettled
        obtain ⟨parsed, same | marked⟩ := parsers j
        · rw [health, parsed.divergedBy, same]
          exact a.settled j
        · rw [health, parsed.divergedBy, marked]
          exact id
      · rw [on.touched.alignment]
        exact a.pair
    have tests : ∀ y, TickHanded x y → TickHanded x y.run := fun y b => by
      have empty : y.bank.exchange = Option.none := by rw [b.touched.bank]; exact none
      exact b.changes (touches_run_of_no_exchange empty) (run_pairInTick empty)
    have one : v.handOneWith State.run k = State.run (if (v.instantHealth.handing.get k).falls ((v.handedOn k).handed k) then
        (v.handedOn k).goesDown k else if (v.handedOn k).handed k = .healthy then (v.handedOn k).comesUp k else v.handedOn k) :=
      if_neg (Ne.symm fresh)
    rw [one]
    refine tests _ ?_
    split
    · exact first.changes (Touches.refl.goesDown (by decide)) (goesDown_pairInTick _ k)
    · split
      · have up : Touches [.arbiter, .mixer] (v.handedOn k) ((v.handedOn k).comesUp k) := Touches.refl.comesUp (by decide)
        exact first.changes (up.mono (by decide)) (by rw [up.alignment])
      · exact first

/-- In STOPPED the handing on of a health state leaves the arbiter's state and the alignment. -/
theorem stopped_handOne (a : v.arbiter.state = .stopped ∧ v.alignment = x.alignment) (k : Rig) :
    (v.handOneWith State.run k).arbiter.state = .stopped ∧ (v.handOneWith State.run k).alignment = x.alignment := by
  obtain ⟨stopped, same⟩ := a
  rcases handOneWith_cases State.run v k with unchanged | ⟨-, w, on, cases⟩
  · rw [unchanged]
    exact ⟨stopped, same⟩
  · have state : w.arbiter.state = .stopped := by rw [on.arbiter]; exact stopped
    have still : w.run = w := run_still (completionHolds_of_not_changing (by rw [state]; exact ArbState.noConfusion))
      (lateFailoverHolds_of_not_blind (by rw [state]; exact ArbState.noConfusion))
    have falls : w.goesDown k = w := by
      unfold State.goesDown
      rw [state]
      exact ite_self _
    have result : v.handOneWith State.run k = w := by
      rcases cases with result | ⟨-, result⟩ | ⟨-, result⟩
      · rw [result, still]
      · rw [result, falls, still]
      · rw [result, comesUp_of_not_blind (by rw [state]; exact ArbState.noConfusion), still]
    rw [result]
    exact ⟨state, on.touched.alignment.trans same⟩

/-! ### The tick end -/

theorem exec_healthTickEnd (s : State) (first : Rig) : exec (.healthTickEnd first) s = .next (s.prepare.takeTickEnd first) := rfl

/-- R39: the part at a tick end, once the judgement is made and before the health states are handed on. -/
def State.tickEnded (u : State) : State :=
  let y := (u.setTickDue false).setUnguarded none
  let z := y.judgeTick.setUnguarded (some y.tickUnguarded)
  z.setAlignment (z.alignment.tick z.bank.front.monitor.holdLimit)

theorem takeTickEnd_due {first : Rig} (due : s.tickDue = true) : s.takeTickEnd first =
    (s.closeDueWindows.takeInstantEvidence.tickEnded.handSettled first).handSettled first.other := if_pos due

/-- R39, R72: what a tick end makes of the part before anything is handed on. -/
theorem tickEnded_leaves (u : State) (r : Rig) (on : (u.health.get r).state ≠ .offline) :
    Touches [.parsers, .guards, .health, .alignment, .tickDue] u u.tickEnded ∧ u.tickEnded.tickDue = false ∧
    u.tickEnded.alignment = u.alignment.tick u.bank.front.monitor.holdLimit ∧
    u.tickEnded.guards.get r = (u.guards.get r).ended u.bank.front.monitor.silenceExponent u.watched ∧
    (∃ g, Ticking (u.health.get r) u.bank.front.fault u.restoreTime ((u.guardTick r).conditions r) g ∧
      u.tickEnded.health.get r = g.judgedBy u.bank.front.fault (u.health.get r).flags) ∧
    ∀ k, u.tickEnded.divergedSettled k := by
  generalize hy : (u.setTickDue false).setUnguarded none = y
  have before : Touches [.health, .tickDue] u y := by
    rw [← hy]
    exact (Touches.refl.setTickDue (by decide)).setUnguarded (by decide)
  have health : y.health = u.health := by rw [← hy]; rfl
  obtain ⟨touched, guards, ticking, settled⟩ := judgeTick_leaves y r (by rw [health]; exact on)
  generalize hz : y.judgeTick.setUnguarded (some y.tickUnguarded) = z
  have set : Touches [.health] y.judgeTick z := by rw [← hz]; exact Touches.refl.setUnguarded (by decide)
  have result : u.tickEnded = z.setAlignment (z.alignment.tick z.bank.front.monitor.holdLimit) := by rw [← hz, ← hy]; rfl
  have whole : Touches [.parsers, .guards, .health, .tickDue] u z :=
    (before.mono (by decide)).trans ((touched.mono (by decide)).andThen set (by decide))
  have watched : y.watched = u.watched := by unfold State.watched; rw [before.bank]
  have conditions : (y.guardTick r).conditions r = (u.guardTick r).conditions r := by rw [← hy]; rfl
  rw [health, conditions, State.restoreTime, before.bank] at ticking
  rw [watched, before.bank, before.guards] at guards
  refine ⟨?_, ?_, ?_, ?_, ?_, fun k => ?_⟩
  · rw [result]
    exact (whole.mono (by decide)).setAlignment (by decide)
  · rw [result]
    change z.tickDue = false
    rw [set.tickDue, touched.tickDue, ← hy]
    rfl
  · rw [result, setAlignment_alignment, whole.alignment, whole.bank]
  · rw [result]
    change z.guards.get r = _
    rw [set.guards, guards]
  · obtain ⟨g, ticked, judgedG⟩ := ticking
    refine ⟨g, ticked, ?_⟩
    rw [result]
    change z.health.get r = _
    rw [← hz]
    exact judgedG
  · rw [result]
    unfold State.divergedSettled
    change z.divergedBy k (z.health.get k.other).state = true → (z.parsers.get k).diverged = true
    rw [← hz]
    exact settled k

theorem tick_pairInTick (x : Alignment) (limit : Nat) : (x.tick limit).pairInTick = false := by
  unfold Alignment.tick
  dsimp only
  split <;> rfl

/-- Settles O44: the tick end before anything is handed on (`tickEnded_leaves`), and the handing on, which moves no health. -/
theorem tickEndCounters : Obligations.TickEndCounters := by
  intro s first r i p u f d h g e due none tick on a
  refine ⟨p.takeTickEnd first, exec_healthTickEnd s first, ?_⟩
  rw [takeTickEnd_due due]
  generalize hw : u.tickEnded = w
  obtain ⟨before, tickOver, aligned, guards, ⟨g', ticking, judgedH⟩, settled⟩ := tickEnded_leaves u r on
  rw [hw] at before tickOver aligned guards judgedH settled
  clear_value u
  have empty : w.bank.exchange = Option.none := by rw [before.bank]; exact none
  have start : TickHanded w w := ⟨.refl, rfl, settled, rfl⟩
  have keeps : ∀ v q, TickHanded w v → TickHanded w (v.handSettled q) := fun v q b =>
    handSettledWith_keeps (I := TickHanded w) (fun _ k c => c.handOne empty k) b q
  have ended := keeps _ first.other (keeps w first start)
  have still : (u.arbiter.state = .stopped ∨ (u.arbiter.mode = .manual ∧ u.arbiter.state ≠ .changing)) →
      ((w.handSettled first).handSettled first.other).alignment = w.alignment := by
    rintro (stopped | ⟨manual, still⟩)
    · have hand := fun v q b => handSettledWith_keeps (run := State.run)
        (I := fun v => v.arbiter.state = .stopped ∧ v.alignment = w.alignment) (fun _ k c => stopped_handOne c k) (s := v) b q
      exact (hand _ _ (hand w first ⟨by rw [before.arbiter]; exact stopped, rfl⟩)).2
    · have noAuto : w.autoPermitted = false := by
        unfold State.autoPermitted
        rw [before.arbiter, manual]
        rfl
      have hand := fun v q b => handSettledWith_keeps (run := State.run) (I := Unaided w)
        (fun _ k c => c.handOne standing_run (by rw [before.arbiter]; exact still) noAuto k) (s := v) b q
      exact (hand _ _ (hand w first (.refl w))).touched.alignment
  generalize (w.handSettled first).handSettled first.other = t at ended still
  obtain ⟨touched, health, -, pair⟩ := ended
  obtain ⟨silent, frozen, others⟩ := guardTick_conditions u r
  obtain ⟨flags, qualifying, counters, heals, stays, recovers, fails, restores⟩ := ticking.judgedBy
  have ownGuard : t.guards.get r = (u.guards.get r).ended u.bank.front.monitor.silenceExponent u.watched := by
    rw [touched.guards, guards]
  have own : t.health.get r = g'.judgedBy u.bank.front.fault (u.health.get r).flags := by rw [health, judgedH]
  rw [← own] at flags qualifying counters heals stays recovers fails restores
  refine ⟨by rw [touched.tickDue]; exact tickOver, by rw [pair, aligned]; exact tick_pairInTick _ _, fun rest => ?_, fun hs hf hd => ?_, ?_, ?_, ?_,
    ?_, ?_, ?_, ?_, heals, stays, recovers, fails, restores⟩
  · have alignment := (still rest).trans aligned
    refine ⟨fun state => ?_, fun state => ?_, fun state => ?_⟩
    · rw [alignment, Alignment.tick, show u.alignment.state = _ from state]
    · rw [alignment, Alignment.tick]
      rcases state with state | state | state <;> rw [show u.alignment.state = _ from state]
    · rw [alignment, Alignment.tick, show u.alignment.state = _ from state]
      exact ⟨rfl, decide_eq_true_iff⟩
  · have not : ¬ judged i := fun j => j.elim hs fun j => j.elim hf hd
    exact ⟨by rw [counters]; exact ticking.counters i not, by rw [flags, ticking.flags i hd]; exact others i hs hf⟩
  · rw [qualifying]
    exact ticking.qualifying i
  · rw [ownGuard]
    exact ended_silent
  · rw [ownGuard]
    exact ended_frozen
  · rw [ownGuard]
    rfl
  · rw [ownGuard]
    rfl
  · rw [flags, ownGuard, ticking.flags _ (by decide)]
    exact silent
  · rw [flags, ownGuard, ticking.flags _ (by decide)]
    exact frozen

end Sys2Proof.Machine

/-! PROOFS. What the bytes of a WRITE say: entries refused, and fields stored (sections 9.1, 9.2, 10.7). -/

namespace Sys2Proof.Machine

open Sys2Proof

/- In order: bodies elaborated side by side while the kernel still checks the text above each hold a thread's stack. -/
set_option Elab.async false

variable {α β : Type} {b : Byte} {e : Nat → Byte}

/-! ### Bytes and what they name (R189) -/

/-- The bytes below `k` name the values of a type, the others none. -/
structure Decodes (f : Byte → Option α) (g : α → Byte) (k : Nat) : Prop where
  none : ∀ b, f b = none ↔ k ≤ b.toNat
  some : ∀ b x, f b = some x → g x = b

theorem decodes_of {f : Byte → Option α} {g : α → Byte} {k : Nat} (round : ∀ x, f (g x) = some x)
    (onto : ∀ b : Byte, b.toNat < k → ∃ x, g x = b) (high : ∀ b : Byte, k ≤ b.toNat → f b = none) : Decodes f g k := by
  have low : ∀ b : Byte, b.toNat < k → ∃ x, g x = b ∧ f b = some x := fun b h => by
    obtain ⟨x, rfl⟩ := onto b h
    exact ⟨x, rfl, round x⟩
  refine ⟨fun b => ⟨fun none => ?_, high b⟩, fun b x some => ?_⟩
  · by_contra small
    obtain ⟨x, -, some⟩ := low b (Nat.lt_of_not_le small)
    rw [none] at some
    cases some
  · have small : b.toNat < k := by
      by_contra large
      rw [high b (Nat.le_of_not_lt large)] at some
      cases some
    obtain ⟨y, named, named'⟩ := low b small
    rw [some] at named'
    rw [Option.some.inj named']
    exact named

theorem byte_ne {k : Nat} (h : k ≤ b.toNat) (n : Byte) (hn : n.toNat < k) : b ≠ n := fun same => by rw [same] at h; omega

theorem byte_of_lt {k : Nat} (h : b.toNat < k) : ∃ n : Fin k, b = BitVec.ofNat 8 n.val :=
  ⟨⟨b.toNat, h⟩, by rw [BitVec.ofNat_toNat, BitVec.setWidth_eq]⟩

theorem decodes_bool : Decodes boolOf bit 2 := by
  refine decodes_of boolOf_bit (fun b h => ?_) fun b h => boolOf_none h
  obtain ⟨n, rfl⟩ := byte_of_lt h
  fin_cases n
  · exact ⟨false, rfl⟩
  · exact ⟨true, rfl⟩

theorem decodes_policy : Decodes policyOf policyByte 2 := by
  refine decodes_of policyOf_policyByte (fun b h => ?_) fun b h => ?_
  · obtain ⟨n, rfl⟩ := byte_of_lt h
    fin_cases n
    · exact ⟨.stay, rfl⟩
    · exact ⟨.fadeOut, rfl⟩
  · rw [policyOf, if_neg (byte_ne h 0 (by decide)), if_neg (byte_ne h 1 (by decide))]

theorem decodes_matchSource : Decodes matchSourceOf matchSourceByte 3 := by
  refine decodes_of matchSourceOf_byte (fun b h => ?_) fun b h => ?_
  · obtain ⟨n, rfl⟩ := byte_of_lt h
    fin_cases n
    · exact ⟨.onAir, rfl⟩
    · exact ⟨.rigA, rfl⟩
    · exact ⟨.rigB, rfl⟩
  · rw [matchSourceOf, if_neg (byte_ne h 0 (by decide)), if_neg (byte_ne h 1 (by decide)), if_neg (byte_ne h 2 (by decide))]

theorem decodes_matchAction : Decodes matchActionOf matchActionByte 5 := by
  refine decodes_of matchActionOf_byte (fun b h => ?_) fun b h => ?_
  · obtain ⟨n, rfl⟩ := byte_of_lt h
    fin_cases n
    · exact ⟨.notice, rfl⟩
    · exact ⟨.exchange, rfl⟩
    · exact ⟨.inhibitOn, rfl⟩
    · exact ⟨.inhibitOff, rfl⟩
    · exact ⟨.lamp, rfl⟩
  · rw [matchActionOf, if_neg (byte_ne h 0 (by decide)), if_neg (byte_ne h 1 (by decide)), if_neg (byte_ne h 2 (by decide)),
      if_neg (byte_ne h 3 (by decide)), if_neg (byte_ne h 4 (by decide))]

theorem decodes_rate : Decodes rateOf rateByte 2 := by
  refine decodes_of rateOf_rateByte (fun b h => ?_) fun b h => ?_
  · obtain ⟨n, rfl⟩ := byte_of_lt h
    fin_cases n
    · exact ⟨.r48k, rfl⟩
    · exact ⟨.r96k, rfl⟩
  · rw [rateOf, if_neg (byte_ne h 0 (by decide)), if_neg (byte_ne h 1 (by decide))]

theorem decodes_period : Decodes periodOf periodByte 4 := by
  refine decodes_of periodOf_periodByte (fun b h => ?_) fun b h => ?_
  · obtain ⟨n, rfl⟩ := byte_of_lt h
    fin_cases n
    · exact ⟨.p256, rfl⟩
    · exact ⟨.p512, rfl⟩
    · exact ⟨.p1024, rfl⟩
    · exact ⟨.p2048, rfl⟩
  · rw [periodOf, if_neg (byte_ne h 0 (by decide)), if_neg (byte_ne h 1 (by decide)), if_neg (byte_ne h 2 (by decide)),
      if_neg (byte_ne h 3 (by decide))]

theorem decodes_frameRate : Decodes frameRateOf frameRateByte 3 := by
  refine decodes_of frameRateOf_byte (fun b h => ?_) fun b h => ?_
  · obtain ⟨n, rfl⟩ := byte_of_lt h
    fin_cases n
    · exact ⟨.f24, rfl⟩
    · exact ⟨.f25, rfl⟩
    · exact ⟨.f30, rfl⟩
  · rw [frameRateOf, if_neg (byte_ne h 0 (by decide)), if_neg (byte_ne h 1 (by decide)), if_neg (byte_ne h 2 (by decide))]

theorem decodes_rights : Decodes rightsOf rightsByte 2 := by
  refine decodes_of rightsOf_rightsByte (fun b h => ?_) fun b h => ?_
  · obtain ⟨n, rfl⟩ := byte_of_lt h
    fin_cases n
    · exact ⟨.none, rfl⟩
    · exact ⟨.operate, rfl⟩
  · rw [rightsOf, if_neg (byte_ne h 0 (by decide)), if_neg (byte_ne h 1 (by decide))]

theorem finOf_none_iff {n : Nat} : finOf n b = none ↔ n ≤ b.toNat := by
  refine ⟨fun h => ?_, finOf_none⟩
  by_contra small
  rw [finOf, dif_pos (Nat.lt_of_not_le small)] at h
  cases h

theorem finOf_eq {n : Nat} {i : Fin n} (h : finOf n b = some i) : i.val = b.toNat := by
  unfold finOf at h
  split at h
  · rw [← Option.some.inj h]
  · cases h

theorem natTo_none_iff {n : Nat} : natTo n b = none ↔ n + 1 ≤ b.toNat := by
  unfold natTo
  split
  · exact iff_of_false (Option.some_ne_none _) (by omega)
  · exact iff_of_true rfl (by omega)

theorem natTo_eq {n m : Nat} (h : natTo n b = some m) : m = b.toNat := by
  unfold natTo at h
  split at h
  · exact (Option.some.inj h).symm
  · cases h

theorem bit_eq_one {c : Bool} (h : bit c = b) : c = true ↔ b = 1 := by
  subst h
  cases c <;> decide

/-! ### Fields read one after the other -/

theorem bind_none_iff {o : Option α} {f : α → Option β} {p : Prop} (h : ∀ a, f a = none ↔ p) : (o >>= f) = none ↔ o = none ∨ p := by
  cases o with
  | none => exact iff_of_true rfl (.inl rfl)
  | some a => exact (h a).trans ⟨.inr, fun either => either.resolve_left (Option.some_ne_none a)⟩

theorem pure_none_iff {a : α} : (pure a : Option α) = none ↔ False := iff_of_false (Option.some_ne_none a) id

theorem word16_toNat (k : Nat) : (word16 e k).toNat = nat16 (e k) (e (k + 1)) := toNat_append_bytes _ _

/-- R160, R193: a Route entry. -/
theorem readRoute_none : readRoute [e 0, e 1, e 2, e 3, e 4] = none ↔ EntryRefused .route e := by
  refine (bind_none_iff fun _ => bind_none_iff fun _ => bind_none_iff fun _ => bind_none_iff fun _ => bind_none_iff fun _ =>
    pure_none_iff).trans ?_
  rw [decodes_bool.none, decodes_bool.none, finOf_none_iff, finOf_none_iff, finOf_none_iff, or_false]
  rfl

theorem readRoute_some {x : RouteEntry} (h : readRoute [e 0, e 1, e 2, e 3, e 4] = some x) : (x.enable = true ↔ e 0 = 1) ∧
    (x.guardFlag = true ↔ e 1 = 1) ∧ x.slotA.val = (e 2).toNat ∧ x.slotB.val = (e 3).toNat ∧ x.group.val = (e 4).toNat := by
  simp only [readRoute, Option.bind_eq_bind, Option.bind_eq_some_iff, Option.pure_def, Option.some.injEq] at h
  obtain ⟨enable, h0, guardFlag, h1, slotA, h2, slotB, h3, group, h4, rfl⟩ := h
  exact ⟨bit_eq_one (decodes_bool.some _ _ h0), bit_eq_one (decodes_bool.some _ _ h1), finOf_eq h2, finOf_eq h3, finOf_eq h4⟩

/-- R160, R193: a Group entry. -/
theorem readGroup_none : readGroup [e 0, e 1, e 2] = none ↔ EntryRefused .group e := by
  refine (bind_none_iff fun _ => pure_none_iff).trans ?_
  rw [decodes_policy.none, or_false]
  rfl

theorem readGroup_some {x : GroupEntry} (h : readGroup [e 0, e 1, e 2] = some x) : x.fadeLength = min 4095 (word16 e 0).toNat ∧
    (x.policy = .fadeOut ↔ e 2 = 1) := by
  simp only [readGroup, Option.bind_eq_bind, Option.bind_eq_some_iff, Option.pure_def, Option.some.injEq] at h
  obtain ⟨policy, h2, rfl⟩ := h
  have named := decodes_policy.some _ _ h2
  refine ⟨?_, ?_⟩
  · rw [word16_toNat]
    exact Nat.zero_max _
  · rw [← named]
    change policy = .fadeOut ↔ policyByte policy = 1
    cases policy <;> decide

/-- R160, R193: a Song entry. -/
theorem readSong_none : readSong [e 0, e 1, e 2, e 3, e 4] = none ↔ EntryRefused .song e := by
  refine (bind_none_iff fun _ => bind_none_iff fun _ => bind_none_iff fun _ => bind_none_iff fun _ => bind_none_iff fun _ =>
    pure_none_iff).trans ?_
  rw [natTo_none_iff, natTo_none_iff, natTo_none_iff, natTo_none_iff, decodes_bool.none, or_false]
  rfl

theorem readSong_some {x : SongEntry} (h : readSong [e 0, e 1, e 2, e 3, e 4] = some x) :
    x.start = { h := (e 0).toNat, m := (e 1).toNat, s := (e 2).toNat, fr := (e 3).toNat } ∧ (x.auto = true ↔ e 4 = 1) := by
  simp only [readSong, Option.bind_eq_bind, Option.bind_eq_some_iff, Option.pure_def, Option.some.injEq] at h
  obtain ⟨hour, h0, minute, h1, second, h2, frame, h3, auto, h4, rfl⟩ := h
  rw [natTo_eq h0, natTo_eq h1, natTo_eq h2, natTo_eq h3]
  exact ⟨rfl, bit_eq_one (decodes_bool.some _ _ h4)⟩

/-- R145, R160, R193: a Matcher entry. -/
theorem readMatcher_none : readMatcher [e 0, e 1, e 2, e 3, e 4, e 5, e 6, e 7, e 8, e 9] = none ↔ EntryRefused .matcher e := by
  refine (bind_none_iff fun _ => bind_none_iff fun _ => bind_none_iff fun _ => bind_none_iff fun _ => pure_none_iff).trans ?_
  rw [decodes_matchSource.none, decodes_matchAction.none, finOf_none_iff, finOf_none_iff, or_false]
  rfl

theorem readMatcher_some {x : MatcherEntry} (h : readMatcher [e 0, e 1, e 2, e 3, e 4, e 5, e 6, e 7, e 8, e 9] = some x) :
    x.enable = (e 0).getLsbD 0 ∧ x.chain = (e 0).getLsbD 1 ∧ x.edge = (e 0).getLsbD 2 ∧ matchSourceByte x.source = e 1 ∧
    (∀ n : Fin 14, x.mask.getLsbD n.val = (word16 e 2).getLsbD n.val) ∧ x.crc = word16 e 4 ∧ x.lastByte = e 6 ∧
    matchActionByte x.action = e 7 ∧ x.lamp.val = (e 8).toNat ∧ x.pattern.val = (e 9).toNat := by
  simp only [readMatcher, Option.bind_eq_bind, Option.bind_eq_some_iff, Option.pure_def, Option.some.injEq] at h
  obtain ⟨source, h1, action, h7, lamp, h8, pattern, h9, rfl⟩ := h
  refine ⟨rfl, rfl, rfl, decodes_matchSource.some _ _ h1, fun n => ?_, ?_, rfl, decodes_matchAction.some _ _ h7, finOf_eq h8, finOf_eq h9⟩
  · rw [BitVec.getLsbD_ofNat, ← word16_toNat]
    simp only [n.isLt, decide_true, Bool.true_and]
    rfl
  · change BitVec.ofNat 16 (nat16 (e 4) (e 5)) = word16 e 4
    rw [← word16_toNat 4, BitVec.ofNat_toNat, BitVec.setWidth_eq]

/-- R160, R193: a Fault Policy entry. -/
theorem readFault_none : readFault [e 0, e 1] = none ↔ EntryRefused .faultPolicy e := by
  refine (bind_none_iff fun _ => pure_none_iff).trans ?_
  rw [decodes_bool.none, or_false]
  rfl

theorem readFault_some {x : FaultEntry} (h : readFault [e 0, e 1] = some x) : (x.enabled = true ↔ e 0 = 1) ∧ x.delay = (e 1).toNat := by
  simp only [readFault, Option.bind_eq_bind, Option.bind_eq_some_iff, Option.pure_def, Option.some.injEq] at h
  obtain ⟨enabled, h0, rfl⟩ := h
  have := (e 1).isLt
  exact ⟨bit_eq_one (decodes_bool.some _ _ h0), clamp_of_mem (Nat.zero_le _) (by omega)⟩

/-- R160, R193: the Monitor Policy entry. -/
theorem readMonitor_eq : readMonitor [e 0, e 1, e 2, e 3, e 4, e 5, e 6] = some
    { positionTolerance := (e 0).toNat, silenceExponent := max 4 (min 20 (e 1).toNat), tolerance := min 15 (e 2).toNat
      confirm := max 1 (min 15 (e 3).toNat), holdLimit := (e 4).toNat, restoreTime := min 4095 (word16 e 5).toNat } := by
  have h0 := (e 0).isLt
  have h4 := (e 4).isLt
  simp only [readMonitor, clamp, Nat.zero_max, word16_toNat, Option.some.injEq, MonitorPolicy.mk.injEq, and_true, true_and]
  omega

/-- R161: the Show Setup entry. -/
theorem readSetup_none : readSetup [e 0, e 1, e 2, e 3, e 4, e 5, e 6, e 7, e 8] = none ↔ SetupRefused e := by
  refine (bind_none_iff fun _ => bind_none_iff fun _ => bind_none_iff fun _ => bind_none_iff fun _ => bind_none_iff fun _ =>
    bind_none_iff fun _ => bind_none_iff fun _ => pure_none_iff).trans ?_
  rw [decodes_rate.none, decodes_period.none, decodes_frameRate.none, finOf_none_iff, finOf_none_iff, decodes_rights.none,
    decodes_rights.none, or_false]
  rfl

theorem readSetup_some {u : ShowSetup} (h : readSetup [e 0, e 1, e 2, e 3, e 4, e 5, e 6, e 7, e 8] = some u) : SetupHeld u e := by
  simp only [readSetup, Option.bind_eq_bind, Option.bind_eq_some_iff, Option.pure_def, Option.some.injEq] at h
  obtain ⟨rate, h0, period, h1, frameRate, h2, slotA, h3, slotB, h4, rightsA, h7, rightsB, h8, rfl⟩ := h
  have named := And.intro (decodes_rate.some _ _ h0) (And.intro (decodes_period.some _ _ h1) (And.intro (decodes_frameRate.some _ _ h2)
    (And.intro (decodes_rights.some _ _ h7) (decodes_rights.some _ _ h8))))
  obtain ⟨rateIs, periodIs, frameIs, aIs, bIs⟩ := named
  refine ⟨?_, ?_, ?_, finOf_eq h3, finOf_eq h4, ?_, ?_, ?_⟩
  · rw [← rateIs]
    cases rate <;> rfl
  · rw [← periodIs]
    cases period <;> rfl
  · rw [← frameIs]
    cases frameRate <;> rfl
  · rw [word16_toNat]
    exact Nat.zero_max _
  · rw [← aIs]
    cases rightsA <;> rfl
  · rw [← bIs]
    cases rightsB <;> rfl

/-! ### A bank after a WRITE (R164) -/

variable {w : WriteRequest} {old new : Bank}

/-- R164, R179: the entries of a WRITE read under a layout. -/
theorem map_entries_none {γ : Type} {len : Nat} {f : List Byte → Option α} {g : List α → γ} (h : w.data.length = w.count * len) :
    (w.entries len f).map g = none ↔ ∃ j < w.count, f (entryPiece w.data len j) = none := by
  rw [Option.map_eq_none_iff, entries_none h]

/-- R164: what a WRITE that is not refused stores in a table. -/
theorem map_entries_some {n len : Nat} {f : List Byte → Option α} {put : Table n α → Bank} {t : Table n α}
    (h : w.data.length = w.count * len) (hn : w.first + w.count ≤ n)
    (stored : (w.entries len f).map (fun l => put (storeFrom t w.first l)) = some new) : ∃ u, new = put u ∧
      (∀ j : Fin n, j.val < w.first ∨ w.first + w.count ≤ j.val → u.get j = t.get j) ∧
      ∀ j (hj : j < w.count), f (entryPiece w.data len j) = some (u.get ⟨w.first + j, by omega⟩) := by
  obtain ⟨l, hl, rfl⟩ := Option.map_eq_some_iff.mp stored
  obtain ⟨outside, inside⟩ := table_written t h hn hl
  exact ⟨_, rfl, outside, inside⟩

/-- R160, R164: which WRITE to a banked table is refused, and what one that is not refused stores. -/
theorem written_iff (b : Bank) (k : BankedTable) {first count n len : Nat} {data : List Byte}
    (shape : tableShape (bankedId k) = some (n, len)) (some : 1 ≤ count) (hn : first + count ≤ n) (size : data.length = count * len) :
    let w : WriteRequest := { id := bankedId k, first, count, data }
    let e := fun j x : Nat => data.getD (len * j + x) 0
    (b.written k w = none ↔ ∃ j < count, EntryRefused k (e j)) ∧
    ∀ c, b.written k w = Option.some c → SameOutside b c first count k ∧ ∀ j < count, EntryHeld c (first + j) k (e j) := by
  intro w e
  cases k with
  | route =>
    obtain ⟨rfl, rfl⟩ : 64 = n ∧ 5 = len := by simpa using Option.some.inj shape
    refine ⟨(map_entries_none (w := w) size).trans (exists_congr fun j => and_congr_right fun _ => readRoute_none (e := e j)), fun c stored => ?_⟩
    obtain ⟨u, rfl, outside, inside⟩ := map_entries_some (w := w) (put := fun t => { b with route := t }) size hn stored
    exact ⟨⟨rfl, outside⟩, fun j hj => ⟨⟨first + j, by omega⟩, rfl, readRoute_some (e := e j) (inside j hj)⟩⟩
  | group =>
    obtain ⟨rfl, rfl⟩ : 8 = n ∧ 3 = len := by simpa using Option.some.inj shape
    refine ⟨(map_entries_none (w := w) size).trans (exists_congr fun j => and_congr_right fun _ => readGroup_none (e := e j)), fun c stored => ?_⟩
    obtain ⟨u, rfl, outside, inside⟩ := map_entries_some (w := w) (put := fun t => { b with group := t }) size hn stored
    exact ⟨⟨rfl, outside⟩, fun j hj => ⟨⟨first + j, by omega⟩, rfl, readGroup_some (e := e j) (inside j hj)⟩⟩
  | song =>
    obtain ⟨rfl, rfl⟩ : 256 = n ∧ 5 = len := by simpa using Option.some.inj shape
    refine ⟨(map_entries_none (w := w) size).trans (exists_congr fun j => and_congr_right fun _ => readSong_none (e := e j)), fun c stored => ?_⟩
    obtain ⟨u, rfl, outside, inside⟩ := map_entries_some (w := w) (put := fun t => { b with song := t }) size hn stored
    exact ⟨⟨rfl, outside⟩, fun j hj => ⟨⟨first + j, by omega⟩, rfl, readSong_some (e := e j) (inside j hj)⟩⟩
  | matcher =>
    obtain ⟨rfl, rfl⟩ : 8 = n ∧ 10 = len := by simpa using Option.some.inj shape
    refine ⟨(map_entries_none (w := w) size).trans (exists_congr fun j => and_congr_right fun _ => readMatcher_none (e := e j)), fun c stored => ?_⟩
    obtain ⟨u, rfl, outside, inside⟩ := map_entries_some (w := w) (put := fun t => { b with matcher := t }) size hn stored
    refine ⟨⟨rfl, outside⟩, fun j hj => ⟨⟨first + j, by omega⟩, rfl, ?_⟩⟩
    obtain ⟨enable, chain, edge, source, mask, crc, last, action, lamp, pattern⟩ := readMatcher_some (e := e j) (inside j hj)
    refine ⟨enable, chain, edge, ?_, mask, crc, last, ?_, lamp, pattern⟩
    · rw [← source]
      generalize (u.get _).source = x
      cases x <;> rfl
    · rw [← action]
      generalize (u.get _).action = x
      cases x <;> rfl
  | faultPolicy =>
    obtain ⟨rfl, rfl⟩ : 11 = n ∧ 2 = len := by simpa using Option.some.inj shape
    refine ⟨(map_entries_none (w := w) size).trans (exists_congr fun j => and_congr_right fun _ => readFault_none (e := e j)), fun c stored => ?_⟩
    obtain ⟨u, rfl, outside, inside⟩ := map_entries_some (w := w) (put := fun t => { b with fault := t }) size hn stored
    exact ⟨⟨rfl, outside⟩, fun j hj => ⟨⟨first + j, by omega⟩, rfl, readFault_some (e := e j) (inside j hj)⟩⟩
  | monitorPolicy =>
    obtain ⟨rfl, rfl⟩ : 1 = n ∧ 7 = len := by simpa using Option.some.inj shape
    obtain rfl : count = 1 := by omega
    have only : w.entries 7 readMonitor = (readMonitor data).map fun x => [x] := entries_one (bankedId .monitorPolicy) first (by omega)
    have piece : data = entryPiece data 7 0 := by
      refine List.ext_getElem (by simp [entryPiece]; omega) fun i h1 h2 => ?_
      simp [entryPiece, List.getD, List.getElem?_eq_getElem h1]
    have read : readMonitor data = _ := (congrArg readMonitor piece).trans (readMonitor_eq (e := e 0))
    generalize hm : MonitorPolicy.mk _ _ _ _ _ _ = m at read
    have stored : b.written .monitorPolicy w = Option.some { b with monitor := m } := by
      simp only [Bank.written, only, read, Option.map_some]
    rw [stored]
    refine ⟨iff_of_false (Option.some_ne_none _) fun ⟨_, _, no⟩ => no, fun c hc => ?_⟩
    rw [← Option.some.inj hc]
    refine ⟨rfl, fun j hj => ?_⟩
    obtain rfl : j = 0 := by omega
    exact hm.symm

end Sys2Proof.Machine

/-! PROOFS. A WRITE to a banked table: who may write, and what a changed FRONT table does (sections 9.3, 9.4, R41, R45, R58, R106,
R154). -/

namespace Sys2Proof.Machine

open Sys2Proof

/- In order: bodies elaborated side by side while the kernel still checks the text above each hold a thread's stack. -/
set_option Elab.async false

variable {s v x t p : State} {q : Port} {old : Bank} {k : BankedTable} {w : WriteRequest} {b : Bank}

/-! ### A restart of both Guard Monitors by a WRITE (R45) -/

/-- R45: a monitor that has restarted, where a tick end stands due or not. -/
def Guard.Restarted (g : Guard) (tickDue : Bool) : Prop :=
  g.marks = none ∧ g.playing = false ∧ g.void = true ∧ g.voidNext = tickDue ∧ g.silent = false ∧ g.frozen = false

theorem guardRestartBoth_restarted (s : State) (r : Rig) : (s.guardRestartBoth.guards.get r).Restarted s.tickDue := by
  unfold State.guardRestartBoth State.undoGuards
  split
  · cases r <;> exact ⟨rfl, rfl, rfl, rfl, rfl, rfl⟩
  · have judged : ∀ v : State, Touches [.parsers, .health] v ((v.reDivergedJudged .a).reDivergedJudged .b) := fun v =>
      (Touches.refl.reDivergedJudged (by decide)).reDivergedJudged (by decide)
    rw [(judged _).guards]
    cases r <;> exact ⟨rfl, rfl, rfl, rfl, rfl, rfl⟩

/-- With no guard decision of the instant to be undone a restart moves the monitors alone. -/
theorem guardRestartUnder_of_unguarded (none : v.instantHealth.unguarded = none) :
    (v.guardRestartUnder old).health = v.health ∧ (v.guardRestartUnder old).parsers = v.parsers := by
  unfold State.guardRestartUnder
  rw [guardRestartBoth_of_unguarded (s := v.setBank { v.bank with front := old }) none]
  exact ⟨rfl, rfl⟩

/-! ### The rigs' health under changed policies (R41, R58) -/

theorem policyBoth_health (v : State) (old : Table 11 FaultEntry) (r : Rig) :
    ((v.policyChange .a old).policyChange .b old).health.get r = (v.health.get r).policyChange old v.bank.front.fault := by
  have judged : ∀ (v : State) k, (v.policyChange k old).health = v.health.set k ((v.health.get k).policyChange old v.bank.front.fault) :=
    fun v k => State.moveHealth_health ..
  have bank := (Touches.refl.policyChange (by decide) : Touches [.health] v (v.policyChange .a old)).bank
  rw [judged, judged, bank]
  cases r <;> rfl

theorem restoreBoth_health (v : State) (r : Rig) :
    ((v.restoreChange .a).restoreChange .b).health.get r = (v.health.get r).restoreChange v.restoreTime := by
  have restored : ∀ (v : State) k, (v.restoreChange k).health = v.health.set k ((v.health.get k).restoreChange v.restoreTime) :=
    fun v k => State.moveHealth_health ..
  have time : (v.restoreChange .a).restoreTime = v.restoreTime := by
    unfold State.restoreTime
    rw [(Touches.refl.restoreChange (by decide) : Touches [.health] v (v.restoreChange .a)).bank]
  rw [restored, restored, time]
  cases r <;> rfl

/-! ### What a changed FRONT table does while STOPPED -/

/-- In STOPPED the arbiter's standing tests do nothing. -/
theorem run_of_stopped (stopped : v.arbiter.state = .stopped) : v.run = v :=
  run_still (completionHolds_of_not_changing (by rw [stopped]; exact ArbState.noConfusion))
    (lateFailoverHolds_of_not_blind (by rw [stopped]; exact ArbState.noConfusion))

/-- In STOPPED a health state that is handed on brings no move of the arbiter. -/
theorem stopped_handOneWith (stopped : v.arbiter.state = .stopped) (r : Rig) :
    v.handOneWith State.run r = v ∨ v.handOneWith State.run r = v.handedOn r := by
  by_cases same : (v.health.get r).state = (v.instantHealth.handing.get r).handed
  · exact .inl (if_pos same)
  · right
    have state : (v.handedOn r).arbiter.state = .stopped := by rw [(handedOn_handedOn v r).arbiter]; exact stopped
    have one : v.handOneWith State.run r = _ := if_neg same
    rw [one]
    change State.run (if _ then (v.handedOn r).goesDown r else if _ then (v.handedOn r).comesUp r else v.handedOn r) = _
    have falls : (v.handedOn r).goesDown r = v.handedOn r := by
      unfold State.goesDown
      rw [state]
      exact ite_self _
    rw [falls, comesUp_of_not_blind (by rw [state]; exact ArbState.noConfusion), ite_self, ite_self, run_of_stopped state]

/-- From `x` to `v` evidence and the handing on of health states have moved a STOPPED part. -/
structure StoppedKept (x v : State) : Prop where
  touched : Touches [.parsers, .health, .arbiter, .ports] x v
  stopped : v.arbiter.state = .stopped
  parsers : ∀ r, v.parsers.get r = { x.parsers.get r with diverged := (v.parsers.get r).diverged }
  flags : ∀ r k, (x.health.get r).flags.get k = true → (v.health.get r).flags.get k = true
  online : ∀ r, (x.health.get r).state ≠ .offline → (v.health.get r).state ≠ .offline
  notices : NoticesKept x v

theorem StoppedKept.refl (stopped : x.arbiter.state = .stopped) : StoppedKept x x :=
  ⟨.refl, stopped, fun _ => rfl, fun _ _ => id, fun _ => id, .refl x⟩

theorem StoppedKept.trans (a : StoppedKept x v) (b : StoppedKept v t) : StoppedKept x t :=
  ⟨a.touched.trans b.touched, b.stopped, fun r => by rw [b.parsers, a.parsers], fun r k hk => b.flags r k (a.flags r k hk),
    fun r on => b.online r (a.online r on), a.notices.trans b.notices⟩

theorem StoppedKept.noteEvidence (a : StoppedKept x v) (r : Rig) (kinds : KindSet) : StoppedKept x (v.noteEvidence r kinds) := by
  have touched : Touches [.health] v (v.noteEvidence r kinds) := Touches.refl.noteEvidence (by decide)
  have health := v.moveHealth_health r fun h =>
    { h with events := h.events.union (KindSet.filter kinds eventKind) }.evidence v.bank.front.fault v.restoreTime kinds
  refine a.trans ⟨touched.mono (by decide), by rw [touched.arbiter]; exact a.stopped, fun q => by rw [touched.parsers], fun q k set => ?_,
    ((Evidenced.refl v).noteEvidence r kinds).online, .of_ports touched.ports⟩
  rw [State.noteEvidence, health, PerRig.get_set]
  split
  · rename_i same
    subst same
    exact Health.evidence_flags_kept set
  · exact set

theorem StoppedKept.reDivergedBy (a : StoppedKept x v) (r : Rig) (y : HealthState) : StoppedKept x (v.reDivergedBy r y) := by
  have set : ∀ b, StoppedKept x (v.setParser r { v.parsers.get r with diverged := b }) := by
    intro b
    refine a.trans ⟨Touches.refl.setParser (by decide), a.stopped, fun q => ?_, fun _ _ => id, fun _ => id, .of_ports rfl⟩
    exact ((Carried.refl v).setDiverged r b).parsers q
  unfold State.reDivergedBy
  dsimp only
  split
  · exact a
  · split
    · exact (set _).noteEvidence r _
    · exact set _

theorem StoppedKept.handOne (a : StoppedKept x v) (r : Rig) : StoppedKept x (v.handOneWith State.run r) := by
  rcases stopped_handOneWith a.stopped r with same | handed
  · rw [same]
    exact a
  · generalize hy : (v.setHanding r { v.instantHealth.handing.get r with handed := (v.health.get r).state }).raiseAll
      .healthChanged = y
    have told : StoppedKept x y := by
      rw [← hy]
      exact a.trans ⟨(Touches.refl.setHanding (by decide)).raiseAll (by decide), a.stopped, fun _ => rfl, fun _ _ => id, fun _ => id,
        noticesKept_raiseAll_of rfl⟩
    have examined := told.reDivergedBy r.other (y.handed r.other.other)
    have result : v.handedOn r = (y.reDiverged r.other).reEligible := by rw [← hy]; rfl
    rw [handed, result]
    have last : Touches [.arbiter] (y.reDiverged r.other) (y.reDiverged r.other).reEligible := Touches.refl.reEligible (by decide)
    exact examined.trans ⟨last.mono (by decide), examined.stopped, fun _ => rfl, fun _ _ => id, fun _ => id, .of_ports rfl⟩

theorem StoppedKept.handSettled (a : StoppedKept x v) (r : Rig) : StoppedKept x (v.handSettledWith State.run r) :=
  handSettledWith_keeps (run := State.run) (I := StoppedKept x) (fun _ k b => b.handOne k) (s := v) a r

theorem StoppedKept.handBoth (a : StoppedKept x v) : StoppedKept x (v.handBothWith State.run) :=
  handBothWith_keeps (run := State.run) (I := StoppedKept x) (fun _ r b => b.handOne r)
    (fun _ b => by rw [run_of_stopped b.stopped]; exact b) a

/-- R41, R45, R58, R106, R154: what a WRITE to a FRONT table has done, `old` being the bank before it. -/
structure FrontTaken (k : BankedTable) (old : Bank) (v t : State) : Prop where
  bank : t.bank = v.bank
  tickDue : t.tickDue = v.tickDue
  restarts : v.bank.front.route ≠ old.route ∨ v.bank.front.monitor.silenceExponent ≠ old.monitor.silenceExponent →
    ∀ r, (t.guards.get r).Restarted v.tickDue
  guards : ¬ (v.bank.front.route ≠ old.route ∨ v.bank.front.monitor.silenceExponent ≠ old.monitor.silenceExponent) → t.guards = v.guards
  cleared : v.bank.front.matcher ≠ old.matcher → ∀ m, t.matchers.get m = { v.matchers.get m with matched := false }
  matchers : v.bank.front.matcher = old.matcher → t.matchers = v.matchers
  groups : k = .group → GroupsRetargeted v.bank.front v.arbiter v t
  mixer : k ≠ .group → t.mixer = v.mixer
  policy : k = .faultPolicy → (∀ r, v.divergedMarked r) → ∀ r, PolicyTaken old.fault v.bank.front.fault (v.health.get r) (t.health.get r)
  restore : k = .monitorPolicy → (∀ r, v.divergedMarked r) → v.instantHealth.unguarded = none →
    ∀ r, RestoreTaken v.bank.front.monitor.restoreTime (v.health.get r) (t.health.get r)

/-- A WRITE to one table leaves the routes as they were unless that is the Route table. -/
theorem SameOutside.route {c : Bank} {first count : Nat} (h : SameOutside b c first count k) (ne : k ≠ .route) : c.route = b.route := by
  cases k with
  | route => exact absurd rfl ne
  | monitorPolicy => exact (congrArg Bank.route (show c = { b with monitor := c.monitor } from h)).trans rfl
  | _ => exact (congrArg Bank.route h.1).trans rfl

theorem SameOutside.matcher {c : Bank} {first count : Nat} (h : SameOutside b c first count k) (ne : k ≠ .matcher) :
    c.matcher = b.matcher := by
  cases k with
  | matcher => exact absurd rfl ne
  | monitorPolicy => exact (congrArg Bank.matcher (show c = { b with monitor := c.monitor } from h)).trans rfl
  | _ => exact (congrArg Bank.matcher h.1).trans rfl

theorem SameOutside.monitor {c : Bank} {first count : Nat} (h : SameOutside b c first count k) (ne : k ≠ .monitorPolicy) :
    c.monitor = b.monitor := by
  cases k with
  | monitorPolicy => exact absurd rfl ne
  | _ => exact (congrArg Bank.monitor h.1).trans rfl

section Taken

variable {first count : Nat} (outside : SameOutside old v.bank.front first count k) (stopped : v.arbiter.state = .stopped)
  (none : v.bank.exchange = none)
include outside

/-- A table of which neither a monitor nor a matcher reads, and whose effect is `t`. -/
theorem FrontTaken.of_apart {bs : List Block} (hr : k ≠ .route) (hm : k ≠ .matcher) (hp : k ≠ .monitorPolicy) (touched : Touches bs v t)
    (apart : bs ⊆ [.parsers, .health, .arbiter, .ports, .mixer, .showClock] := by decide)
    (groups : k = .group → GroupsRetargeted v.bank.front v.arbiter v t) (mixer : k ≠ .group → t.mixer = v.mixer)
    (policy : k = .faultPolicy → (∀ r, v.divergedMarked r) →
      ∀ r, PolicyTaken old.fault v.bank.front.fault (v.health.get r) (t.health.get r)) : FrontTaken k old v t := by
  have route := outside.route hr
  have monitor := outside.monitor hp
  have touched := touched.mono apart
  refine ⟨touched.bank, touched.tickDue, fun restarts => ?_, fun _ => touched.guards, fun changed => absurd (outside.matcher hm) changed,
    fun _ => touched.matchers, groups, mixer, policy, fun monitored => absurd monitored hp⟩
  rw [route, monitor] at restarts
  exact restarts.elim (absurd rfl) (absurd rfl)

theorem frontTaken_matcher (hk : k = .matcher) : FrontTaken k old v (v.frontWritten k old) := by
  subst hk
  have route := outside.route (by decide)
  have monitor := outside.monitor (by decide)
  have apart : ∀ t, Touches [.matchers] v t →
      (v.bank.front.matcher ≠ old.matcher → ∀ m, t.matchers.get m = { v.matchers.get m with matched := false }) →
      (v.bank.front.matcher = old.matcher → t.matchers = v.matchers) → FrontTaken .matcher old v t := fun t touched cleared same =>
    ⟨touched.bank, touched.tickDue, fun h => absurd (h.elim id fun h => absurd (congrArg _ monitor) h) (fun h => h route),
      fun _ => touched.guards, cleared, same, nofun, fun _ => touched.mixer, nofun, nofun⟩
  unfold State.frontWritten
  dsimp only
  split
  · rename_i same
    exact apart _ .refl (fun changed => absurd same changed) fun _ => rfl
  · rename_i changed
    refine apart _ (Touches.refl.clearMemories (by decide)) (fun _ m => ?_) fun same => absurd same changed
    exact Table.get_map ..

include stopped

theorem frontTaken_route (hk : k = .route) : FrontTaken k old v (v.frontWritten k old) := by
  subst hk
  have monitor := outside.monitor (by decide)
  have matcher := outside.matcher (by decide)
  have apart : ∀ t, Touches [.parsers, .guards, .health, .arbiter, .ports] v t →
      (v.bank.front.route ≠ old.route → ∀ r, (t.guards.get r).Restarted v.tickDue) →
      (v.bank.front.route = old.route → t.guards = v.guards) → FrontTaken .route old v t := fun t touched restarted same =>
    ⟨touched.bank, touched.tickDue, fun h => restarted (h.elim id fun h => absurd (congrArg _ monitor) h),
      fun h => same (by_contra fun no => h (.inl no)), fun changed => absurd matcher changed, fun _ => touched.matchers, nofun,
      fun _ => touched.mixer, nofun, nofun⟩
  unfold State.frontWritten
  dsimp only
  split
  · rename_i same
    exact apart _ .refl (fun changed => absurd same changed) fun _ => rfl
  · rename_i changed
    have restart := touches_guardRestartUnder v old
    have handed := (StoppedKept.refl (x := v.guardRestartUnder old) (by rw [restart.arbiter]; exact stopped)).handBoth.touched
    refine apart _ ((restart.mono (by decide)).trans (handed.mono (by decide))) (fun _ r => ?_) fun same => absurd same changed
    rw [handed.guards]
    exact guardRestartBoth_restarted (v.setBank { v.bank with front := old }) r

theorem frontTaken_group (hk : k = .group) : FrontTaken k old v (v.frontWritten k old) := by
  subst hk
  have touched : Touches [.mixer] v v.retargetAll := Touches.refl.retargetAll (by decide)
  have still : v.frontWritten .group old = v.retargetAll := run_of_stopped (by rw [touched.arbiter]; exact stopped)
  rw [still]
  exact .of_apart outside (by decide) (by decide) (by decide) touched (groups := fun _ => groupsRetargeted_retargetAll v)
    (mixer := fun ne => absurd rfl ne) (policy := nofun)

theorem frontTaken_song (hk : k = .song) : FrontTaken k old v (v.frontWritten k old) := by
  subst hk
  have touched : Touches [.showClock] v (v.rebase old.song) := Touches.refl.rebase (by decide)
  have still : v.frontWritten .song old = v.rebase old.song := run_of_stopped (by rw [touched.arbiter]; exact stopped)
  rw [still]
  exact .of_apart outside (by decide) (by decide) (by decide) touched (groups := nofun) (mixer := fun _ => touched.mixer)
    (policy := nofun)

include none

theorem frontTaken_faultPolicy (hk : k = .faultPolicy) : FrontTaken k old v (v.frontWritten k old) := by
  subst hk
  generalize hu : (v.policyChange .a old.fault).policyChange .b old.fault = u
  have changed : Touches [.health] v u := by
    rw [← hu]
    exact (Touches.refl.policyChange (by decide)).policyChange (by decide)
  have result : v.frontWritten .faultPolicy old = u.handBothWith State.run := by rw [← hu]; rfl
  have handed := (StoppedKept.refl (x := u) (by rw [changed.arbiter]; exact stopped)).handBoth.touched
  have touched := (changed.mono (by decide)).trans handed
  rw [result]
  refine .of_apart outside (by decide) (by decide) (by decide) touched (groups := nofun) (mixer := fun _ => touched.mixer)
    (policy := fun _ marked r => ?_)
  have still : (u.handBothWith State.run).health = u.health := by
    refine health_handBoth standing_run (by rw [changed.bank]; exact none) fun r => ?_
    unfold State.divergedMarked
    rw [changed.parsers]
    exact marked r
  rw [still, ← hu, policyBoth_health]
  exact policyTaken_policyChange ..

theorem frontTaken_monitorPolicy (hk : k = .monitorPolicy) : FrontTaken k old v (v.frontWritten k old) := by
  subst hk
  have route := outside.route (by decide)
  have matcher := outside.matcher (by decide)
  generalize hu : (if v.bank.front.monitor.silenceExponent = old.monitor.silenceExponent then v else v.guardRestartUnder old) = u
  have restart : Touches [.parsers, .guards, .health] v u := by
    rw [← hu]
    split
    · exact .refl
    · exact touches_guardRestartUnder v old
  have unmoved : v.instantHealth.unguarded = Option.none → u.health = v.health ∧ u.parsers = v.parsers := by
    intro unguarded
    rw [← hu]
    split
    · exact ⟨rfl, rfl⟩
    · exact guardRestartUnder_of_unguarded unguarded
  generalize hw : (u.restoreChange .a).restoreChange .b = w
  have changed : Touches [.health] u w := by
    rw [← hw]
    exact (Touches.refl.restoreChange (by decide)).restoreChange (by decide)
  have result : v.frontWritten .monitorPolicy old = w.handBothWith State.run := by rw [← hw, ← hu]; rfl
  have handed := (StoppedKept.refl (x := w) (by rw [changed.arbiter, restart.arbiter]; exact stopped)).handBoth.touched
  have touched : Touches [.parsers, .guards, .health, .arbiter, .ports] v (w.handBothWith State.run) :=
    ((restart.mono (by decide)).trans (changed.mono (by decide))).trans (handed.mono (by decide))
  have guards : (w.handBothWith State.run).guards = u.guards := handed.guards.trans changed.guards
  rw [result]
  refine ⟨touched.bank, touched.tickDue, fun h r => ?_, fun h => ?_, fun h => absurd matcher h, fun _ => touched.matchers, nofun,
    fun _ => touched.mixer, nofun, fun _ marked unguarded r => ?_⟩
  · rw [guards, ← hu, if_neg (h.elim (absurd route) id)]
    exact guardRestartBoth_restarted (v.setBank { v.bank with front := old }) r
  · rw [guards, ← hu, if_pos (by_contra fun no => h (.inr no))]
  · obtain ⟨health, parsers⟩ := unmoved unguarded
    have still : (w.handBothWith State.run).health = w.health := by
      refine health_handBoth standing_run (by rw [changed.bank, restart.bank]; exact none) fun r => ?_
      unfold State.divergedMarked
      rw [changed.parsers, parsers]
      exact marked r
    have time : u.restoreTime = v.bank.front.monitor.restoreTime := by
      unfold State.restoreTime
      rw [restart.bank]
    rw [still, ← hw, restoreBoth_health, health, time]
    exact restoreTaken_restoreChange ..

theorem frontTaken_frontWritten : FrontTaken k old v (v.frontWritten k old) := by
  cases hk : k with
  | route => exact hk ▸ frontTaken_route outside stopped hk
  | group => exact hk ▸ frontTaken_group outside stopped hk
  | song => exact hk ▸ frontTaken_song outside stopped hk
  | matcher => exact hk ▸ frontTaken_matcher outside hk
  | faultPolicy => exact hk ▸ frontTaken_faultPolicy outside stopped none hk
  | monitorPolicy => exact hk ▸ frontTaken_monitorPolicy outside stopped none hk

end Taken

/-! ### The WRITE -/

theorem exec_writeBankedTable (s : State) (q : Port) (k : BankedTable) {first count n len : Nat} {data : List Byte}
    (shape : tableShape (bankedId k) = some (n, len)) (hc : 1 ≤ count) (hb : count ≤ 255) (hn : first + count ≤ n)
    (size : data.length = count * len) : exec (.writeBankedTable q k (writeBody (bankedId k) first count data)) s =
      .next ((s.opened q (4 + data.length)).answered q
        ((s.opened q (4 + data.length)).answerTable q k { id := bankedId k, first, count, data })) :=
  exec_write_answer (o := State.answerTable q k) rfl shape hc hb hn size (Nat.add_comm ..) (by cases k <;> rfl)

/-- R164: the answers of the Bank Store to a WRITE, in the order of its checks. -/
theorem answerTable_claimed (h : p.claimedFrom q = true) : p.answerTable q k w = (p, .claimed) := by
  unfold State.answerTable
  rw [if_pos h]

theorem answerTable_busy (h : p.claimedFrom q = false) (pending : p.bank.exchange ≠ none) : p.answerTable q k w = (p, .busy) := by
  unfold State.answerTable
  rw [h, if_neg Bool.false_ne_true, if_pos (Option.isSome_iff_ne_none.mpr pending)]

theorem answerTable_invalid (h : p.claimedFrom q = false) (none : p.bank.exchange = none) (bad : p.editable.written k w = Option.none) :
    p.answerTable q k w = (p, .invalid) := by
  unfold State.answerTable
  rw [h, none, bad]
  rfl

theorem takeClaim_bank (h : p.claimedFrom q = false) : p.takeClaim q = p.setBank { p.bank with claim := some q } := by
  unfold State.takeClaim
  rcases not_claimedFrom_iff.mp h with free | own
  · rw [free]; rfl
  · rw [own]; rfl

theorem answerTable_stored (h : p.claimedFrom q = false) (none : p.bank.exchange = none) (stored : p.editable.written k w = some b) :
    p.answerTable q k w = if p.arbiter.state = .stopped then
      ((p.setBank { p.bank with front := b, claim := some q }).frontWritten k p.bank.front, .done)
    else (p.setBank { p.bank with back := b, claim := some q }, .done) := by
  unfold State.answerTable
  rw [h, none, stored, takeClaim_bank h]
  unfold State.frontEditable
  by_cases stopped : p.arbiter.state = .stopped
  · rw [if_pos stopped]
    simp [stopped]
  · rw [if_neg stopped]
    simp [stopped]

/-- R45, R154: the clauses of a FRONT write, once the transaction has ended. -/
theorem FrontTaken.ported (h : FrontTaken k old v t) (e : Ported t x) : FrontTaken k old v x := by
  refine ⟨e.touched.bank.trans h.bank, e.touched.tickDue.trans h.tickDue, ?_, ?_, ?_, ?_, ?_, ?_, ?_, ?_⟩
  · rw [e.touched.guards]; exact h.restarts
  · rw [e.touched.guards]; exact h.guards
  · rw [e.touched.matchers]; exact h.cleared
  · rw [e.touched.matchers]; exact h.matchers
  · unfold GroupsRetargeted; rw [e.touched.mixer]; exact h.groups
  · rw [e.touched.mixer]; exact h.mixer
  · rw [e.touched.health]; exact h.policy
  · rw [e.touched.health]; exact h.restore

/-- R182: an answer DONE that moves the banks alone. -/
theorem onlyPort_setBank (p : State) (q : Port) (x : BankStore) : DoneOn (p.answered q (p.setBank x, .done)) q ∧
    OnlyPort q { p with bank := (p.answered q (p.setBank x, .done)).bank } (p.answered q (p.setBank x, .done)) ∧
    (p.answered q (p.setBank x, .done)).bank = x := by
  obtain ⟨only, done⟩ := onlyPort_answered p (p.setBank x) q
  have bank : (p.answered q (p.setBank x, .done)).bank = x := only.1.bank
  refine ⟨done, ?_, bank⟩
  rw [bank]
  exact only

/-- Settles O52: the answers of the Bank Store in order, and in STOPPED the effect of the FRONT table table by table. -/
theorem writeBankedTable : Obligations.WriteBankedTable := by
  refine ⟨?_, fun b k first count n len data => ?_⟩
  · intro s q k first count n len data p w shape one small hn size
    refine ⟨p.answered q (p.answerTable q k w), exec_writeBankedTable s q k shape one small hn size, ?_⟩
    clear_value p
    refine ⟨fun held => ?_, fun free => ?_⟩
    · exact refusedWith_answer (by decide) (by rw [answerTable_claimed (claimedFrom_iff.mpr held)])
    have free := not_claimedFrom_iff.mpr free
    refine ⟨fun pending => ?_, fun none bad => ?_, fun b none stored => ?_⟩
    · exact refusedWith_answer (by decide) (by rw [answerTable_busy free pending])
    · exact refusedWith_answer (by decide) (by rw [answerTable_invalid free none bad])
    rw [answerTable_stored free none stored]
    by_cases stopped : p.arbiter.state = .stopped
    · rw [if_pos stopped]
      generalize hv : p.setBank { p.bank with front := b, claim := some q } = v
      obtain ⟨only, done⟩ := onlyPort_answered p (v.frontWritten k p.bank.front) q
      have front : v.bank.front = b := by rw [← hv]; rfl
      have editable : p.editable = p.bank.front := by
        unfold State.editable State.frontEditable
        rw [stopped]
        rfl
      have outside : SameOutside p.bank.front v.bank.front first count k := by
        rw [front]
        exact ((written_iff p.bank.front k shape one hn size).2 b (by rw [← editable]; exact stored)).1
      have taken : FrontTaken k p.bank.front v (v.frontWritten k p.bank.front) :=
        frontTaken_frontWritten outside (by rw [← hv]; exact stopped) (by rw [← hv]; exact none)
      obtain ⟨bank, -, restarts, guards, cleared, matchers, groups, mixer, policy, restore⟩ :=
        taken.ported ⟨only.1, by rw [answered_done]; exact noticesKept_deselect_done _ q⟩
      rw [front] at restarts guards cleared matchers groups policy restore
      subst hv
      refine ⟨done, fun runs => absurd stopped runs, fun _ => ⟨bank, ⟨restarts, guards⟩, cleared, matchers, groups, mixer,
        fun marked r => ⟨fun hk => policy hk (fun i => divergedMarked_of (marked i)) r,
          fun hk unguarded => restore hk (fun i => divergedMarked_of (marked i)) unguarded r⟩⟩⟩
    · rw [if_neg stopped]
      obtain ⟨done, only⟩ := onlyPort_setBank p q { p.bank with back := b, claim := some q }
      exact ⟨done, fun _ => only, fun yes => absurd yes stopped⟩
  · exact written_iff b k

end Sys2Proof.Machine

/-! PROOFS. A WRITE to Show Setup: what it refuses, and what the blocks make of its changed fields (section 9.2, R8, R34, R39). -/

namespace Sys2Proof.Machine

open Sys2Proof

/- In order: bodies elaborated side by side while the kernel still checks the text above each hold a thread's stack. -/
set_option Elab.async false

variable {s v x t p : State} {q : Port} {r : Rig} {u old : ShowSetup}

/-! ### A changed sample rate (R8) -/

/-- R8: the Clock Input under a new nominal period. -/
structure NewlyRated (v t : State) : Prop where
  touched : Touches [.clock, .ports] v t
  clock : t.clock.source = .holdover ∧ t.clock.returnCounter = 0
  count : t.clock.count = v.clock.count
  noted : v.clock.source = .locked → Noted t .clockHoldover

theorem newlyRated_newRate (v : State) : NewlyRated v v.newRate := by
  have touched : Touches [.clock, .ports] v v.newRate := Touches.refl.newRate (by decide)
  unfold State.newRate at *
  dsimp only at *
  cases hc : v.clock.source with
  | locked =>
    rw [hc] at touched
    exact ⟨touched, ⟨rfl, rfl⟩, rfl, fun _ => noted_raiseAll _ _⟩
  | holdover =>
    rw [hc] at touched
    exact ⟨touched, ⟨rfl, rfl⟩, rfl, fun locked => ClockSource.noConfusion (hc.symm.trans locked)⟩

/-! ### MISSING under a changed beacon period (R34) -/

/-- In STOPPED evidence with everything that follows from it stays with the rigs' health, its readers and the notices. -/
theorem StoppedKept.applyEvidence (a : StoppedKept x v) (r : Rig) (kinds : KindSet) : StoppedKept x (v.applyEvidence r kinds) := by
  have noted : StoppedKept x (v.takeEvidence r kinds) := by
    unfold State.takeEvidence
    split
    · exact a.noteEvidence r kinds
    · exact a
  exact noted.handSettled r

theorem StoppedKept.applyEvidence_flag {kinds : KindSet} {k : Fin 11} (stopped : v.arbiter.state = .stopped)
    (on : (v.health.get r).state ≠ .offline) (hk : kinds.get k = true) :
    ((v.applyEvidence r kinds).health.get r).flags.get k = true := by
  have noted := (StoppedKept.refl stopped).noteEvidence r kinds
  rw [State.applyEvidence, State.applyEvidenceWith, State.takeEvidence, if_pos (KindSet.nonempty_iff.mpr ⟨k, hk⟩)]
  exact ((StoppedKept.refl noted.stopped).handSettled r).flags r k (noteEvidence_flag on hk)

/-- What a STOPPED part makes of MISSING judged afresh: `kept` names the rigs whose MISSING is not judged. -/
structure Rejudged (v t : State) (kept : Rig → Prop) : Prop where
  touched : Touches [.parsers, .health, .arbiter, .showClock, .tcOutput, .ports] v t
  stopped : t.arbiter.state = .stopped
  parsers : ∀ k, t.parsers.get k =
    { v.parsers.get k with missing := (t.parsers.get k).missing, diverged := (t.parsers.get k).diverged }
  missing : ∀ k, kept k → (t.parsers.get k).missing = (v.parsers.get k).missing
  flags : ∀ r k, (v.health.get r).flags.get k = true → (t.health.get r).flags.get k = true
  online : ∀ r, (v.health.get r).state ≠ .offline → (t.health.get r).state ≠ .offline
  notices : NoticesKept v t

theorem Rejudged.refl {kept : Rig → Prop} (stopped : v.arbiter.state = .stopped) : Rejudged v v kept :=
  ⟨.refl, stopped, fun _ => rfl, fun _ _ => rfl, fun _ _ => id, fun _ => id, .refl v⟩

theorem Rejudged.trans {kept : Rig → Prop} (a : Rejudged v x kept) (b : Rejudged x t kept) : Rejudged v t kept :=
  ⟨a.touched.trans b.touched, b.stopped, fun k => by rw [b.parsers, a.parsers], fun k hk => (b.missing k hk).trans (a.missing k hk),
    fun r k hk => b.flags r k (a.flags r k hk), fun r on => b.online r (a.online r on), a.notices.trans b.notices⟩

theorem StoppedKept.rejudged {kept : Rig → Prop} (a : StoppedKept v t) : Rejudged v t kept :=
  ⟨a.touched.mono (by decide), a.stopped, fun k => by rw [a.parsers], fun k _ => by rw [a.parsers], a.flags, a.online, a.notices⟩

theorem rejudged_setMissing (stopped : v.arbiter.state = .stopped) (r : Rig) (b : Bool) :
    Rejudged v (v.setParser r { v.parsers.get r with missing := b }) (· ≠ r) := by
  have parsers : ∀ k, (v.setParser r { v.parsers.get r with missing := b }).parsers.get k =
      if k = r then { v.parsers.get r with missing := b } else v.parsers.get k := fun k => PerRig.get_set ..
  refine ⟨Touches.refl.setParser (by decide), stopped, fun k => ?_, fun k hk => ?_, fun _ _ => id, fun _ => id, .of_ports rfl⟩
  · rw [parsers]
    split
    · rename_i same
      subst same
      rfl
    · rfl
  · rw [parsers, if_neg hk]

theorem rejudged_missingBegins (stopped : v.arbiter.state = .stopped) (r : Rig) : Rejudged v (v.missingBegins r) (· ≠ r) ∧
    ((v.missingBegins r).parsers.get r).missing = true ∧
    ((v.health.get r).state ≠ .offline → ((v.missingBegins r).health.get r).flags.get FaultKind.missing.idx = true) := by
  generalize hx : v.setParser r { v.parsers.get r with missing := true } = x
  have marked : Rejudged v x (· ≠ r) := by rw [← hx]; exact rejudged_setMissing stopped r true
  have missing : (x.parsers.get r).missing = true := by
    rw [← hx, State.setParser, setParsers_parsers, PerRig.get_set_same]
  generalize hy : (if x.arbiter.onAir = some r then x.enterFreewheel else x) = y
  have clock : Touches [.showClock, .tcOutput] x y := by
    rw [← hy]
    split
    · exact Touches.refl.enterFreewheel (by decide)
    · exact .refl
  have wheels : Rejudged v y (· ≠ r) := marked.trans ⟨clock.mono (by decide), by rw [clock.arbiter]; exact marked.stopped,
    fun k => by rw [clock.parsers], fun k _ => by rw [clock.parsers], fun _ _ h => by rw [clock.health]; exact h,
    fun _ h => by rw [clock.health]; exact h, .of_ports clock.ports⟩
  have result : v.missingBegins r = y.applyEvidence r (oneKind .missing) := by rw [← hy, ← hx]; rfl
  have judged := (StoppedKept.refl wheels.stopped).applyEvidence r (oneKind .missing)
  rw [result]
  refine ⟨wheels.trans judged.rejudged, ?_, fun on => ?_⟩
  · rw [judged.parsers, clock.parsers]
    exact missing
  · exact StoppedKept.applyEvidence_flag wheels.stopped (wheels.online r on) (by decide)

/-- R34: MISSING of a rig as its age gives it; with the flag where nothing of the instant stands before that. -/
structure MissingJudged (v t : State) (r : Rig) : Prop where
  ends : missingAt (v.parsers.get r).age v.period = false → (t.parsers.get r).missing = false
  stays : missingAt (v.parsers.get r).age v.period = true → (v.parsers.get r).missing = true → (t.parsers.get r).missing = true
  begins : missingAt (v.parsers.get r).age v.period = true → (v.parsers.get r).missing = false → (v.parsers.get r).judging = none →
    (v.links.get r).window = none → (t.parsers.get r).missing = true ∧
    ((v.health.get r).state ≠ .offline → (t.health.get r).flags.get FaultKind.missing.idx = true)

theorem MissingJudged.after {k : Rig} (a : MissingJudged v x r) (b : Rejudged x t (· ≠ k)) (ne : r ≠ k) : MissingJudged v t r := by
  have same := b.missing r ne
  refine ⟨fun early => same.trans (a.ends early), fun late missing => same.trans (a.stays late missing), fun late missing judging window => ?_⟩
  obtain ⟨begun, flagged⟩ := a.begins late missing judging window
  exact ⟨same.trans begun, fun on => b.flags _ _ (flagged on)⟩

theorem MissingJudged.before {k : Rig} (a : Rejudged v x (· ≠ k)) (ne : r ≠ k) (b : MissingJudged x t r) : MissingJudged v t r := by
  have same := a.missing r ne
  have age : (x.parsers.get r).age = (v.parsers.get r).age := by rw [a.parsers]
  have judging : (x.parsers.get r).judging = (v.parsers.get r).judging := by rw [a.parsers]
  have period : x.period = v.period := by rw [State.period, a.touched.bank]; rfl
  obtain ⟨ends, stays, begins⟩ := b
  rw [age, period] at ends stays begins
  rw [same] at stays begins
  rw [judging, a.touched.links] at begins
  exact ⟨ends, stays, fun late missing judging window => (begins late missing judging window).imp_right fun flag on => flag (a.online r on)⟩

/-- R34: MISSING of one rig judged afresh. -/
theorem rejudged_reMissing (stopped : v.arbiter.state = .stopped) (r : Rig) :
    Rejudged v (v.reMissing r) (· ≠ r) ∧ MissingJudged v (v.reMissing r) r := by
  obtain ⟨begins, marked, flagged⟩ := rejudged_missingBegins stopped r
  unfold State.reMissing
  dsimp only
  cases late : missingAt (v.parsers.get r).age v.period with
  | false =>
    rw [if_neg Bool.false_ne_true]
    refine ⟨rejudged_setMissing stopped r false, fun _ => ?_, fun no => absurd (late.symm.trans no) Bool.false_ne_true,
      fun no => absurd (late.symm.trans no) Bool.false_ne_true⟩
    rw [State.setParser, setParsers_parsers, PerRig.get_set_same]
  | true =>
    rw [if_pos rfl]
    by_cases waits : ((v.parsers.get r).missing || (v.parsers.get r).judging.isSome || v.windowDue r) = true
    · rw [if_pos waits]
      refine ⟨.refl stopped, fun no => absurd (no.symm.trans late) Bool.false_ne_true, fun _ => id, fun _ missing judging window => ?_⟩
      simp [missing, judging, State.windowDue, State.windowWait, window] at waits
    · rw [if_neg waits]
      exact ⟨begins, fun no => absurd (no.symm.trans late) Bool.false_ne_true, fun _ _ => marked, fun _ _ _ _ => ⟨marked, flagged⟩⟩

/-! ### A Show Setup that is taken (R162) -/

theorem silentAbandon_get (v : State) (r k : Rig) : (v.silentAbandon r).parsers.get k =
    if k = r then { v.parsers.get r with assembly := .waiting, judging := none } else v.parsers.get k := PerRig.get_set ..

theorem abandonUnless_get (v : State) (r k : Rig) (c : Prop) [Decidable c] : (if c then v else v.silentAbandon r).parsers.get k =
    if c ∨ k ≠ r then v.parsers.get k else { v.parsers.get k with assembly := .waiting, judging := none } := by
  split
  · rename_i h
    rw [if_pos (.inl h)]
  · rename_i h
    rw [silentAbandon_get]
    by_cases same : k = r
    · rw [if_pos same, if_neg (by simp [h, same]), same]
    · rw [if_neg same, if_pos (.inr same)]

/-- R162: what a taken Show Setup does before MISSING is judged. -/
structure Retuned (v x : State) (old : ShowSetup) : Prop where
  touched : Touches [.clock, .parsers, .ports] v x
  same : v.bank.setup.rate = old.rate → x.clock = v.clock
  rated : v.bank.setup.rate ≠ old.rate → x.clock.source = .holdover ∧ x.clock.returnCounter = 0 ∧
    (v.clock.source = .locked → Noted x .clockHoldover)
  count : x.clock.count = v.clock.count
  kept : v.bank.setup.pilot = old.pilot → x.parsers = v.parsers
  abandoned : ∀ r, v.bank.setup.pilot.get r ≠ old.pilot.get r → (x.parsers.get r).assembly = .waiting
  parsers : ∀ r, x.parsers.get r =
    { v.parsers.get r with assembly := (x.parsers.get r).assembly, judging := (x.parsers.get r).judging }
  judging : ∀ r, (v.parsers.get r).judging = none → (x.parsers.get r).judging = none

/-- R8, R24: a new rate and new pilot slots are taken. -/
def State.retuned (v : State) (old : ShowSetup) : State :=
  let s := if v.bank.setup.rate = old.rate then v else v.newRate
  let s := if v.bank.setup.pilot.a = old.pilot.a then s else s.silentAbandon .a
  if v.bank.setup.pilot.b = old.pilot.b then s else s.silentAbandon .b

theorem setupTaken_eq (v : State) (old : ShowSetup) : v.setupTaken old =
    if v.bank.setup.period = old.period then v.retuned old else ((v.retuned old).reMissing .a).reMissing .b := rfl

theorem retuned_retuned (v : State) (old : ShowSetup) : Retuned v (v.retuned old) old := by
  unfold State.retuned
  dsimp only
  generalize hx : (if v.bank.setup.rate = old.rate then v else v.newRate) = x
  have rated : Touches [.clock, .ports] v x ∧ (v.bank.setup.rate = old.rate → x.clock = v.clock) ∧ x.clock.count = v.clock.count ∧
      (v.bank.setup.rate ≠ old.rate → x.clock.source = .holdover ∧ x.clock.returnCounter = 0 ∧
        (v.clock.source = .locked → Noted x .clockHoldover)) := by
    rw [← hx]
    split
    · rename_i same
      exact ⟨.refl, fun _ => rfl, rfl, fun changed => absurd same changed⟩
    · rename_i changed
      obtain ⟨touched, ⟨source, counter⟩, count, noted⟩ := newlyRated_newRate v
      exact ⟨touched, fun same => absurd same changed, count, fun _ => ⟨source, counter, noted⟩⟩
  obtain ⟨touched, same, count, changed⟩ := rated
  generalize hy : (if v.bank.setup.pilot.a = old.pilot.a then x else x.silentAbandon .a) = y
  generalize hz : (if v.bank.setup.pilot.b = old.pilot.b then y else y.silentAbandon .b) = z
  have abandoned : Touches [.parsers] x z := by
    rw [← hz, ← hy]
    split <;> split
    · exact .refl
    · exact Touches.refl.silentAbandon (by decide)
    · exact Touches.refl.silentAbandon (by decide)
    · exact (Touches.refl.silentAbandon (by decide)).silentAbandon (by decide)
  have parser : ∀ r, z.parsers.get r = if v.bank.setup.pilot.get r = old.pilot.get r then v.parsers.get r
      else { v.parsers.get r with assembly := .waiting, judging := none } := by
    intro r
    rw [← touched.parsers, ← hz, abandonUnless_get, ← hy, abandonUnless_get]
    cases r with
    | a => by_cases h : v.bank.setup.pilot.a = old.pilot.a <;> simp [PerRig.get, h]
    | b => by_cases h : v.bank.setup.pilot.b = old.pilot.b <;> simp [PerRig.get, h]
  refine ⟨(touched.mono (by decide)).trans (abandoned.mono (by decide)), fun h => abandoned.clock.trans (same h), fun h => ?_,
    by rw [abandoned.clock]; exact count, fun h => ?_, fun r h => ?_, fun r => ?_, fun r h => ?_⟩
  · rw [abandoned.clock]
    exact (changed h).imp_right (And.imp_right fun noted locked => (noted locked).kept (.of_ports abandoned.ports))
  · have both : ∀ r, z.parsers.get r = v.parsers.get r := fun r => by rw [parser, h, if_pos rfl]
    exact congrArg₂ PerRig.mk (both .a) (both .b)
  · rw [parser, if_neg h]
  · rw [parser]
    split <;> rfl
  · rw [parser]
    split
    · exact h
    · rfl

/-- R39: after a sample instant the tick end is due exactly where S modulo P is 0. -/
theorem instant_tickDue (t : State) : t.instant.tickDue = ((t.clock.count + 1).toNat % t.period == 0) := by
  have blocks : t.instantBlocks.1.tickDue = t.countInstant.tickDue := by
    have first : Touches [.links, .parsers, .guards, .lines] t.countInstant (t.countInstant.sampleLink .a).1 :=
      Touches.refl.sampleLink (by decide)
    have second : Touches [.links, .parsers, .guards, .lines] (t.countInstant.sampleLink .a).1 ((t.countInstant.sampleLink .a).1.sampleLink .b).1 :=
      Touches.refl.sampleLink (by decide)
    exact second.tickDue.trans first.tickDue
  have judged : Touches eventBlocks t.instantBlocks.1 t.instant :=
    ((Touches.refl.takeEvidence (by decide)).takeEvidence (by decide)).handNew (by decide)
  exact judged.tickDue.trans blocks

/-- R162, R34: what the blocks have made of the Show Setup of `v`, the one before it being `old`. -/
structure SetupTaken (v t : State) (old : ShowSetup) : Prop where
  touched : Touches [.clock, .parsers, .health, .arbiter, .showClock, .tcOutput, .ports] v t
  same : v.bank.setup.rate = old.rate → t.clock = v.clock
  rated : v.bank.setup.rate ≠ old.rate → t.clock.source = .holdover ∧ t.clock.returnCounter = 0 ∧
    t.clock.count = v.clock.count ∧ (v.clock.source = .locked → Noted t .clockHoldover)
  count : t.clock.count = v.clock.count
  still : v.bank.setup.rate = old.rate → v.bank.setup.pilot = old.pilot → v.bank.setup.period = old.period → Touches [.ports] v t
  abandoned : v.bank.setup.period = old.period → ∀ r, v.bank.setup.pilot.get r ≠ old.pilot.get r →
    (t.parsers.get r).assembly = .waiting ∧ (t.parsers.get r).rejected = (v.parsers.get r).rejected
  judged : v.bank.setup.period ≠ old.period → ∀ r, (t.parsers.get r).age = (v.parsers.get r).age ∧
    (t.parsers.get r).record = (v.parsers.get r).record ∧ MissingJudged v t r

theorem setupTaken_setupTaken (stopped : v.arbiter.state = .stopped) (old : ShowSetup) : SetupTaken v (v.setupTaken old) old := by
  obtain ⟨touched, same, rated, count, kept, abandoned, parsers, judging⟩ := retuned_retuned v old
  rw [setupTaken_eq]
  generalize v.retuned old = x at *
  split
  · rename_i period
    refine ⟨touched.mono (by decide), same, fun h => ?_, count, fun rate pilot _ => ?_, fun _ r moved => ⟨abandoned r moved, by rw [parsers]⟩,
      fun changed => absurd period changed⟩
    · obtain ⟨source, counter, noted⟩ := rated h
      exact ⟨source, counter, count, noted⟩
    · intro b hb
      by_cases clock : b = .clock
      · rw [clock]; exact same rate
      · by_cases parser : b = .parsers
        · rw [parser]; exact kept pilot
        · exact touched b (by simp_all)
  · rename_i period
    have state : x.arbiter.state = .stopped := by rw [touched.arbiter]; exact stopped
    obtain ⟨first, ownA⟩ := rejudged_reMissing state .a
    obtain ⟨second, ownB⟩ := rejudged_reMissing first.stopped .b
    generalize hy : x.reMissing .a = y at *
    generalize hz : y.reMissing .b = z at *
    have rejudged : Touches [.parsers, .health, .arbiter, .showClock, .tcOutput, .ports] x z := first.touched.trans second.touched
    have judged : ∀ r, MissingJudged x z r
      | .a => ownA.after second (by decide)
      | .b => .before first (by decide) ownB
    refine ⟨(touched.mono (by decide)).trans (rejudged.mono (by decide)), fun h => rejudged.clock.trans (same h), fun h => ?_,
      by rw [rejudged.clock]; exact count, fun _ _ no => absurd no period, fun no => absurd no period, fun _ r => ?_⟩
    · obtain ⟨source, counter, noted⟩ := rated h
      rw [rejudged.clock]
      exact ⟨source, counter, count, fun locked => (noted locked).kept (first.notices.trans second.notices)⟩
    · have age : (x.parsers.get r).age = (v.parsers.get r).age := by rw [parsers]
      have missing : (x.parsers.get r).missing = (v.parsers.get r).missing := by rw [parsers]
      have times : x.period = v.period := by rw [State.period, touched.bank]; rfl
      obtain ⟨ends, stays, begins⟩ := judged r
      rw [age, times] at ends stays begins
      rw [missing] at stays begins
      rw [touched.links, touched.health] at begins
      refine ⟨by rw [second.parsers, first.parsers, parsers], by rw [second.parsers, first.parsers, parsers], ends, stays,
        fun late gone none window => begins late gone (judging r none) window⟩

theorem SetupTaken.ported (h : SetupTaken v t old) (k : Ported t x) : SetupTaken v x old := by
  obtain ⟨touched, same, rated, count, still, abandoned, judged⟩ := h
  have parsers := k.touched.parsers
  have health := k.touched.health
  have clock := k.touched.clock
  refine ⟨touched.trans (k.touched.mono (by decide)), by rw [clock]; exact same, fun h => ?_, by rw [clock]; exact count,
    fun rate pilot period => (still rate pilot period).trans k.touched, by rw [parsers]; exact abandoned, fun h r => ?_⟩
  · obtain ⟨source, counter, count, noted⟩ := rated h
    rw [clock]
    exact ⟨source, counter, count, fun locked => (noted locked).kept k.notices⟩
  · obtain ⟨age, record, ends, stays, begins⟩ := judged h r
    rw [parsers]
    exact ⟨age, record, by rw [parsers]; exact ends, by rw [parsers]; exact stays, by rw [parsers, health]; exact begins⟩

/-! ### The WRITE -/

theorem exec_writeShowSetup (s : State) {data : List Byte} (size : data.length = 9) :
    exec (.writeShowSetup .p (writeBody 24 0 1 data)) s =
      .next ((s.opened .p 13).answered .p ((s.opened .p 13).answerSetup { id := 24, first := 0, count := 1, data })) :=
  exec_write_answer (o := State.answerSetup) rfl rfl le_rfl (by decide) le_rfl (by omega) (by omega) rfl

theorem answerSetup_running {w : WriteRequest} (runs : p.arbiter.state ≠ .stopped) : p.answerSetup w = (p, .wrongState) := if_pos runs

theorem answerSetup_read {data : List Byte} (size : data.length = 9) (stopped : p.arbiter.state = .stopped) :
    p.answerSetup { id := 24, first := 0, count := 1, data } = match readSetup data with
      | some u => ((p.setBank { p.bank with setup := u }).setupTaken p.bank.setup, .done)
      | none => (p, .invalid) := by
  unfold State.answerSetup
  rw [if_neg (not_not_intro stopped), entries_one 24 0 (data := data) (len := 9) size]
  cases readSetup data <;> rfl

/-- R161: the beacon period in the samples that its byte gives. -/
theorem SetupHeld.samples {u : ShowSetup} {e : Nat → Byte} (h : SetupHeld u e) : u.period.samples = 256 * 2 ^ (e 1).toNat := by
  obtain ⟨-, period, -⟩ := h
  rw [← period]
  cases u.period <;> rfl

theorem missingAt_iff {age : Option Nat} {period : Nat} :
    missingAt age period = true ↔ age = none ∨ ∃ n, age = some n ∧ 2 * period < n := by
  cases age <;> simp [missingAt]

/-- Settles O53: the answers of the Bank Store in order, and then the blocks that the changed fields concern. -/
theorem writeShowSetup : Obligations.WriteShowSetup := by
  intro s rate period frames slotA slotB dh dl rightsA rightsB data e p
  refine ⟨p.answered .p (p.answerSetup { id := 24, first := 0, count := 1, data }), exec_writeShowSetup s rfl, ?_⟩
  clear_value p
  refine ⟨fun runs => refusedWith_answer (by decide) (by rw [answerSetup_running runs]), fun stopped refused => ?_, fun stopped fine => ?_⟩
  · have none : readSetup data = none := readSetup_none.mpr refused
    exact refusedWith_answer (by decide) (by rw [answerSetup_read rfl stopped, none])
  · obtain ⟨u, read⟩ := Option.ne_none_iff_exists'.mp fun none : readSetup data = none => fine (readSetup_none (e := e).mp none)
    have held : SetupHeld u e := readSetup_some read
    have answer : p.answerSetup { id := 24, first := 0, count := 1, data } =
        ((p.setBank { p.bank with setup := u }).setupTaken p.bank.setup, .done) := by
      rw [answerSetup_read rfl stopped, read]
    rw [answer]
    generalize hv : p.setBank { p.bank with setup := u } = v
    have banks : Touches [.bank] p v := by rw [← hv]; exact Touches.refl.setBank (by decide)
    have setup : v.bank.setup = u := by rw [← hv]; rfl
    obtain ⟨only, done⟩ := onlyPort_answered p (v.setupTaken p.bank.setup) .p
    generalize ht : p.answered .p (v.setupTaken p.bank.setup, .done) = t at *
    obtain ⟨touched, same, rated, count, still, abandoned, judged⟩ :=
      (setupTaken_setupTaken (by rw [banks.arbiter]; exact stopped) p.bank.setup).ported
        (show Ported _ t from ⟨only.1, by rw [← ht, answered_done]; exact noticesKept_deselect_done _ _⟩)
    have bank : t.bank = { p.bank with setup := u } := touched.bank.trans (by rw [← hv]; rfl)
    have samples : t.period = 256 * 2 ^ period.toNat := by rw [State.period, bank]; exact held.samples
    rw [setup] at same rated still abandoned judged
    refine ⟨u, held, done, bank, touched.lines.trans banks.lines, fun h => (same h).trans banks.clock, fun h => ?_,
      fun rate pilot period => (banks.mono (by decide)).trans ((still rate pilot period).mono (by decide)), fun h r moved => ?_,
      touched.tickDue.trans banks.tickDue, ?_, fun h r => ?_⟩
    · rw [← banks.clock]
      exact rated h
    · rw [← banks.parsers]
      exact abandoned h r moved
    · rw [instant_tickDue, samples, count, banks.clock, beq_iff_eq]
    · obtain ⟨age, record, ends, stays, begins⟩ := judged h r
      have times : v.period = 256 * 2 ^ period.toNat := by rw [← samples, State.period, State.period, touched.bank]
      rw [times, banks.parsers] at ends stays begins
      rw [banks.links, banks.health] at begins
      rw [banks.parsers] at age record
      exact ⟨age, record, fun early => ends (Bool.eq_false_iff.mpr fun late => early (missingAt_iff.mp late)),
        fun late => stays (missingAt_iff.mpr late), fun late => begins (missingAt_iff.mpr late)⟩

end Sys2Proof.Machine

/-! PROOFS. What a sample instant has set stands through everything that follows from it: the rings, the output frame, the
examination, and that no beacon waits for its judgement (R18, R26, R39, R61, R136). -/

namespace Sys2Proof.Machine

open Sys2Proof

/- In order: bodies elaborated side by side while the kernel still checks the text above each hold a thread's stack. -/
set_option Elab.async false

variable {s t u v : State} {r : Rig} {bs : List Block}

/-- From `s` to `t` the rings, the output frame and the open examination stand; no beacon comes to wait for its judgement, and no
tick end comes due. -/
structure Sampled (s t : State) : Prop where
  rings : ∀ r, (t.lines.get r).rings = (s.lines.get r).rings
  output : t.mixer.output = s.mixer.output
  lanes : t.mixer.lanes = s.mixer.lanes
  examine : t.showClock.examine = s.showClock.examine
  judging : ∀ r, (s.parsers.get r).judging = none → (t.parsers.get r).judging = none
  tickDue : s.tickDue = false → t.tickDue = false

theorem Sampled.refl (s : State) : Sampled s s := ⟨fun _ => rfl, rfl, rfl, rfl, fun _ => id, id⟩

theorem Sampled.trans (a : Sampled s t) (b : Sampled t u) : Sampled s u :=
  ⟨fun r => (b.rings r).trans (a.rings r), b.output.trans a.output, b.lanes.trans a.lanes, b.examine.trans a.examine,
    fun r h => b.judging r (a.judging r h), fun h => b.tickDue (a.tickDue h)⟩

/-- The blocks of which the relation says nothing. -/
abbrev unsampledBlocks : List Block :=
  [.clock, .links, .guards, .health, .alignment, .arbiter, .tcOutput, .matchers, .bank, .ports, .lamps, .device, .pending]

theorem Sampled.frame (a : Sampled s t) (b : Touches bs t u) (sub : bs ⊆ unsampledBlocks := by decide) : Sampled s u := by
  have still := b.mono sub
  exact a.trans ⟨fun r => by rw [still.lines], by rw [still.mixer], by rw [still.mixer], by rw [still.showClock],
    fun r h => by rw [still.parsers]; exact h, fun h => by rw [still.tickDue]; exact h⟩

theorem Sampled.ite {p : Prop} [Decidable p] (hu : p → Sampled s u) (hv : ¬ p → Sampled s v) : Sampled s (if p then u else v) := by
  split
  · exact hu ‹_›
  · exact hv ‹_›

theorem Sampled.foldl {α : Type} {f : State → α → State} (hf : ∀ u x, Sampled u (f u x)) : ∀ (l : List α) (t : State), Sampled t (l.foldl f t)
  | [], t => .refl t
  | x :: l, t => (hf t x).trans (Sampled.foldl hf l (f t x))

/-! ### One rule per block -/

theorem Sampled.raiseAll (a : Sampled s t) (n : Notice) : Sampled s (t.raiseAll n) := a.frame (bs := [.ports]) (Touches.refl.raiseAll (by decide))

theorem Sampled.setArbiter (a : Sampled s t) (x : Arbiter) : Sampled s (t.setArbiter x) :=
  a.frame (bs := [.arbiter]) (Touches.refl.setArbiter (by decide))

theorem Sampled.reEligible (a : Sampled s t) : Sampled s t.reEligible := a.setArbiter _

theorem Sampled.setAlignment (a : Sampled s t) (x : Alignment) : Sampled s (t.setAlignment x) :=
  a.frame (bs := [.alignment]) (Touches.refl.setAlignment (by decide))

theorem Sampled.setLink (a : Sampled s t) (r : Rig) (x : LinkRx) : Sampled s (t.setLink r x) :=
  a.frame (bs := [.links]) (Touches.refl.setLink (by decide))

theorem Sampled.setParser (a : Sampled s t) (r : Rig) (p : Parser) (h : (t.parsers.get r).judging = none → p.judging = none) :
    Sampled s (t.setParser r p) := by
  refine a.trans ⟨fun _ => rfl, rfl, rfl, rfl, fun k hk => ?_, id⟩
  rw [State.setParser, setParsers_parsers, PerRig.get_set]
  split
  · rename_i same
    subst same
    exact h hk
  · exact hk

theorem Sampled.setShowClock (a : Sampled s t) {x : ShowClock} (h : x.examine = t.showClock.examine) : Sampled s (t.setShowClock x) :=
  a.trans ⟨fun _ => rfl, rfl, rfl, h, fun _ => id, id⟩

theorem Sampled.setGroups (a : Sampled s t) (x : Table 8 Group) : Sampled s (t.setMixer { t.mixer with groups := x }) :=
  a.trans ⟨fun _ => rfl, rfl, rfl, rfl, fun _ => id, id⟩

theorem Sampled.retargetGroup (a : Sampled s t) (i : Fin 8) : Sampled s (t.retargetGroup i) := a.setGroups _

theorem Sampled.retargetAll (a : Sampled s t) : Sampled s t.retargetAll := a.setGroups _

theorem Sampled.handTargets (a : Sampled s t) : Sampled s t.handTargets := .ite (fun _ => a) fun _ => a.retargetAll

/-! ### The Show Clock -/

theorem handRecord_examine (s : State) (x : Timecode) (f : TcFlags) : (s.handRecord x f).showClock.examine = s.showClock.examine := rfl

theorem Sampled.handRecord (a : Sampled s t) (x : Timecode) (f : TcFlags) : Sampled s (t.handRecord x f) := by
  have touched : Touches [.showClock, .tcOutput] t (t.handRecord x f) := Touches.refl.handRecord (by decide)
  exact a.trans ⟨fun r => by rw [touched.lines], by rw [touched.mixer], by rw [touched.mixer], handRecord_examine t x f,
    fun r h => by rw [touched.parsers]; exact h, fun h => by rw [touched.tickDue]; exact h⟩

theorem Sampled.enterHeld (a : Sampled s t) (x : Timecode) : Sampled s (t.enterHeld x) := (a.setShowClock (by rfl)).handRecord _ _

theorem Sampled.takeFreewheelLimit (a : Sampled s t) : Sampled s t.takeFreewheelLimit := by
  unfold State.takeFreewheelLimit
  split
  · exact .ite (fun _ => a.enterHeld _) fun _ => a
  · exact a

theorem Sampled.enterFreewheel (a : Sampled s t) : Sampled s t.enterFreewheel :=
  .ite (fun _ => (a.setShowClock (by rfl)).takeFreewheelLimit) fun _ => a

theorem Sampled.clockCorrect (a : Sampled s t) (x : Stamp) : Sampled s (t.clockCorrect x) :=
  .ite (fun _ => a.setShowClock (by rfl)) fun _ => .ite (fun _ => a.setShowClock (by rfl)) fun _ => (a.setShowClock (by rfl)).raiseAll _

theorem Sampled.clockFollow (a : Sampled s t) (r : Rig) (rec : RigRecord) : Sampled s (t.clockFollow r rec) := by
  unfold State.clockFollow
  split
  · dsimp only
    split
    · exact .ite (fun _ => a) fun _ => a.setShowClock (by rfl)
    · exact .ite (fun _ => a.setShowClock (by rfl)) fun _ => a.setShowClock (by rfl)
    all_goals exact .ite (fun _ => a.clockCorrect _) fun _ => a.setShowClock (by rfl)
  · split
    · exact a
    · exact .ite (fun _ => a) fun _ => a.setShowClock (by rfl)
    all_goals exact (a.setShowClock (by rfl)).enterHeld _
  · split
    · exact a
    · exact a
    all_goals exact a.enterHeld _

theorem Sampled.clockReevaluate (a : Sampled s t) : Sampled s t.clockReevaluate := by
  unfold State.clockReevaluate
  split
  · exact a
  · rename_i r _
    have followed : Sampled s (match (t.parsers.get r).record with
        | some rec => t.clockFollow r rec
        | none => t) := by
      split
      · exact a.clockFollow _ _
      · exact a
    exact .ite (fun _ => followed.enterFreewheel) fun _ => followed

/-! ### The arbiter's own transitions -/

theorem Sampled.setDelay (a : Sampled s t) (r : Rig) (d : Nat) : Sampled s (t.setDelay r d) := by
  refine a.trans ⟨fun k => ?_, rfl, rfl, rfl, fun _ => id, id⟩
  rw [State.setDelay, setLines_lines, PerRig.get_set]
  split
  · rename_i same
    subst same
    rfl
  · rfl

theorem Sampled.placeDelay (a : Sampled s t) (d : Int) : Sampled s (t.placeDelay d) :=
  .ite (fun _ => a.setAlignment _) fun _ => (a.setDelay _ _).setAlignment _

theorem Sampled.settleDelay (a : Sampled s t) : Sampled s t.settleDelay := by
  unfold State.settleDelay
  dsimp only
  split
  · exact a.setAlignment _
  · exact a.setAlignment _
  · exact .ite (fun _ => ((a.setAlignment _).placeDelay _).raiseAll _) fun _ => a.setAlignment _
  all_goals exact .ite (fun _ => a.placeDelay _) fun _ => (a.setAlignment _).raiseAll _

theorem Sampled.updateSong (a : Sampled s t) : Sampled s t.updateSong := a.frame (bs := [.arbiter]) (Touches.refl.updateSong (by decide))

theorem Sampled.handOnAir (a : Sampled s t) : Sampled s t.handOnAir := a.settleDelay.reEligible.clockReevaluate.handTargets

theorem Sampled.enterChanging (a : Sampled s t) (c : Cause) : Sampled s (t.enterChanging c) := by
  unfold State.enterChanging
  split
  · exact a
  · exact (((a.frame (bs := [.arbiter]) (Touches.refl.openEntry (by decide))).setArbiter _).updateSong.raiseAll _).handOnAir

theorem Sampled.reverse (a : Sampled s t) : Sampled s t.reverse := by
  unfold State.reverse
  split
  · exact a
  · exact (((a.frame (bs := [.arbiter])
      ((Touches.refl.closeEntry (by decide)).openEntry (by decide))).setArbiter _).updateSong.raiseAll _).handOnAir

theorem Sampled.enterBlind (a : Sampled s t) : Sampled s t.enterBlind := ((a.setArbiter _).raiseAll _).handTargets

theorem Sampled.goesDown (a : Sampled s t) (r : Rig) : Sampled s (t.goesDown r) := by
  refine .ite (fun _ => ?_) fun _ => a
  split
  · exact a
  · exact a
  · exact .ite (fun _ => a.enterChanging _) fun _ => a.enterBlind
  · exact .ite (fun _ => a.reverse) fun _ => a

theorem Sampled.comesUp (a : Sampled s t) (r : Rig) : Sampled s (t.comesUp r) := .ite (fun _ => (a.setArbiter _).retargetAll) fun _ => a

theorem Sampled.completeWith {bank : State → State} (hb : ∀ u, Sampled u (bank u)) (a : Sampled s t) : Sampled s (t.completeWith bank) := by
  have closed := (a.frame (bs := [.arbiter]) (Touches.refl.closeEntry (e := .completed) (by decide))).setArbiter
    { (t.closeEntry .completed).arbiter with
      state := if (t.closeEntry .completed).onAirDown then .blind else .steady, outgoing := none }
  generalize hv : (t.closeEntry .completed).setArbiter _ = v at closed
  have told : Sampled s (if v.arbiter.state = .blind then v.raiseAll .blindEntered else v) := .ite (fun _ => closed.raiseAll _) fun _ => closed
  have settled := ((told.raiseAll .changeDone).settleDelay.reEligible).trans (hb _)
  unfold State.completeWith
  dsimp only
  rw [hv]
  exact .ite (fun _ => settled.handTargets) fun _ => settled

theorem Sampled.arbRunWith {bank : State → State} (hb : ∀ u, Sampled u (bank u)) :
    ∀ (n : Nat) {t : State}, Sampled s t → Sampled s (arbRunWith bank n t)
  | 0, _, a => a
  | n + 1, _, a =>
    .ite (fun _ => Sampled.arbRunWith hb n (a.completeWith hb)) fun _ =>
      .ite (fun _ => Sampled.arbRunWith hb n (a.enterChanging _)) fun _ => a

/-! ### Evidence and the handing on of health states -/

theorem Sampled.noteEvidence (a : Sampled s t) (r : Rig) (k : KindSet) : Sampled s (t.noteEvidence r k) :=
  a.frame (bs := [.health]) (Touches.refl.noteEvidence (by decide))

theorem Sampled.takeEvidence (a : Sampled s t) (r : Rig) (k : KindSet) : Sampled s (t.takeEvidence r k) :=
  a.frame (bs := [.health]) (Touches.refl.takeEvidence (by decide))

theorem Sampled.reDivergedBy (a : Sampled s t) (r : Rig) (x : HealthState) : Sampled s (t.reDivergedBy r x) :=
  .ite (fun _ => a) fun _ => .ite (fun _ => (a.setParser r _ (by exact id)).noteEvidence r _) fun _ => a.setParser r _ (by exact id)

theorem Sampled.setParsers (a : Sampled s t) {x : PerRig Parser} (h : ∀ k, (t.parsers.get k).judging = none → (x.get k).judging = none) :
    Sampled s (t.setParsers x) := a.trans ⟨fun _ => rfl, rfl, rfl, rfl, h, id⟩

theorem Sampled.undoGuards (a : Sampled s t) : Sampled s t.undoGuards := by
  unfold State.undoGuards
  split
  · exact a
  · rename_i u _
    have undecided := (a.frame (bs := [.health]) (Touches.refl.setUnguarded (x := none) (by decide))).frame (bs := [.guards])
      (Touches.refl.setGuards (x := t.guards.map Guard.undecide) (by decide))
    have undone := undecided.frame (bs := [.health]) (Touches.refl.setHealth (x := u.map (·.health)) (by decide))
    have parsers := undone.setParsers
      (x := ⟨{ t.parsers.a with diverged := u.a.diverged }, { t.parsers.b with diverged := u.b.diverged }⟩)
      fun k h => by cases k <;> exact h
    exact (parsers.reDivergedBy _ _).reDivergedBy _ _

theorem Sampled.guardRestartBoth (a : Sampled s t) : Sampled s t.guardRestartBoth :=
  Sampled.undoGuards (a.frame (bs := [.guards]) (Touches.refl.setGuards (by decide)))

theorem Sampled.rebase (a : Sampled s t) (old : Table 256 SongEntry) : Sampled s (t.rebase old) :=
  .ite (fun _ => a.setShowClock (by rfl)) fun _ => a

section Handing

variable {run : State → State} (hr : ∀ u, Sampled u (run u))
include hr

theorem Sampled.takeHealthWith (a : Sampled s t) (r : Rig) (x : Handing) : Sampled s (t.takeHealthWith run r x) :=
  (Sampled.ite (fun _ => a.reEligible.goesDown r) fun _ => .ite (fun _ => a.reEligible.comesUp r) fun _ => a.reEligible).trans (hr _)

theorem Sampled.handOneWith (a : Sampled s t) (r : Rig) : Sampled s (t.handOneWith run r) := by
  refine .ite (fun _ => a) fun _ => Sampled.takeHealthWith hr ?_ r _
  have handed := a.frame (bs := [.health])
    (Touches.refl.setHanding (r := r) (x := { t.instantHealth.handing.get r with handed := (t.health.get r).state }) (by decide))
  exact (handed.raiseAll .healthChanged).reDivergedBy _ _

theorem Sampled.handHealthWith (a : Sampled s t) (r : Rig) : Sampled s (t.handHealthWith run r) :=
  .ite (fun _ => a) fun _ => .ite (fun _ => a.handOneWith hr r) fun _ => (a.handOneWith hr r).handOneWith hr _

theorem Sampled.handSettledWith (a : Sampled s t) (r : Rig) : Sampled s (t.handSettledWith run r) :=
  .ite (fun _ => a) fun _ => a.handHealthWith hr r

theorem Sampled.handBothWith (a : Sampled s t) : Sampled s (t.handBothWith run) :=
  ((a.handSettledWith hr .a).handSettledWith hr .b).trans (hr _)

theorem Sampled.exchangeTakenWith (a : Sampled s t) : Sampled s (t.exchangeTakenWith run) := by
  have swapped := a.guardRestartBoth.frame (bs := [.bank]) (Touches.refl.setBank (x := { t.guardRestartBoth.bank with
    front := t.guardRestartBoth.bank.back, back := t.bank.front, claim := none, exchange := none }) (by decide))
  have judged := (swapped.raiseAll .bankExchanged).frame (bs := [.health])
    ((((Touches.refl.restoreChange (r := .a) (by decide)).restoreChange (r := .b) (by decide)).policyChange (r := .a)
      (f := t.bank.front.fault) (by decide)).policyChange (r := .b) (f := t.bank.front.fault) (by decide))
  have grouped : ∀ v, Sampled s v → Sampled s (if v.arbiter.state = .blind then v else v.retargetAll) :=
    fun v hv => .ite (fun _ => hv) fun _ => hv.retargetAll
  have rebased := ((grouped _ judged).rebase t.bank.front.song).frame (bs := [.matchers]) (Touches.refl.clearMemories (by decide))
  exact .ite (fun _ => (rebased.handBothWith hr).retargetAll) fun _ => rebased.handBothWith hr

theorem Sampled.dueExchangeWith (a : Sampled s t) : Sampled s (t.dueExchangeWith run) := by
  unfold State.dueExchangeWith
  split
  · exact a
  · exact .ite (fun _ => (a.frame (bs := [.health]) (Touches.refl.settleDues (by decide))).exchangeTakenWith hr) fun _ => a

end Handing

theorem Sampled.run (a : Sampled s t) : Sampled s t.run :=
  a.arbRunWith (fun u => (Sampled.refl u).dueExchangeWith fun v => (Sampled.refl v).arbRunWith (fun w => .refl w) 4) 4

theorem sampled_run (u : State) : Sampled u u.run := (Sampled.refl u).run

theorem Sampled.handHealth (a : Sampled s t) (r : Rig) : Sampled s (t.handHealth r) := a.handHealthWith sampled_run r

theorem Sampled.handSettled (a : Sampled s t) (r : Rig) : Sampled s (t.handSettled r) := a.handSettledWith sampled_run r

theorem Sampled.handNew (a : Sampled s t) : Sampled s t.handNew := (a.handSettled .a).handSettled .b

theorem Sampled.applyEvidence (a : Sampled s t) (r : Rig) (k : KindSet) : Sampled s (t.applyEvidence r k) :=
  (a.takeEvidence r k).handSettled r

end Sys2Proof.Machine

/-! PROOFS. The closing of an instant: each beacon is judged in it, and what the instant has set stands through the events that follow
(R26, R136, log 2). -/

namespace Sys2Proof.Machine

open Sys2Proof

/- In order: bodies elaborated side by side while the kernel still checks the text above each hold a thread's stack. -/
set_option Elab.async false

variable {s t u v : State} {r : Rig}

/-! ### No beacon waits for its judgement (R26) -/

/-- No beacon waits for its judgement. -/
def State.unjudged (s : State) : Prop := ∀ r, (s.parsers.get r).judging = none

theorem Sampled.unjudged (a : Sampled s t) (h : s.unjudged) : t.unjudged := fun r => a.judging r (h r)

theorem judgeBeacon_of_unjudged (h : s.unjudged) (r : Rig) (l : List BeaconReader) : s.judgeBeacon r l = s := by
  rw [State.judgeBeacon, h r]

theorem setParser_unjudges (s : State) (r : Rig) {p : Parser} (h : p.judging = none) (k : Rig) (hk : k = r ∨ (s.parsers.get k).judging = none) :
    ((s.setParser r p).parsers.get k).judging = none := by
  rw [State.setParser, setParsers_parsers, PerRig.get_set]
  split
  · exact h
  · rename_i other
    exact hk.resolve_left other

/-- R26: a judgement leaves no beacon of its own rig waiting, and brings none of the other. -/
theorem judgeBeacon_unjudges (s : State) (r : Rig) (l : List BeaconReader) (k : Rig) (hk : k = r ∨ (s.parsers.get k).judging = none) :
    ((s.judgeBeacon r l).parsers.get k).judging = none := by
  unfold State.judgeBeacon
  split
  · rename_i waits
    rcases hk with rfl | hk
    · exact waits
    · exact hk
  · rename_i j _
    generalize hv : s.setParser r { s.parsers.get r with judging := none } = v
    have none : (v.parsers.get k).judging = Option.none := by
      rw [← hv]
      exact setParser_unjudges s r rfl k hk
    have own : (v.parsers.get r).judging = Option.none := by
      rw [← hv]
      exact setParser_unjudges s r rfl r (.inl rfl)
    have rejected : ∀ kind, ((v.rejectBeacon r kind).parsers.get k).judging = Option.none := by
      intro kind
      unfold State.rejectBeacon
      rw [(carried_applyEvidence _ r (oneKind kind)).parsers k]
      exact setParser_unjudges v r (p := { v.parsers.get r with rejected := (v.parsers.get r).rejected + 1 }) own k (.inr none)
    dsimp only
    split
    · exact rejected _
    · split
      · exact rejected _
      · unfold State.acceptBeacon
        rw [parsed_readers (v.replaceRecord r j) (v.acceptance r j) (readerOrder l) k]
        obtain ⟨-, other, replaced, -⟩ := replaceRecord_leaves v r j
        by_cases same : k = r
        · subst same
          rw [replaced]
          exact own
        · obtain rfl : k = r.other := by revert same; cases k <;> cases r <;> simp [Rig.other]
          rw [other]
          exact none

theorem judgeBoth_unjudged (s : State) : ((s.judgeBeacon .a []).judgeBeacon .b []).unjudged := fun r =>
  judgeBeacon_unjudges _ .b [] r (by
    cases r with
    | a => exact .inr (judgeBeacon_unjudges s .a [] .a (.inl rfl))
    | b => exact .inl rfl)

/-! ### The events of the instant, with no beacon waiting -/

theorem Sampled.takeAcceptance (a : Sampled s t) : Sampled s t.takeAcceptance := by
  unfold State.takeAcceptance
  dsimp only
  split
  · exact a
  · exact .ite (fun _ => .ite (fun _ => a.setAlignment _) fun _ =>
      Sampled.run (Sampled.reEligible (Sampled.settleDelay ((a.setAlignment _).raiseAll _)))) fun _ => a

theorem Sampled.recordAbsent (a : Sampled s t) (r : Rig) : Sampled s (t.recordAbsent r) := by
  have absent := (a.setParser r { t.parsers.get r with record := none, selfFault := false } (by exact id)).frame (bs := [.guards])
    (Touches.refl.setGuard (r := r) (x := { t.guards.get r with playing := false }) (by decide))
  exact (absent.reDivergedBy r _).reDivergedBy r.other _

theorem Sampled.silentAbandon (a : Sampled s t) (r : Rig) : Sampled s (t.silentAbandon r) := a.setParser r _ fun _ => rfl

theorem Sampled.moveHealth (a : Sampled s t) (r : Rig) (m : Health → Health) : Sampled s (t.moveHealth r m) :=
  a.frame (bs := [.health]) (Touches.refl.moveHealth (by decide))

theorem Sampled.takeLockLost (a : Sampled s t) (h : s.unjudged) (r : Rig) : Sampled s (t.takeLockLost r) := by
  unfold State.takeLockLost
  dsimp only
  rw [judgeBeacon_of_unjudged (a.unjudged h)]
  exact .ite (fun _ => (((a.setLink r _).silentAbandon r).recordAbsent r).reEligible.run.applyEvidence _ _) fun _ => a

theorem Sampled.takeLockGained (a : Sampled s t) (r : Rig) : Sampled s (t.takeLockGained r) :=
  .ite (fun _ => ((a.setLink r _).setParser r _ (by exact id)).reEligible.run) fun _ => a

theorem Sampled.takeQualification (a : Sampled s t) (r : Rig) : Sampled s (t.takeQualification r) :=
  .ite (fun _ => (a.moveHealth r _).handSettled r) fun _ => a

theorem Sampled.takeRestoreComplete (a : Sampled s t) (r : Rig) : Sampled s (t.takeRestoreComplete r) :=
  .ite (fun _ => (a.moveHealth r _).handSettled r) fun _ => a

theorem Sampled.settleRig (a : Sampled s t) (r : Rig) : Sampled s (t.settleRig r) := by
  have settled := a.frame (bs := [.health]) (Touches.refl.settleUnguarded (r := r) (by decide))
  exact .ite (fun _ => settled) fun _ => (settled.takeQualification r).takeRestoreComplete r

theorem Sampled.takeAlignmentHeld (a : Sampled s t) : Sampled s t.takeAlignmentHeld :=
  a.frame (bs := [.alignment, .ports]) (Touches.refl.takeAlignmentHeld (by decide))

theorem Sampled.takeHoldLimit (a : Sampled s t) : Sampled s t.takeHoldLimit :=
  .ite (fun _ => ((a.setAlignment _).raiseAll _).reEligible.run) fun _ => a

theorem Sampled.resolve (a : Sampled s t) (h : s.unjudged) : Sampled s t.resolve :=
  ((((((a.takeAcceptance.takeLockLost h .a).takeLockLost h .b).takeLockGained .a).takeLockGained .b).settleRig .a).settleRig
    .b).handNew.takeAlignmentHeld.takeHoldLimit.takeFreewheelLimit

theorem Sampled.frameArrives (a : Sampled s t) (r : Rig) (f : Option Frame) : Sampled s (t.frameArrives r f) :=
  .ite (fun _ => (a.setLink r _).applyEvidence _ _) fun _ => a.setLink r _

theorem Sampled.takeMissingFrame (a : Sampled s t) (r : Rig) : Sampled s (t.takeMissingFrame r) :=
  .ite (fun _ => (a.setLink r _).frameArrives _ _) fun _ => a

theorem Sampled.closeWindow (a : Sampled s t) (r : Rig) : Sampled s (t.closeWindow r) := by
  unfold State.closeWindow
  dsimp only
  split
  · exact a
  · exact .ite (fun _ => (a.setLink r _).frameArrives _ _) fun _ => (a.setLink r _).frameArrives _ _

theorem Sampled.closeDueWindow (a : Sampled s t) (h : s.unjudged) (r : Rig) : Sampled s (t.closeDueWindow r) :=
  .ite (fun _ => ((a.closeWindow r).takeLockLost h r).takeLockGained r) fun _ => a

theorem Sampled.missingBegins (a : Sampled s t) (r : Rig) : Sampled s (t.missingBegins r) :=
  (Sampled.ite (fun _ => (a.setParser r _ (by exact id)).enterFreewheel) fun _ => a.setParser r _ (by exact id)).applyEvidence r _

theorem Sampled.takeLinkAbsent (a : Sampled s t) (h : s.unjudged) (r : Rig) : Sampled s (t.takeLinkAbsent r) := by
  unfold State.takeLinkAbsent
  dsimp only
  rw [judgeBeacon_of_unjudged (a.unjudged h)]
  refine .ite (fun _ => ?_) fun _ => a
  refine Sampled.run (Sampled.reEligible (Sampled.handHealth (.ite (fun _ => ?_) fun _ => Sampled.missingBegins ?_ r) r))
  all_goals
    exact ((((a.setLink r _).moveHealth r _).silentAbandon r).recordAbsent r).setParser r _ (by exact id)

theorem Sampled.takeMissingPresent (a : Sampled s t) (h : s.unjudged) (r : Rig) : Sampled s (t.takeMissingPresent r) := by
  have closed : Sampled s (if t.missingDue r then t.closeDueWindow r else t) := .ite (fun _ => a.closeDueWindow h r) fun _ => a
  unfold State.takeMissingPresent
  dsimp only
  rw [judgeBeacon_of_unjudged (closed.unjudged h)]
  exact .ite (fun _ => closed.missingBegins r) fun _ => closed

/-- The evidence of the instant once both beacons are judged. -/
theorem Sampled.presences (a : Sampled s t) (h : s.unjudged) :
    Sampled s ((t.takeMissingPresent .a).takeMissingPresent .b).resolve :=
  ((a.takeMissingPresent h .a).takeMissingPresent h .b).resolve h

theorem takeInstantEvidence_unjudged (s : State) : s.takeInstantEvidence.unjudged := by
  obtain ⟨v, hv⟩ : ∃ v : State, s.takeInstantEvidence =
    ((((v.judgeBeacon .a []).judgeBeacon .b []).takeMissingPresent .a).takeMissingPresent .b).resolve :=
    ⟨(((s.takeMissingFrame .a).takeMissingFrame .b).resolve.takeLinkAbsent .a).takeLinkAbsent .b, rfl⟩
  have judged := judgeBoth_unjudged v
  rw [hv]
  exact ((Sampled.refl _).presences judged).unjudged judged

theorem Sampled.takeInstantEvidence (a : Sampled s t) (h : s.unjudged) : Sampled s t.takeInstantEvidence := by
  have absent := ((((a.takeMissingFrame .a).takeMissingFrame .b).resolve h).takeLinkAbsent h .a).takeLinkAbsent h .b
  unfold State.takeInstantEvidence
  dsimp only
  rw [judgeBeacon_of_unjudged (absent.unjudged h), judgeBeacon_of_unjudged (absent.unjudged h)]
  exact absent.presences h

theorem Sampled.takeTransitionComplete (a : Sampled s t) (i : Fin 8) : Sampled s (t.takeTransitionComplete i) := by
  unfold State.takeTransitionComplete
  split
  · exact a
  · exact .ite (fun _ => (a.retargetGroup i).run) fun _ => a

theorem Sampled.takeSlewStep (a : Sampled s t) : Sampled s t.takeSlewStep := by
  unfold State.takeSlewStep
  dsimp only
  split
  · have set : ∀ x : ShowClock, x.examine = t.showClock.examine → Sampled s (t.setShowClock x) := fun _ h => a.setShowClock h
    refine .ite (fun _ => ?_) fun _ => a
    exact .ite (fun _ => set _ rfl) fun _ => set _ rfl
  · exact a

theorem Sampled.judgeTick (a : Sampled s t) : Sampled s t.judgeTick := by
  have rigs := (a.frame (bs := [.guards, .health]) (Touches.refl.tickRig (r := .a) (by decide))).frame (bs := [.guards, .health])
    (Touches.refl.tickRig (r := .b) (by decide))
  have judged : ∀ v k f, Sampled s v → Sampled s (v.tickJudge k f) := fun v k f b =>
    b.frame (bs := [.health]) (Touches.refl.tickJudge (by decide))
  exact (judged _ _ _ ((judged _ _ _ rigs).reDivergedBy _ _)).reDivergedBy _ _

theorem Sampled.setUnguarded (a : Sampled s t) (x : Option (PerRig Unguarded)) : Sampled s (t.setUnguarded x) :=
  a.frame (bs := [.health]) (Touches.refl.setUnguarded (by decide))

theorem Sampled.setTickDue (a : Sampled s t) : Sampled s (t.setTickDue false) :=
  a.trans ⟨fun _ => rfl, rfl, rfl, rfl, fun _ => id, fun _ => rfl⟩

/-- R39: a tick end that stood due stands due no more. -/
theorem takeTickEnd_tickDue (s : State) (r : Rig) : (s.takeTickEnd r).tickDue = false := by
  unfold State.takeTickEnd
  dsimp only
  split
  · generalize s.closeDueWindows.takeInstantEvidence = v
    have ended := (Sampled.refl (v.setTickDue false)).setUnguarded none
    exact ((((ended.judgeTick.setUnguarded _).setAlignment _).handSettled r).handSettled r.other).tickDue rfl
  · rename_i off
    exact Bool.eq_false_iff.mpr off

theorem Sampled.takeTickEnd (a : Sampled s t) (h : s.unjudged) (r : Rig) : Sampled s (t.takeTickEnd r) := by
  refine .ite (fun _ => ?_) fun _ => a
  have ended := ((((a.closeDueWindow h .a).closeDueWindow h .b).takeInstantEvidence h).setTickDue).setUnguarded none
  exact (((ended.judgeTick.setUnguarded _).setAlignment _).handSettled r).handSettled _

theorem Sampled.handLast (a : Sampled s t) (h : s.unjudged) (r : Rig) : Sampled s (t.handLast r) :=
  ((a.frame (bs := [.health]) (Touches.refl.standGuards (r := r) (by decide))).resolve h).handHealth r

theorem Sampled.handBoth (a : Sampled s t) (h : s.unjudged) : Sampled s t.handBoth := (a.handLast h _).handLast h _

theorem Sampled.takeHeldRecord (a : Sampled s t) : Sampled s t.takeHeldRecord := by
  unfold State.takeHeldRecord
  split
  · exact .ite (fun _ => (a.setShowClock (by rfl)).handRecord _ _) fun _ => a
  · exact a

end Sys2Proof.Machine

/-! PROOFS. What is left of an instant that is over: nothing due, and of a quiet part everything (log 2, R4, R136). -/

namespace Sys2Proof.Machine

open Sys2Proof

/- In order: bodies elaborated side by side while the kernel still checks the text above each hold a thread's stack. -/
set_option Elab.async false

variable {s t u v : State} {r : Rig}

/-! ### An instant that is over -/

/-- Nothing of the instant is left. -/
structure InstantOver (t : State) : Prop where
  tickDue : t.tickDue = false
  lamps : t.lamps.due = false
  examine : t.showClock.examine = false
  unguarded : t.instantHealth.unguarded = none
  rigs : ∀ r, (t.parsers.get r).judging = none ∧ (t.health.get r).relapsed = false ∧
    t.instantHealth.handing.get r = { before := (t.health.get r).state, handed := (t.health.get r).state }

theorem takeFrameBoundary_examine (s : State) : s.takeFrameBoundary.showClock.examine = false := by
  have emits : ∀ (v : State) x b f, (v.emitRunning x b f).showClock.examine = v.showClock.examine := fun _ _ _ _ => rfl
  have examined : ∀ v : State, v.examineRunning.showClock.examine = v.showClock.examine := by
    intro v
    unfold State.examineRunning
    split <;> split
    · exact emits ..
    · rfl
    · rfl
    · exact emits ..
    · exact emits ..
    · split
      · rfl
      · exact emits ..
  unfold State.takeFrameBoundary
  dsimp only
  split
  · split
    · rfl
    · rfl
    all_goals exact (examined _).trans rfl
  · rename_i off
    exact Bool.eq_false_iff.mpr off

theorem takeLampStep_lamps (s : State) : s.takeLampStep.lamps.due = false := by
  unfold State.takeLampStep
  split
  · rfl
  · rename_i off
    exact Bool.eq_false_iff.mpr off

/-- R39, R45, R55: the end of an instant of which nothing else is left. -/
theorem instantOver_endInstant (tickDue : v.tickDue = false) (lamps : v.lamps.due = false) (examine : v.showClock.examine = false)
    (judged : v.unjudged) : InstantOver v.endInstant := by
  refine ⟨tickDue, lamps, examine, rfl, fun r => ⟨judged r, ?_⟩⟩
  cases r <;> exact ⟨rfl, rfl⟩

theorem instantOver_closeInstant (s : State) : InstantOver s.closeInstant := by
  have judged := takeInstantEvidence_unjudged s.resolve
  generalize hc : s.resolve.takeInstantEvidence = c at judged
  have completed := Sampled.foldl (fun u i => (Sampled.refl u).takeTransitionComplete i) (List.finRange 8) c
  generalize hd : (List.finRange 8).foldl State.takeTransitionComplete c = d at completed
  have ticked := completed.takeSlewStep.takeTickEnd judged .a
  have tickDue := takeTickEnd_tickDue d.takeSlewStep .a
  generalize he : d.takeSlewStep.takeTickEnd .a = e at ticked tickDue
  have settled := ticked.unjudged judged
  have handed := ((Sampled.refl e).resolve settled).handBoth settled
  generalize hf : e.resolve.handBoth = f at handed
  have sent : Touches [.showClock, .tcOutput] f f.takeRecordSendEnd.takeFrameBoundary :=
    (Touches.refl.takeRecordSendEnd (by decide)).takeFrameBoundary (by decide)
  have examine := takeFrameBoundary_examine f.takeRecordSendEnd
  generalize hg : f.takeRecordSendEnd.takeFrameBoundary = g at sent examine
  have unjudged : g.unjudged := by
    intro r
    rw [sent.parsers]
    exact handed.unjudged settled r
  have resolved := (Sampled.refl g).resolve unjudged
  have recorded := resolved.takeHeldRecord
  generalize hw : g.resolve.takeHeldRecord = w at recorded
  have lamped : Touches [.lamps] w w.takeLampStep := Touches.refl.takeLampStep (by decide)
  have result : s.closeInstant = w.takeLampStep.endInstant := by
    rw [← hw, ← hg, ← hf, ← he, ← hd, ← hc]
    rfl
  rw [result]
  refine instantOver_endInstant ?_ (takeLampStep_lamps _) ?_ fun r => ?_
  · rw [lamped.tickDue]
    exact recorded.tickDue (by rw [sent.tickDue]; exact handed.tickDue tickDue)
  · rw [lamped.showClock, recorded.examine]
    exact examine
  · rw [lamped.parsers]
    exact recorded.unjudged unjudged r

/-! ### A quiet part (log 2) -/

/-- What `quiet` says, term by term. -/
structure Quiet (s : State) : Prop where
  rigs : ∀ r, s.rigDue r = false
  handed : ∀ r, (s.health.get r).state = s.handed r
  loss : ∀ r, (s.links.get r).lossDue = false
  absence : ∀ r, (s.links.get r).absenceDue = false
  judged : s.unjudged
  missing : ∀ r, s.missingDue r = false
  unguarded : s.instantHealth.unguarded = none
  tickDue : s.tickDue = false
  alignment : s.alignment.due = false
  transitions : ∀ i f, (s.mixer.groups.get i).transition = some f → f.k ≠ f.n
  slew : ∀ n, s.showClock.state = .slewing → s.showClock.slewCounter = some n → n < s.showClock.control.slewRate
  limit : s.showClock.limitDue = false
  cadence : s.showClock.cadenceDue = false
  examination : s.examinationGivesNone = true
  sending : ∀ y, s.tcOutput.sending = some y → y.left ≠ 0
  lamps : s.lamps.due = false

theorem quiet_of_quiet (h : s.quiet = true) : Quiet s := by
  simp only [State.quiet, Bool.and_eq_true, Bool.not_eq_true', List.all_eq_true, Bool.and_eq_false_iff] at h
  obtain ⟨⟨⟨⟨⟨⟨⟨⟨⟨⟨⟨rigA, rigB⟩, unguarded⟩, tickDue⟩, alignment⟩, transitions⟩, slew⟩, limit⟩, cadence⟩, examination⟩, sending⟩, lamps⟩ := h
  have rigs : ∀ r, s.rigQuiet r = true
    | .a => rigA
    | .b => rigB
  simp only [State.rigQuiet, Bool.and_eq_true, Bool.not_eq_true', beq_iff_eq] at rigs
  refine ⟨fun r => (rigs r).1.1.1.1.1, fun r => (rigs r).1.1.1.1.2, fun r => (rigs r).1.1.1.2, fun r => (rigs r).1.1.2,
    fun r => Option.isNone_iff_eq_none.mp (rigs r).1.2, fun r => (rigs r).2, Option.isNone_iff_eq_none.mp unguarded, tickDue, alignment,
    fun i f hf => ?_, fun n hs hn => ?_, limit, cadence, examination, fun y hy => ?_, lamps⟩
  · have moving := transitions i (List.mem_finRange i)
    rw [hf] at moving
    simpa using moving
  · rcases slew with state | counter
    · rw [hs] at state
      exact absurd state (by decide)
    · rw [hn] at counter
      simpa using counter
  · rw [hy] at sending
    simpa using sending

namespace Quiet

variable (q : Quiet s)
include q

theorem resolve : s.resolve = s := State.resolve_of_not_due q.rigs q.alignment q.limit

theorem takeInstantEvidence : s.takeInstantEvidence = s := by
  have frame : ∀ r, s.takeMissingFrame r = s := fun r => by
    have loss := q.loss r
    simp only [LinkRx.lossDue, Bool.or_eq_false_iff, Bool.and_eq_false_iff, bne_eq_false_iff_eq, decide_eq_false_iff_not] at loss
    exact if_neg fun ⟨here, two⟩ => loss.1.elim here fun short => short two
  have absent : ∀ r, s.takeLinkAbsent r = s := fun r => by
    have here := q.absence r
    simp only [LinkRx.absenceDue, Bool.and_eq_false_iff, bne_eq_false_iff_eq, decide_eq_false_iff_not] at here
    exact if_neg fun ⟨there, long⟩ => here.elim there fun short => short long
  have present : ∀ r, s.takeMissingPresent r = s := fun r => by
    unfold State.takeMissingPresent
    dsimp only
    rw [q.missing r, if_neg Bool.false_ne_true, judgeBeacon_of_unjudged q.judged, q.missing r, if_neg Bool.false_ne_true]
  simp only [State.takeInstantEvidence, frame, q.resolve, absent, judgeBeacon_of_unjudged q.judged, present]

theorem takeTransitionComplete (i : Fin 8) : s.takeTransitionComplete i = s := by
  unfold State.takeTransitionComplete
  split
  · rfl
  · rename_i f hf
    exact if_neg (q.transitions i f hf)

theorem foldTransitions (l : List (Fin 8)) : l.foldl State.takeTransitionComplete s = s := by
  induction l with
  | nil => rfl
  | cons i l ih => rw [List.foldl_cons, q.takeTransitionComplete, ih]

theorem takeSlewStep : s.takeSlewStep = s := by
  unfold State.takeSlewStep
  dsimp only
  split
  · rename_i n _ _ hs hn _ _
    exact if_neg (Nat.not_le.mpr (q.slew n hs hn))
  · rfl

theorem takeTickEnd (r : Rig) : s.takeTickEnd r = s := if_neg (by rw [q.tickDue]; exact Bool.false_ne_true)

theorem handBoth : s.handBoth = s := by
  have last : ∀ r, s.handLast r = s := fun r => by
    have stands : s.standGuards r = s := by rw [State.standGuards, q.unguarded]
    rw [State.handLast, stands, q.resolve]
    exact State.handHealthWith_unchanged _ (q.handed r)
  simp only [State.handBoth, last]

theorem takeRecordSendEnd : s.takeRecordSendEnd = s := by
  unfold State.takeRecordSendEnd
  split
  · rfl
  · rename_i y hy
    exact if_neg (q.sending y hy)

/-- R136: an examination that gives no record is only taken off. -/
theorem takeFrameBoundary : s.takeFrameBoundary = s.setShowClock { s.showClock with examine := false } := by
  generalize hv : s.setShowClock { s.showClock with examine := false } = v
  have none : s.examinationGivesNone = true := q.examination
  unfold State.takeFrameBoundary
  dsimp only
  by_cases opened : s.showClock.examine = true
  · have same : v.examineRunning = if s.showClock.state = .idle ∨ s.showClock.state = .held then v.examineRunning else v := by
      split
      · rfl
      · rename_i runs
        have elapsed : v.elapsed = s.elapsed := by rw [← hv]; rfl
        have frames : v.frameCount = s.frameCount := by rw [← hv]; rfl
        have last : v.showClock.lastFrame = s.showClock.lastFrame := by rw [← hv]; rfl
        simp only [State.examinationGivesNone, opened, Bool.not_true, Bool.false_or, Bool.or_eq_true, beq_iff_eq] at none
        have none := none.resolve_left runs
        unfold State.examineRunning
        rw [elapsed, frames, last]
        split
        · rename_i early
          rw [if_pos early] at none
          split
          · rename_i absent
            rw [absent] at none
            exact absurd none (by decide)
          · rfl
          · rfl
        · rename_i late
          rw [if_neg late] at none
          rw [beq_iff_eq.mp none]
          exact if_pos rfl
    rw [if_pos opened, hv]
    have state : v.showClock.state = s.showClock.state := by rw [← hv]; rfl
    rw [state]
    cases hs : s.showClock.state with
    | idle => rfl
    | held => rfl
    | _ => exact same.trans (if_neg (by rw [hs]; decide))
  · have off : s.showClock.examine = false := Bool.eq_false_iff.mpr opened
    rw [if_neg opened, ← hv, ← off]
    rfl

/-- Of a quiet part the closing of the instant leaves everything but what is kept of the instant and the open examination. -/
theorem closeInstant : s.closeInstant = (s.setShowClock { s.showClock with examine := false }).endInstant := by
  generalize hv : s.setShowClock { s.showClock with examine := false } = v
  have examined : s.takeFrameBoundary = v := q.takeFrameBoundary.trans hv
  have resolved : v.resolve = v := State.resolve_of_not_due (by rw [← hv]; exact q.rigs) (by rw [← hv]; exact q.alignment)
    (by rw [← hv]; exact q.limit)
  have held : v.takeHeldRecord = v := by
    unfold State.takeHeldRecord
    split
    · exact if_neg (by rw [← hv]; exact fun due => Bool.false_ne_true (q.cadence.symm.trans due))
    · rfl
  have lamp : v.takeLampStep = v := if_neg (by rw [← hv]; exact fun due => Bool.false_ne_true (q.lamps.symm.trans due))
  simp only [State.closeInstant, q.resolve, q.takeInstantEvidence, q.foldTransitions, q.takeSlewStep, q.takeTickEnd, q.handBoth,
    q.takeRecordSendEnd, examined, resolved, held, lamp]

end Quiet

theorem closeInstant_of_quiet (h : s.quiet = true) : Touches [.health, .showClock] s s.closeInstant ∧
    s.closeInstant.showClock = { s.showClock with examine := false } ∧
    ∀ r, s.closeInstant.health.get r = { s.health.get r with relapsed := false } := by
  rw [(quiet_of_quiet h).closeInstant]
  refine ⟨(Touches.refl.setShowClock (by decide)).endInstant (by decide), rfl, fun r => ?_⟩
  cases r <;> rfl

end Sys2Proof.Machine

/-! PROOFS. A sample instant block by block: the links' frames, the parsers, the Guard Monitors, the delay rings and the output frame
(sections 1.4, 1.6, 2.2, 3.2, 4.1, 6.5). -/

namespace Sys2Proof.Machine

open Sys2Proof

/- In order: bodies elaborated side by side while the kernel still checks the text above each hold a thread's stack. -/
set_option Elab.async false

variable {s t u v x : State} {r : Rig}

/-! ### The Guard Monitor at a sample (R43) -/

/-- R43: a monitor takes a frame's samples of the watched entries. -/
def Guard.takes (g : Guard) (exponent : Nat) (playing : Bool) (xs : List Sample) : Guard :=
  if g.void then g
  else
    match g.marks with
    | none => { g with marks := some (xs.map fun x => { first := x, silent := quiet exponent x, steady := true }), playing }
    | some ms => { g with marks := some (ms.zipWith (fun m x => m.next exponent x) xs) }

theorem guardSample_eq (v : State) (r : Rig) (f : Frame) : v.guardSample r f = v.setGuard r ((v.guards.get r).takes
    v.bank.front.monitor.silenceExponent (v.parsers.get r).playing (v.watched.map fun i => f.get ((v.bank.front.route.get i).slot r))) := by
  have same : v.setGuard r (v.guards.get r) = v := by cases r <;> rfl
  unfold State.guardSample Guard.takes
  dsimp only
  split
  · exact same.symm
  · cases (v.guards.get r).marks <;> rfl

/-! ### One link at a sample instant -/

/-- R14, R20, R43, R61: what a sample instant takes of one link from `v` to `x`, `k` being the evidence it raises. -/
structure LinkSampled (v x : State) (k : KindSet) (r : Rig) : Prop where
  touched : Touches [.links, .parsers, .guards, .lines] v x
  rings : (x.lines.get r).rings = ringWrite (v.lines.get r).rings (ringPos v.clock.count) (v.links.get r).read.1
  parser : x.parsers.get r = ((v.parsers.get r).older.word v.clock.count ((v.links.get r).read.1.get (v.bank.setup.pilot.get r))).1
  guard : x.guards.get r = (v.guards.get r).takes v.bank.front.monitor.silenceExponent (v.parsers.get r).playing
    (v.watched.map fun i => (v.links.get r).read.1.get ((v.bank.front.route.get i).slot r))
  kinds : k = (kindIf (v.links.get r).read.2.2 .slip).union (kindIf
    ((v.parsers.get r).older.word v.clock.count ((v.links.get r).read.1.get (v.bank.setup.pilot.get r))).2 .corrupt)

/-- What a sample instant takes of a link leaves the other rig. -/
structure OtherKept (v x : State) (r : Rig) : Prop where
  links : x.links.get r = v.links.get r
  parsers : x.parsers.get r = v.parsers.get r
  guards : x.guards.get r = v.guards.get r
  lines : x.lines.get r = v.lines.get r

theorem linkSampled_sampleLink (v : State) (r : Rig) :
    LinkSampled v (v.sampleLink r).1 (v.sampleLink r).2 r ∧ OtherKept v (v.sampleLink r).1 r.other := by
  have touched : Touches [.links, .parsers, .guards, .lines] v (v.sampleLink r).1 := Touches.refl.sampleLink (by decide)
  unfold State.sampleLink at *
  dsimp only at *
  rw [guardSample_eq] at *
  refine ⟨⟨touched, ?_, ?_, ?_, rfl⟩, ?_⟩
  · cases r <;> rfl
  · cases r <;> rfl
  · cases r <;> rfl
  · cases r <;> exact ⟨rfl, rfl, rfl, rfl⟩

/-- The other rig's sampling before it changes nothing of what a rig's own takes. -/
theorem LinkSampled.after {k : KindSet} (a : Touches [.links, .parsers, .guards, .lines] v u) (kept : OtherKept v u r)
    (b : LinkSampled u x k r) : LinkSampled v x k r := by
  obtain ⟨touched, rings, parser, guard, kinds⟩ := b
  have watched : u.watched = v.watched := by
    unfold State.watched
    rw [a.bank]
  rw [kept.lines, kept.links, a.clock] at rings
  rw [kept.parsers, kept.links, a.clock, a.bank] at parser kinds
  rw [kept.guards, kept.parsers, kept.links, a.bank, watched] at guard
  exact ⟨a.trans touched, rings, parser, guard, kinds⟩

theorem LinkSampled.before {k : KindSet} (a : LinkSampled v u k r) (touched : Touches [.links, .parsers, .guards, .lines] u x)
    (kept : OtherKept u x r) : LinkSampled v x k r :=
  ⟨a.touched.trans touched, by rw [kept.lines]; exact a.rings, by rw [kept.parsers]; exact a.parser, by rw [kept.guards]; exact a.guard,
    a.kinds⟩

/-- Both links at a sample instant, Link A first. -/
theorem linkSampled_both (v : State) (r : Rig) :
    LinkSampled v ((v.sampleLink .a).1.sampleLink .b).1
      ((⟨(v.sampleLink .a).2, ((v.sampleLink .a).1.sampleLink .b).2⟩ : PerRig KindSet).get r) r := by
  obtain ⟨first, keptB⟩ := linkSampled_sampleLink v .a
  obtain ⟨second, keptA⟩ := linkSampled_sampleLink (v.sampleLink .a).1 .b
  cases r with
  | a => exact first.before second.touched keptA
  | b => exact .after first.touched keptB second

/-! ### What a link, a parser and a monitor take (R14, R20 to R23, R34, R43) -/

theorem LinkRx.read_unlocked {l : LinkRx} (h : l.state ≠ .locked) : l.read = (zeroFrame, l, false) := by
  unfold LinkRx.read
  split
  · exact absurd ‹_› h
  · rfl
  · rfl

theorem LinkRx.read_oldest {l : LinkRx} {f : Frame} {rest : List Frame} (h : l.state = .locked) (store : l.store = f :: rest) :
    l.read = (f, { l with store := rest, lastRead := some f }, false) := by
  unfold LinkRx.read
  rw [h, store]

theorem LinkRx.read_empty {l : LinkRx} (h : l.state = .locked) (store : l.store = []) :
    l.read = (l.lastRead.getD zeroFrame, { l with slips := l.slips + 1 }, true) := by
  unfold LinkRx.read
  rw [h, store]

/-- R14: a slip is a read of an empty store. -/
theorem LinkRx.read_slips {l : LinkRx} : l.read.2.2 = true ↔ l.state = .locked ∧ l.store = [] := by
  by_cases h : l.state = .locked
  · cases store : l.store with
    | nil => simp [read_empty h store, h]
    | cons f rest => simp [read_oldest h store]
  · simp [read_unlocked h, h]

/-- R22, R23: a word abandons a beacon in hand exactly where it does not continue it. -/
theorem Parser.word_abandons (p : Parser) (now : Stamp) (w : Sample) :
    (p.word now w).2 = true ↔ p.assembly ≠ .waiting ∧ w.extractLsb' 16 8 ≠ 0x5A := by
  have byClass : pilotClass w = .continuing ↔ w.extractLsb' 16 8 = 0x5A := by
    unfold pilotClass
    split
    · rename_i start
      rw [start]
      decide
    · split
      · rename_i continuing
        simp [continuing]
      · rename_i other
        exact iff_of_false PilotClass.noConfusion other
  rw [ne_eq, ne_eq, ← byClass]
  cases hw : pilotClass w <;> cases hand : p.assembly <;> simp only [Parser.word, hw, hand]
  case continuing.assembling => split <;> simp
  all_goals simp

theorem Parser.older_eq (p : Parser) : p.older =
    { p with age := if p.ageSet then p.age else p.age.map fun n => min 65535 (n + 1), ageSet := false } := by
  unfold Parser.older
  cases h : p.ageSet
  · rw [if_neg Bool.false_ne_true, if_neg Bool.false_ne_true, ← h]
  · rfl

theorem Parser.playing_iff {p : Parser} : p.playing = true ↔ ∃ rec, p.record = some rec ∧ rec.transport = .playing := by
  unfold Parser.playing
  cases p.record <;> simp

/-- R43: a void monitor takes nothing. -/
theorem Guard.takes_void {g : Guard} (h : g.void = true) (e : Nat) (b : Bool) (xs : List Sample) : g.takes e b xs = g := if_pos h

theorem Guard.takes_first {g : Guard} (h : g.void = false) (none : g.marks = none) (e : Nat) (b : Bool) (xs : List Sample) :
    g.takes e b xs = { g with
      marks := some (xs.map fun x => { first := x, silent := quiet e x, steady := true }), playing := b } := by
  unfold Guard.takes
  rw [h, none, if_neg Bool.false_ne_true]

theorem Guard.takes_next {g : Guard} (h : g.void = false) {ms : List GuardMarks} (marks : g.marks = some ms) (e : Nat) (b : Bool)
    (xs : List Sample) : g.takes e b xs = { g with marks := some (ms.zipWith (fun m x => m.next e x) xs) } := by
  unfold Guard.takes
  rw [h, marks, if_neg Bool.false_ne_true]

/-! ### The output frame (R18, R111, R114) -/

/-- R114: a channel's sample hangs on its route, its group, the lines and the clock. -/
theorem channelSample_congr {i : Fin 64} (bank : u.bank = v.bank) (groups : u.mixer.groups = v.mixer.groups) (lines : u.lines = v.lines)
    (clock : u.clock = v.clock) : u.channelSample i = v.channelSample i := by
  unfold State.channelSample State.sourceSample State.delayed
  rw [bank, groups, lines, clock]

theorem Group.advance_eq (g : Group) : g.advance =
    { g with transition := g.transition.map fun f => { f with k := if f.k < f.n then f.k + 1 else f.k } } := by
  obtain ⟨mode, base, oneSong, current, transition, target⟩ := g
  cases transition with
  | none => rfl
  | some f =>
    unfold Group.advance
    simp only [Option.map_some]
    split <;> rfl

theorem high_byte_of_sample (x : Sample) : (x.setWidth 32 : SlotWord).extractLsb' 24 8 = 0 := by
  apply BitVec.eq_of_getLsbD_eq
  intro i hi
  simp [hi]

/-- What the production has sent, as the rest of the instant sees it. -/
structure Produced (v u : State) : Prop where
  touched : Touches [.mixer, .showClock, .tcOutput, .lamps] v u
  groups : u.mixer.groups = v.mixer.groups.map Group.advance
  output : u.mixer.output = some (Table.tab fun i => (u.channelSample i).setWidth 32)
  lanes : ∀ out, u.mixer.output = some out → u.mixer.lanes = laneFraming out

/-- The part at a sample instant before the production. -/
def State.linksSampled (s : State) : State := ((s.countInstant.sampleLink .a).1.sampleLink .b).1

theorem produced_instantBlocks (s : State) : Produced s.linksSampled s.instantBlocks.1 := by
  generalize hv : s.linksSampled = v
  generalize hu : s.instantBlocks.1 = u
  have mixer : u.mixer = v.produce.mixer := by rw [← hu, ← hv]; rfl
  have touched : Touches [.mixer, .showClock, .tcOutput, .lamps] v u := by
    rw [← hu, ← hv]
    exact (((Touches.refl.produce (by decide)).setShowClock (by decide)).setTcOutput (by decide)).setLamps (by decide)
  have groups : u.mixer.groups = v.mixer.groups.map Group.advance := by rw [mixer]; rfl
  have output : u.mixer.output = some (Table.tab fun i => (u.channelSample i).setWidth 32) := by
    have same : ∀ i, u.channelSample i = (v.setMixer { v.mixer with groups := v.mixer.groups.map Group.advance }).channelSample i :=
      fun i => channelSample_congr touched.bank groups touched.lines touched.clock
    simp only [same]
    rw [mixer]
    rfl
  refine ⟨touched, groups, output, fun out sent => ?_⟩
  rw [mixer] at sent ⊢
  rw [← Option.some.inj sent]
  rfl

end Sys2Proof.Machine

/-! PROOFS. The sample instant in every block, with what is taken before it (sections 1.1, 1.4, 1.6, 2.2, 3.1, 3.2, 4.1, 6.3, 6.5). -/

namespace Sys2Proof.Machine

open Sys2Proof

/- In order: bodies elaborated side by side while the kernel still checks the text above each hold a thread's stack. -/
set_option Elab.async false

variable {s t u v x : State} {r : Rig}

/-! ### The delay rings (R61) -/

/-- R61: within a ring's length a delay names another position than the one just written. -/
theorem ringPos_delayed {c : Stamp} {d : Nat} (most : d ≤ 1023) (some : d ≠ 0) :
    ringPos (c - BitVec.ofNat 32 d) ≠ ringPos c := by
  unfold ringPos
  rw [BitVec.toNat_sub, BitVec.toNat_ofNat, show Config.ringLength = 1024 from rfl]
  have := c.isLt
  omega

theorem delayed_written {slot : Fin 64} {f : Frame} {old : Rings} (wf : Rings.wf old)
    (written : (s.lines.get r).rings = ringWrite old (ringPos s.clock.count) f) (most : (s.lines.get r).delay ≤ 1023) :
    ((s.lines.get r).delay = 0 → s.delayed r slot = f.get slot) ∧
    ((s.lines.get r).delay ≠ 0 → s.delayed r slot =
      (ringRead old ((s.clock.count - BitVec.ofNat 32 (s.lines.get r).delay).toNat % 1024)).get slot) := by
  unfold State.delayed
  dsimp only
  rw [written]
  refine ⟨fun none => ?_, fun some => ?_⟩
  · rw [none, show s.clock.count - BitVec.ofNat 32 0 = s.clock.count from BitVec.sub_zero _, ringRead_ringWrite_same _ _ _ wf.1]
  · rw [ringRead_ringWrite_ne _ _ _ _ wf.1 (ringPos_delayed most some)]
    rfl

/-! ### A sample instant -/

/-- What the instant's evidence does once every block has taken the sample. -/
theorem sampled_instant (s : State) : Sampled s.instantBlocks.1 s.instant :=
  (((Sampled.refl s.instantBlocks.1).takeEvidence .a _).takeEvidence .b _).handNew

theorem touches_instant_evidence (s : State) : Touches eventBlocks s.instantBlocks.1 s.instant :=
  ((Touches.refl.takeEvidence (by decide)).takeEvidence (by decide)).handNew (by decide)

/-- A part whose S has moved on reads as the part before it but for S. -/
theorem linkSampled_instant (s : State) (r : Rig) :
    LinkSampled s.countInstant s.linksSampled (s.instantBlocks.2.get r) r := linkSampled_both s.countInstant r

theorem instantBlocks_groups (s : State) (i : Fin 8) : s.instantBlocks.1.mixer.groups.get i = { s.mixer.groups.get i with
    transition := (s.mixer.groups.get i).transition.map fun f => { f with k := if f.k < f.n then f.k + 1 else f.k } } := by
  rw [(produced_instantBlocks s).groups, Table.get_map, (linkSampled_instant s .a).touched.mixer, Group.advance_eq]
  rfl

/-- R18: the output frame of the instant and its lanes. -/
theorem instant_output (s : State) : ∃ out, s.instant.mixer.output = some out ∧ s.instantBlocks.1.mixer.output = some out ∧
    (∀ l : Fin 4, s.instant.mixer.lanes.get l =
      .marker :: (List.finRange 16).map fun k => .word (out.get ⟨16 * l.val + k.val, by omega⟩)) ∧
    ∀ i : Fin 64, out.get i = (s.instantBlocks.1.channelSample i).setWidth 32 ∧
      (out.get i).extractLsb' 24 8 = 0 ∧ ((s.bank.front.route.get i).enable = false → out.get i = 0) := by
  have produced := produced_instantBlocks s
  have links := (linkSampled_instant s .a).touched
  have stands := sampled_instant s
  have sent := produced.output
  refine ⟨_, stands.output.trans sent, sent, fun l => ?_, fun i => ?_⟩
  · rw [stands.lanes, produced.lanes _ sent]
    exact Table.get_tab ..
  · rw [Table.get_tab]
    refine ⟨rfl, high_byte_of_sample _, fun off => ?_⟩
    have silent : s.instantBlocks.1.channelSample i = 0 := by
      unfold State.channelSample
      dsimp only
      rw [produced.touched.bank, links.bank, show s.countInstant.bank = s.bank from rfl, off]
      rfl
    rw [silent]
    rfl

/-- R34: the evidence that a sample instant raises of a link. -/
theorem instant_kinds (s : State) (r : Rig) (k : Fin 11) : (s.instantBlocks.2.get r).get k = true ↔
    (k = FaultKind.slip.idx ∧ (s.links.get r).state = .locked ∧ (s.links.get r).store = []) ∨
    (k = FaultKind.corrupt.idx ∧ (s.parsers.get r).assembly ≠ .waiting ∧
      ((s.links.get r).read.1.get (s.bank.setup.pilot.get r)).extractLsb' 16 8 ≠ 0x5A) := by
  have same : s.countInstant.links = s.links ∧ s.countInstant.parsers = s.parsers ∧ s.countInstant.bank = s.bank := ⟨rfl, rfl, rfl⟩
  obtain ⟨links, parsers, bank⟩ := same
  have older : ∀ p : Parser, p.older.assembly = p.assembly := fun p => by rw [Parser.older_eq]
  rw [(linkSampled_instant s r).kinds, KindSet.get_union, Bool.or_eq_true, get_kindIf, get_kindIf, LinkRx.read_slips,
    Parser.word_abandons, older, links, parsers, bank]

theorem instant_guard (s : State) (r : Rig) : s.instantBlocks.1.guards.get r = (s.guards.get r).takes
    s.bank.front.monitor.silenceExponent (s.parsers.get r).playing
    (s.watched.map fun i => (s.links.get r).read.1.get ((s.bank.front.route.get i).slot r)) := by
  rw [(produced_instantBlocks s).touched.guards, (linkSampled_instant s r).guard]
  rfl

/-- R42: the samples that a monitor takes, as the statement writes them. -/
theorem watched_slots (s : State) (r : Rig) (f : Frame) : s.watched.map (fun i => f.get ((s.bank.front.route.get i).slot r)) =
    (((List.finRange 64).filter fun i => (s.bank.front.route.get i).guardFlag).take 4).map fun i =>
      f.get (match r with | .a => (s.bank.front.route.get i).slotA | .b => (s.bank.front.route.get i).slotB) := by
  cases r <;> rfl

theorem instant_parser (s : State) (r : Rig) : s.instantBlocks.1.parsers.get r = ((s.parsers.get r).older.word (s.clock.count + 1)
    ((s.links.get r).read.1.get (s.bank.setup.pilot.get r))).1 := by
  rw [(produced_instantBlocks s).touched.parsers, (linkSampled_instant s r).parser]
  rfl

theorem instant_rings (s : State) (r : Rig) : (s.instant.lines.get r).rings =
    ringWrite (s.lines.get r).rings (ringPos (s.clock.count + 1)) (s.links.get r).read.1 := by
  rw [(sampled_instant s).rings, (produced_instantBlocks s).touched.lines, (linkSampled_instant s r).rings]
  rfl

/-- Settles O26: the instant block by block, the closing before it, the rings and the elastic store. -/
theorem sampleInstantDelayAndStore : Obligations.SampleInstantDelayAndStore := by
  refine ⟨?instant, ?closing, ?events, ?rings, ?store⟩
  case instant =>
    intro s u raised t S
    have blocks : Touches [.clock, .links, .parsers, .guards, .lines, .mixer, .showClock, .tcOutput, .lamps, .tickDue] s u :=
      Touches.refl.instantBlocks (by decide)
    refine ⟨rfl, touches_instant_evidence s, blocks, instant_clock s, ?_, instantBlocks_groups s, instant_output s, fun r => ?_⟩
    · rw [instant_tickDue, beq_iff_eq]
      rfl
    · intro l frame old w g h xs silent
      have taken : h = g.takes s.bank.front.monitor.silenceExponent old.playing xs := by
        rw [show xs = _ from (watched_slots s r frame).symm]
        exact instant_guard s r
      refine ⟨instant_rings s r, ?_, instant_kinds s r, fun void => ?_, fun runs none => ?_, fun runs ms marks => ?_⟩
      · rw [instant_parser, Parser.older_eq]
      · rw [taken, Guard.takes_void void]
      · rw [taken, Guard.takes_first runs none]
        exact ⟨rfl, Parser.playing_iff⟩
      · rw [taken, Guard.takes_next runs marks]
        rfl
  case closing =>
    intro s t a b
    obtain ⟨tickDue, lamps, examine, unguarded, rigs⟩ := instantOver_closeInstant s
    exact ⟨rfl, rfl, Touches.refl.closeInstant (by decide), tickDue, lamps, examine, unguarded, rigs, closeInstant_of_quiet⟩
  case events =>
    intro s r i
    exact ⟨rfl, rfl, rfl, rfl, rfl, rfl, rfl, rfl, rfl, rfl, rfl⟩
  case rings =>
    intro s r slot f old wf written most
    exact delayed_written wf written most
  case store =>
    intro l
    exact ⟨LinkRx.read_unlocked, fun locked f rest => LinkRx.read_oldest locked, LinkRx.read_empty⟩

end Sys2Proof.Machine
